-- ==== Sys2Proof/Word.lean ====
section
/-! DEFINITION. The byte, the uptime count, and a table of a fixed number of like things. -/

namespace Sys2Proof

/-- One byte of the trust line. -/
abbrev Byte := BitVec 8

/-- An uptime count: 32 bits, counted on modulo 2^32 (R151). -/
abbrev Count := BitVec 32

/-- `n` like things in a row, numbered from 0. -/
structure Tbl (α : Type) (n : Nat) where
  list : List α
  size : list.length = n
  deriving DecidableEq, Repr

/-- A byte string of a fixed length, first byte first. -/
abbrev Bytes (n : Nat) := Tbl Byte n

namespace Tbl

variable {α β : Type} {n : Nat}

/-- The `i`-th entry. -/
def get (t : Tbl α n) (i : Fin n) : α :=
  t.list[i.val]'(by rw [t.size]; exact i.isLt)

/-- The table with its `i`-th entry replaced. -/
def set (t : Tbl α n) (i : Fin n) (a : α) : Tbl α n :=
  ⟨t.list.set i.val a, by rw [List.length_set, t.size]⟩

/-- The table with every entry replaced by its image. -/
def map (f : α → β) (t : Tbl α n) : Tbl β n :=
  ⟨t.list.map f, by rw [List.length_map, t.size]⟩

/-- The table whose `i`-th entry is `f i`. -/
def ofFn (f : Fin n → α) : Tbl α n :=
  ⟨(List.finRange n).map f, by simp⟩

/-- The table whose entries are all `a`. -/
def replicate (n : Nat) (a : α) : Tbl α n :=
  ⟨List.replicate n a, by simp⟩

/-- The table whose `i`-th entry is `f i` of the old one. -/
def mapFin (f : Fin n → α → β) (t : Tbl α n) : Tbl β n :=
  ofFn fun i => f i (t.get i)

end Tbl

end Sys2Proof
end

