-- ==== Sys2Proof/Syntax.lean ====
section
/-! DEFINITION. The commands of the part: one constructor for each row of spec/opcode_table.json, with its operands. -/

namespace Sys2Proof

/-- A station of the part, 0 BOOT, 1 LOADER, 2 SYSTEM, 3 SERVICE (R160). -/
abbrev Station := Fin 4
/-- A slot of the key table (R1). -/
abbrev Slot := Fin 64
/-- An evidence chain (R31). -/
abbrev ChainNo := Fin 12
/-- A credential id (R114). -/
abbrev CredId := Fin 16
/-- An image class, 0 BOOTLOADER, 1 SYSTEM, 2 RADIO, 3 CONFIG (R90). -/
abbrev ClassNo := Fin 4
/-- An entry of the target table (R87). -/
abbrev TargetNo := Fin 8

/-- What the two samplers read of the phase that a tick ends, the first sample first, `true` where the line reads low.
Of BUTTON: the whole phase, in which 25 periods have no twenty-sixth sample (R150, R156). Of SOCRST_SENSE: what the
sense sampler reads between its last command and the tick (R155). DESIGN CHOICE, log 39; safe. -/
structure PhaseSamples where
  button : Tbl Bool 26
  sense : List Bool
  deriving DecidableEq, Repr

/-- Why a received character is bad (R180). -/
inductive BadKind
  | framing
  | overrun
  deriving DecidableEq, Repr

/-- The records of the store (R176, R203). -/
inductive RecordId
  | revocationList
  | keySlot (slot : Slot)
  | credential (id : CredId)
  | classRecord (cls : ClassNo)
  | partResetCount
  | certificate
  | settings
  | ownerResetMark
  deriving DecidableEq, Repr

/-- What goes wrong with the store writes of one start-up, writes counted from 0 (R204). `landed` says whether the
record of that write holds its new contents afterwards (R176). -/
inductive StartUpTrouble
  | none
  | writeFails (at' : Nat) (landed : Bool)
  | powerLost (at' : Nat) (landed : Bool)
  deriving DecidableEq, Repr

/-- What the outside decides about one part reset: how a store write that the reset cuts short is left, which stored
records fail their check, and what goes wrong with the start-up's own writes (R176, R203, R204). DESIGN CHOICE, log 6;
safe. -/
structure StartUpInput where
  landed : Bool
  bad : List RecordId
  trouble : StartUpTrouble
  deriving DecidableEq, Repr

/-- The requests the part knows (R206). -/
inductive ReqCode
  | fetch
  | abort
  | status
  | conditions
  | clearConditions
  | setNoticeMask
  | closeStage
  | settingsRead
  | settingsWrite
  | ownerReset
  | keyGenerate
  | keyImport
  | keySign
  | keyVerify
  | keyDerive
  | keyErase
  | keyInfo
  | keyPublic
  | chainExtend
  | chainFreeze
  | chainRead
  | logRead
  | quote
  | identityRead
  | updateOpen
  | updateData
  | updateAbort
  | targetPrepare
  | targetActivate
  | targetDiscard
  | targetList
  | bootQuery
  | bootConfirm
  | floorRead
  | credSet
  | credVerify
  | credRelease
  | credClear
  | credInfo
  | grantDrop
  deriving DecidableEq, Repr

/-- The commands. A frame row is one whole request frame for a station: its flags byte and its body. -/
inductive Instr
  | fetch (st : Station) (flags : Byte) (body : List Byte)
  | abort (st : Station) (flags : Byte) (body : List Byte)
  | status (st : Station) (flags : Byte) (body : List Byte)
  | conditions (st : Station) (flags : Byte) (body : List Byte)
  | clearConditions (st : Station) (flags : Byte) (body : List Byte)
  | setNoticeMask (st : Station) (flags : Byte) (body : List Byte)
  | closeStage (st : Station) (flags : Byte) (body : List Byte)
  | settingsRead (st : Station) (flags : Byte) (body : List Byte)
  | settingsWrite (st : Station) (flags : Byte) (body : List Byte)
  | ownerReset (st : Station) (flags : Byte) (body : List Byte)
  | keyGenerate (st : Station) (flags : Byte) (body : List Byte)
  | keyImport (st : Station) (flags : Byte) (body : List Byte)
  | keySign (st : Station) (flags : Byte) (body : List Byte)
  | keyVerify (st : Station) (flags : Byte) (body : List Byte)
  | keyDerive (st : Station) (flags : Byte) (body : List Byte)
  | keyErase (st : Station) (flags : Byte) (body : List Byte)
  | keyInfo (st : Station) (flags : Byte) (body : List Byte)
  | keyPublic (st : Station) (flags : Byte) (body : List Byte)
  | chainExtend (st : Station) (flags : Byte) (body : List Byte)
  | chainFreeze (st : Station) (flags : Byte) (body : List Byte)
  | chainRead (st : Station) (flags : Byte) (body : List Byte)
  | logRead (st : Station) (flags : Byte) (body : List Byte)
  | quote (st : Station) (flags : Byte) (body : List Byte)
  | identityRead (st : Station) (flags : Byte) (body : List Byte)
  | updateOpen (st : Station) (flags : Byte) (body : List Byte)
  | updateData (st : Station) (flags : Byte) (body : List Byte)
  | updateAbort (st : Station) (flags : Byte) (body : List Byte)
  | targetPrepare (st : Station) (flags : Byte) (body : List Byte)
  | targetList (st : Station) (flags : Byte) (body : List Byte)
  | targetDiscard (st : Station) (flags : Byte) (body : List Byte)
  | targetActivate (st : Station) (flags : Byte) (body : List Byte)
  | bootQuery (st : Station) (flags : Byte) (body : List Byte)
  | bootConfirm (st : Station) (flags : Byte) (body : List Byte)
  | floorRead (st : Station) (flags : Byte) (body : List Byte)
  | credSet (st : Station) (flags : Byte) (body : List Byte)
  | credVerify (st : Station) (flags : Byte) (body : List Byte)
  | credRelease (st : Station) (flags : Byte) (body : List Byte)
  | credClear (st : Station) (flags : Byte) (body : List Byte)
  | credInfo (st : Station) (flags : Byte) (body : List Byte)
  | grantDrop (st : Station) (flags : Byte) (body : List Byte)
  | unknownRequestFrame (st : Station) (code : Byte) (flags : Byte) (body : List Byte)
  | keyGenerateJobStart
  | keyGenerateJobEnd
  | keyImportJobStart
  | keyImportJobEnd
  | keyDeriveJobStart
  | keyDeriveJobEnd
  | keySignJobStart
  | keySignJobEnd
  | keyVerifyJobStart
  | keyVerifyJobEnd
  | keyEraseJobStart
  | keyEraseJobEnd
  | chainExtendJobStart
  | chainExtendJobEnd
  | quoteJobStart
  | quoteJobEnd
  | updateOpenJobStart
  | updateOpenJobEnd
  | updateDataJobStart
  | updateDataJobEnd
  | targetActivateJobStart
  | targetActivateJobEnd
  | bootConfirmJobStart
  | bootConfirmJobEnd
  | credSetJobStart
  | credSetJobEnd
  | credVerifyJobStart
  | credVerifyChargeWritten
  | credVerifyJobEnd
  | credReleaseJobStart
  | credReleaseJobEnd
  | credClearJobStart
  | credClearJobEnd
  | settingsWriteJobStart
  | settingsWriteJobEnd
  | trialAccountJobStart
  | trialAccountJobEnd
  | ownerResetJobStart
  | ownerResetJobEnd
  | storeWriteComplete
  /-- `landed`: the record of the failed write holds its new contents (R176). -/
  | storeWriteFailed (landed : Bool)
  | decisecondTick (samples : PhaseSamples)
  | decayTick (samples : PhaseSamples)
  | lockoutEnd (id : CredId) (samples : PhaseSamples)
  | grantExpiry (st : Station) (samples : PhaseSamples)
  | idleDeadlineExpiry (samples : PhaseSamples)
  | trialTimerExpiry (samples : PhaseSamples)
  | gapTimeout (samples : PhaseSamples)
  | socrstPulseEnd (samples : PhaseSamples)
  | buttonHoldEvent
  | socResetSensed
  | partReset (input : StartUpInput)
  | addressCharacter (value : Byte)
  | dataCharacter (value : Byte)
  | badCharacter (kind : BadKind)
  | txItemEnd
  | socrstSenseReleased
  /-- `landed`: the record of the store write under way holds its new contents (R176). -/
  | powerLost (landed : Bool)
  /-- `senseLow`: SOCRST_SENSE reads low (asserted) when start-up ends (R155). -/
  | startUpEnd (senseLow : Bool)
  deriving DecidableEq, Repr

end Sys2Proof
end

