-- ==== Sys2Proof/Config.lean ====
section
/-! DEFINITION. What is fixed for one part but not by the spec: the cryptographic primitives, fresh random material
and the factory's bytes, each a free value; and the limits the spec gives. -/

namespace Sys2Proof

namespace Config

/-- Byte `i` of the digest of a byte string (00_scope.md, Cryptographic primitives). DESIGN CHOICE, log 7, with the
other primitives below: free values; safe. -/
opaque digestByte : List Byte → Nat → Byte

/-- Byte `i` of the 64-byte public key of a 32-byte private key (R18). -/
opaque publicKeyByte : Bytes 32 → Nat → Byte

/-- Byte `i` of the signature of a 32-byte digest under a private key (00_scope.md). -/
opaque signatureByte : Bytes 32 → Bytes 32 → Nat → Byte

/-- The signature scheme's verdict on public key, digest and signature (00_scope.md). -/
opaque signatureValid : Bytes 64 → Bytes 32 → Bytes 64 → Bool

/-- Byte `i` of the value derived from a secret and a label (00_scope.md). -/
opaque derivedByte : Bytes 32 → List Byte → Nat → Byte

/-- Byte `i` of the `n`-th 32 bytes of fresh key material (R18). DESIGN CHOICE, log 8, with the salts: free values;
safe. -/
opaque freshKeyByte : Nat → Nat → Byte

/-- Byte `i` of the `n`-th fresh salt (R116). -/
opaque freshSaltByte : Nat → Nat → Byte

/-- Byte `i` of the factory private key of slot 0 or 1 (R5). DESIGN CHOICE, log 9, with the other factory bytes below:
free values; safe. -/
opaque factoryPrivateByte : Nat → Nat → Byte

/-- Byte `i` of the factory public key of slot 2 or 3 (R5). -/
opaque factoryPublicByte : Nat → Nat → Byte

/-- One less than the length of the factory's device certificate, taken modulo 1,024 (R50). -/
opaque factoryCertificateLength : Nat

/-- Byte `i` of the factory's device certificate (R50). -/
opaque factoryCertificateByte : Nat → Byte

/-- Byte `i` of the digest of a class's factory image (R90). -/
opaque factoryImageDigestByte : Nat → Nat → Byte

/-- Length of the label of a class's factory image, taken modulo 17 (R90). -/
opaque factoryImageLabelLength : Nat → Nat

/-- Byte `i` of the label of a class's factory image (R90). -/
opaque factoryImageLabelByte : Nat → Nat → Byte

/-- Most fingerprints in the revocation list (R7). -/
abbrev revocationCap : Nat := 32
/-- Most entries of the measurement log (R38). -/
abbrev logCap : Nat := 128
/-- Most owner update keys (R16). -/
abbrev ownerUpdateCap : Nat := 2
/-- Idle deadline of a RECEIVING stream, in ds (R77). -/
abbrev idleDelay : Nat := 600
/-- Highest penalty (R138). -/
abbrev penaltyCap : Nat := 1023
/-- Highest streak (R138). -/
abbrev streakCap : Nat := 255
/-- Longest lockout in ds (R141). -/
abbrev lockoutCap : Nat := 36000
/-- Highest extend count of a chain (R31). -/
abbrev extendCap : Nat := 65535
/-- Highest part-reset count and SoC-reset count (R50). -/
abbrev resetCap : Nat := 4294967295
/-- Longest request body in bytes (R183). -/
abbrev bodyCap : Nat := 1100
/-- Draws of fresh key material within one generation step: one more than the fingerprints there can be to avoid
(64 slots and 32 revoked). -/
abbrev drawFuel : Nat := 97

end Config

end Sys2Proof
end

