-- ==== Sys2Proof/Decode.lean ====
section
/-! DEFINITION. The codes of the requests, the command a whole frame stands for, and the command a word of the table
spells (no row of spec/opcode_table.json gives bits). -/

namespace Sys2Proof

/-- The request code of a request (R206). -/
def ReqCode.toByte : ReqCode → Byte
  | .fetch => 1
  | .abort => 2
  | .status => 3
  | .conditions => 4
  | .clearConditions => 5
  | .setNoticeMask => 6
  | .closeStage => 7
  | .settingsRead => 8
  | .settingsWrite => 9
  | .ownerReset => 10
  | .keyGenerate => 16
  | .keyImport => 17
  | .keySign => 18
  | .keyVerify => 19
  | .keyDerive => 20
  | .keyErase => 21
  | .keyInfo => 22
  | .keyPublic => 23
  | .chainExtend => 32
  | .chainFreeze => 33
  | .chainRead => 34
  | .logRead => 35
  | .quote => 40
  | .identityRead => 41
  | .updateOpen => 48
  | .updateData => 49
  | .updateAbort => 50
  | .targetPrepare => 51
  | .targetActivate => 52
  | .targetDiscard => 53
  | .targetList => 54
  | .bootQuery => 55
  | .bootConfirm => 56
  | .floorRead => 57
  | .credSet => 64
  | .credVerify => 65
  | .credRelease => 66
  | .credClear => 67
  | .credInfo => 68
  | .grantDrop => 69

/-- Every request the part knows, in the order of R206. -/
def ReqCode.all : List ReqCode :=
  [.fetch, .abort, .status, .conditions, .clearConditions, .setNoticeMask, .closeStage, .settingsRead, .settingsWrite, .ownerReset, .keyGenerate, .keyImport, .keySign, .keyVerify, .keyDerive, .keyErase, .keyInfo, .keyPublic, .chainExtend, .chainFreeze, .chainRead, .logRead, .quote, .identityRead, .updateOpen, .updateData, .updateAbort, .targetPrepare, .targetActivate, .targetDiscard, .targetList, .bootQuery, .bootConfirm, .floorRead, .credSet, .credVerify, .credRelease, .credClear, .credInfo, .grantDrop]

/-- The request a code stands for; any other code is unknown (R206). -/
def ReqCode.ofByte (b : Byte) : Option ReqCode :=
  ReqCode.all.find? fun c => c.toByte == b

/-- The command that a whole frame for a station stands for. -/
def Instr.ofFrame (st : Station) (code flags : Byte) (body : List Byte) : Instr :=
  match ReqCode.ofByte code with
  | none => .unknownRequestFrame st code flags body
  | some .fetch => .fetch st flags body
  | some .abort => .abort st flags body
  | some .status => .status st flags body
  | some .conditions => .conditions st flags body
  | some .clearConditions => .clearConditions st flags body
  | some .setNoticeMask => .setNoticeMask st flags body
  | some .closeStage => .closeStage st flags body
  | some .settingsRead => .settingsRead st flags body
  | some .settingsWrite => .settingsWrite st flags body
  | some .ownerReset => .ownerReset st flags body
  | some .keyGenerate => .keyGenerate st flags body
  | some .keyImport => .keyImport st flags body
  | some .keySign => .keySign st flags body
  | some .keyVerify => .keyVerify st flags body
  | some .keyDerive => .keyDerive st flags body
  | some .keyErase => .keyErase st flags body
  | some .keyInfo => .keyInfo st flags body
  | some .keyPublic => .keyPublic st flags body
  | some .chainExtend => .chainExtend st flags body
  | some .chainFreeze => .chainFreeze st flags body
  | some .chainRead => .chainRead st flags body
  | some .logRead => .logRead st flags body
  | some .quote => .quote st flags body
  | some .identityRead => .identityRead st flags body
  | some .updateOpen => .updateOpen st flags body
  | some .updateData => .updateData st flags body
  | some .updateAbort => .updateAbort st flags body
  | some .targetPrepare => .targetPrepare st flags body
  | some .targetActivate => .targetActivate st flags body
  | some .targetDiscard => .targetDiscard st flags body
  | some .targetList => .targetList st flags body
  | some .bootQuery => .bootQuery st flags body
  | some .bootConfirm => .bootConfirm st flags body
  | some .floorRead => .floorRead st flags body
  | some .credSet => .credSet st flags body
  | some .credVerify => .credVerify st flags body
  | some .credRelease => .credRelease st flags body
  | some .credClear => .credClear st flags body
  | some .credInfo => .credInfo st flags body
  | some .grantDrop => .grantDrop st flags body

/-- The command a word of the table spells. No row gives bits, so no word spells one. -/
def decodeTableWord (_nbits _w : Nat) : Option Instr := none

end Sys2Proof
end

