-- ==== Sys2Proof/Machine/State.lean ====
section
/-! DEFINITION. Every piece of state the spec gives the part, as plain data, and the part after reset. -/

namespace Sys2Proof.Machine

open Sys2Proof

/-! ### Replies, receipts and the trust line -/

/-- Result codes of replies (R207). -/
inductive Result
  | ok | nothing | aborted | faulted | nvFailed
  | reservedBits | unknownRequest | badLength | notPermitted | noGrant | badArgument
  | slotEmpty | slotOccupied | keyUsage | revoked | bindingMismatch | signatureInvalid | tableFull
  | chainFrozen
  | streamState | rollback | digestMismatch | timeout | targetFull | targetEmpty | trialBusy | tooLate
  | locked | mismatch
  deriving DecidableEq, Repr

/-- Receipts (R188, R207). -/
inductive Receipt
  | taken | busy | held | notOpen | frameBad | removed | running | none
  deriving DecidableEq, Repr

/-- A reply in a reply slot (R167). -/
structure Reply where
  result : Result
  code : Byte
  body : List Byte
  notice : Bool
  deriving DecidableEq, Repr

/-- An item of the transmitter (R187). `remnant` is the character still going out of a reply frame that a SoC reset
has cut (R191). -/
inductive TxItem
  | receipt (r : Receipt)
  | frame (bytes : List Byte)
  | remnant
  deriving DecidableEq, Repr

/-- The line interface's state, with what it holds in it (R182). -/
inductive LineState
  | ignoring
  | selected (st : Station)
  | assembling (st : Station) (chars : List Byte)
  deriving DecidableEq, Repr

/-! ### Stations -/

/-- Station states (R160, R161). -/
inductive StationState
  | waiting | opened | closed
  deriving DecidableEq, Repr

/-- Request states of a station (R160). -/
inductive RequestState
  | idle | waiting | running
  deriving DecidableEq, Repr

/-- An owner grant (R129). -/
structure Grant where
  credential : CredId
  deadline : Count
  deriving DecidableEq, Repr

/-- A station record (R160). Its request state and its request in hand are held by the engine queue and the running
job, and computed from them. -/
structure StationRec where
  state : StationState
  slot : Option Reply
  masked : Bool
  grant : Option Grant
  deriving DecidableEq, Repr

/-! ### Key table -/

/-- Key kinds (R1). -/
inductive KeyKind
  | signing | verifying | secret
  deriving DecidableEq, Repr

/-- Key material (R1). -/
inductive Material
  | signing (privateKey : Bytes 32) (publicKey : Bytes 64)
  | verifying (publicKey : Bytes 64)
  | secret (value : Bytes 32)
  deriving DecidableEq, Repr

/-- Origins of keys (R1). -/
inductive Origin
  | factory | generated | imported | derived | update
  deriving DecidableEq, Repr

/-- Persistence of keys (R1). -/
inductive Persistence
  | persistent | epoch
  deriving DecidableEq, Repr

/-- A binding: the key may be used while the chain holds the value (R13). -/
structure Binding where
  chain : ChainNo
  value : Bytes 32
  deriving DecidableEq, Repr

/-- The binding option of a creating request (R13). -/
inductive BindingOption
  | unbound
  | given (b : Binding)
  | current (chain : ChainNo)
  deriving DecidableEq, Repr

/-- The record of an ACTIVE slot (R1). The usage set and the station mask are fields of bits, numbered as R205 does. -/
structure KeyRecord where
  material : Material
  origin : Origin
  persistence : Persistence
  usage : Byte
  mask : Byte
  binding : Option Binding
  ownerHeld : Bool
  fingerprint : Bytes 32
  label : List Byte
  deriving DecidableEq, Repr

/-- A slot of the key table (R1, R2). A RESERVED slot notes whether an import of an owner update key holds it (R16). -/
inductive KeySlot
  | empty
  | reserved (forOwnerUpdate : Bool)
  | active (k : KeyRecord)
  deriving DecidableEq, Repr

/-! ### Evidence unit -/

/-- A chain record (R31). -/
structure Chain where
  value : Bytes 32
  count : Nat
  frozen : Bool
  logIncomplete : Bool
  deriving DecidableEq, Repr

/-- A log entry; its index is its place in the log (R38). `station` is none for PART. -/
structure LogEntry where
  chain : ChainNo
  measurement : Bytes 32
  tag : List Byte
  station : Option Station
  uptime : Count
  deriving DecidableEq, Repr

/-- Event kinds of marker records (R42). -/
inductive MarkerKind
  | activate | confirm | revert | ownerReset | ownerClaim
  deriving DecidableEq, Repr

/-- A marker record (R42). -/
structure Marker where
  kind : MarkerKind
  cls : ClassNo
  version : Nat
  deriving DecidableEq, Repr

/-! ### Updates, targets and the boot directory -/

/-- Image banks (R90). -/
inductive Bank
  | a | b
  deriving DecidableEq, Repr

/-- Manifest actions (R67). The slot is the byte the manifest carries. -/
inductive Action
  | revoke (slot : Nat)
  | install (slot : Nat) (key : Bytes 64)
  deriving DecidableEq, Repr

/-- Outcome of a deferred action (R99). -/
inductive ActionOutcome
  | applied | skipped
  deriving DecidableEq, Repr

/-- A manifest that has the form of R67; `raw` is the byte string it came as. -/
structure Manifest where
  raw : List Byte
  cls : ClassNo
  bank : Bank
  trial : Bool
  autoPrepare : Bool
  version : Nat
  imageLength : Nat
  imageDigest : Bytes 32
  signer : Slot
  label : List Byte
  actions : List Action
  signature : Bytes 64
  deriving DecidableEq, Repr

/-- The update stream record, with the fields each state holds (R65, R66). The running digest state is the byte string
absorbed so far. DESIGN CHOICE, log 32; safe. -/
inductive Stream
  | closed
  | checking (raw : List Byte) (limit : Nat)
  | receiving (m : Manifest) (limit received : Nat) (absorbed : List Byte) (deadline : Count)
  | absorbing (m : Manifest) (limit received : Nat) (absorbed : List Byte)
  | verified (m : Manifest) (limit received : Nat)
  | failed (raw : List Byte) (limit received : Nat) (reason : Result)
  deriving DecidableEq, Repr

/-- A PREPARED target entry (R87). -/
structure Target where
  cls : ClassNo
  bank : Bank
  version : Nat
  digest : Bytes 32
  label : List Byte
  signer : Slot
  trial : Bool
  actions : List Action
  deriving DecidableEq, Repr

/-- An image record (R91). -/
structure ImageRecord where
  version : Nat
  digest : Bytes 32
  label : List Byte
  signer : Slot
  stale : Bool
  deriving DecidableEq, Repr

/-- State of a class, with its trial bank and attempts left in a trial (R90). -/
inductive ClassState
  | steady
  | pending (bank : Bank) (attempts : Nat)
  | booting (bank : Bank) (attempts : Nat)
  deriving DecidableEq, Repr

/-- A class record (R90). -/
structure ClassRecord where
  floor : Nat
  active : Bank
  state : ClassState
  deferred : List Action
  imageA : Option ImageRecord
  imageB : Option ImageRecord
  deriving DecidableEq, Repr

/-- The trial timer (R100). `reached`: the deadline was reached while the confirm hold was set (R101). -/
inductive TrialTimer
  | stopped
  | running (deadline : Count) (reached : Bool)
  | expired
  deriving DecidableEq, Repr

/-! ### Credentials and the governor -/

/-- Credential kinds (R114). -/
inductive CredKind
  | verifier | secret
  deriving DecidableEq, Repr

/-- What a CRED_SET stores of a credential (R114, R116). The release mask is a field of bits; it is empty, and the
stored value is empty, for a VERIFIER. -/
structure CredContents where
  kind : CredKind
  label : List Byte
  grants : Bool
  freeRelease : Bool
  releaseMask : Byte
  salt : Bytes 16
  verifier : Bytes 32
  value : List Byte
  deriving DecidableEq, Repr

/-- A lockout: absent, a deadline, or a pending delay awaiting the first tick after start-up (R138). -/
inductive Lockout
  | absent
  | deadline (d : Count)
  | pending (delay : Nat)
  deriving DecidableEq, Repr

/-- A SET credential, with its working governor fields (R114, R138). -/
structure CredRecord where
  contents : CredContents
  penalty : Nat
  streak : Nat
  lockout : Lockout
  deriving DecidableEq, Repr

/-- A credential (R115). -/
inductive Credential
  | empty
  | reserved
  | held (r : CredRecord)
  deriving DecidableEq, Repr

/-- A credential's store record, with the stored copy of penalty and streak (R114, R138). -/
structure StoredCred where
  contents : CredContents
  penalty : Nat
  streak : Nat
  deriving DecidableEq, Repr

/-! ### Conditions, settings, store -/

/-- The conditions, in the order of R193. -/
inductive Condition
  | linkFrame | logIncomplete | updateRejected | keyRevoked | actionSkipped | trialAttemptFailed
  | trialReverted | lockoutStarted | ownerResetDone | nvWriteFailed | nvIntegrity
  deriving DecidableEq, Repr

/-- The five settings (R201). The reporting enables are a field of bits in the order of R193. -/
structure Settings where
  addressBase : Nat
  trialWindow : Nat
  grantWindow : Nat
  buttonHold : Nat
  enables : BitVec 16
  deriving DecidableEq, Repr

/-- The part's non-volatile records (R176). -/
structure Store where
  revocation : List (Bytes 32)
  keys : Tbl (Option KeyRecord) 64
  creds : Tbl (Option StoredCred) 16
  classes : Tbl ClassRecord 4
  partResets : Nat
  certificate : List Byte
  settings : Settings
  resetMark : Bool
  deriving DecidableEq, Repr

/-! ### Time base -/

/-- Button sampler states (R156). -/
inductive ButtonState
  | released | holding | fired
  deriving DecidableEq, Repr

/-- What the button's samples of one decisecond phase amount to (R156). -/
inductive PhaseVerdict
  | low
  | high
  | mixed
  deriving DecidableEq, Repr

/-- The pulse timer; SOCRST is driven low exactly while it is DRIVING (R158). -/
inductive Pulse
  | idle
  | driving (ticks : Nat)
  deriving DecidableEq, Repr

/-- The time base (R149 to R158). `firstTick`: no tick has come since start-up ended (R147, R156). -/
structure TimeBase where
  prescaler : Nat
  phase : Fin 10
  periods : Nat
  uptime : Count
  button : ButtonState
  held : Nat
  threshold : Nat
  senseAsserted : Bool
  senseLow : Bool
  pulse : Pulse
  firstTick : Bool
  deriving DecidableEq, Repr

/-! ### Jobs of the work engine -/

/-- The parameters a KEY_GENERATE or KEY_IMPORT gives for its key (R17, R19). -/
structure NewKey where
  slot : Slot
  usage : Byte
  mask : Byte
  persistence : Persistence
  ownerHeld : Bool
  binding : BindingOption
  label : List Byte
  deriving DecidableEq, Repr

/-- The parameters of a CRED_SET (R118). -/
structure CredParams where
  id : CredId
  kind : CredKind
  label : List Byte
  grants : Bool
  freeRelease : Bool
  releaseMask : Byte
  secret : List Byte
  deriving DecidableEq, Repr

/-- The parameters of a SETTINGS_WRITE (R202). -/
structure SettingsParams where
  selection : Byte
  addressBase : Nat
  trialWindow : Nat
  grantWindow : Nat
  buttonHold : Nat
  enables : BitVec 16
  deriving DecidableEq, Repr

/-- An engine request in hand: what its body gave and the notes its checks at take made (R160). `noted` is the
fingerprint of R10. -/
inductive Work
  | keyGenerate (p : NewKey) (kind : KeyKind)
  | keyImport (p : NewKey) (material : Material)
  | keyDerive (parent : Slot) (noted : Bytes 32) (derivation : List Byte) (target : Slot) (usage mask : Byte)
      (label : List Byte)
  | keySign (slot : Slot) (noted : Bytes 32) (digest : Bytes 32)
  | keyVerify (slot : Slot) (noted : Bytes 32) (digest : Bytes 32) (signature : Bytes 64)
  | keyErase (slot : Slot) (noted : Bytes 32)
  | chainExtend (chain : ChainNo) (measurement : Bytes 32) (tag : List Byte)
  | quote (slot : Slot) (noted : Bytes 32) (selection : BitVec 16) (nonce : List Byte)
  | updateOpen
  | updateData (chunk : List Byte)
  | targetActivate (index : TargetNo)
  | bootConfirm (cls : ClassNo)
  | credSet (p : CredParams) (change needsGrant : Bool)
  | credVerify (id : CredId) (candidate : List Byte)
  | credRelease (id : CredId)
  | credClear (id : CredId)
  | settingsWrite (p : SettingsParams)
  deriving DecidableEq, Repr

/-- A station job: the station, the request's QUIET flag and the request (R173). -/
structure StationJob where
  station : Station
  quiet : Bool
  work : Work
  deriving DecidableEq, Repr

/-- A job of the engine queue (R173, R175). An OWNER_RESET_JOB holds the QUIET flag of the request attached to it, and
whether a button hold queued it or merged into it. -/
inductive Job
  | station (j : StationJob)
  | trialAccount
  | ownerReset (attached : Option Bool) (button : Bool)
  deriving DecidableEq, Repr

/-- One step of a job or of start-up: at most one store write, and the change of working state that goes with it. -/
inductive JobStep
  /-- Writes the new key record of the running job (R18). -/
  | keyRecord (slot : Slot)
  /-- Removes a slot's record and erases the key (R26). -/
  | keyRemove (slot : Slot)
  /-- Writes the class record of a permanent activation (R95). -/
  | activate (t : Target)
  /-- Writes the class record of a trial activation (R96). -/
  | activateTrial (t : Target)
  /-- Writes the class record of a confirm (R107). -/
  | confirm (cls : ClassNo)
  /-- Stops the trial timer and clears the hold (R107). -/
  | stopTimer
  /-- Evaluates one deferred action and applies or skips it (R98, R99). -/
  | action (cls : ClassNo) (a : Action)
  /-- Removes the record of a revoked slot (R8). -/
  | revokeSlot (slot : Slot)
  /-- Writes the class record with no deferred actions (R95, R107). -/
  | clearDeferred (cls : ClassNo)
  /-- Sweeps for a class's floor and, when it changed, its active bank (R108, R109). -/
  | sweepClass (cls : ClassNo) (bankChanged : Bool)
  /-- Makes a part extension (R41). -/
  | marker (m : Marker)
  /-- Empties a target entry (R95, R96). -/
  | emptyTarget (index : TargetNo)
  /-- Writes the class record of a trial accounting that does not revert (R103). -/
  | account (cls : ClassNo)
  /-- Writes the class record of a revert (R104). -/
  | revert (cls : ClassNo)
  /-- Raises a condition (R193). -/
  | raise (k : Condition)
  /-- Writes the credential record of the running CRED_SET (R119). -/
  | credRecord (id : CredId)
  /-- Charges a failure (R122, R139). -/
  | charge (id : CredId)
  /-- Compares a candidate (R116, R122). -/
  | compare (id : CredId) (candidate : List Byte)
  /-- Writes the success outcome after a match (R123, R144). -/
  | success (id : CredId)
  /-- Removes a credential's record (R127). -/
  | credRemove (id : CredId)
  /-- Writes the settings record of the running SETTINGS_WRITE (R202). -/
  | settingsRecord
  /-- Writes the owner reset mark (R199). -/
  | markWrite
  /-- Ends every grant (R199). -/
  | endGrants
  /-- Erases a SET credential (R199). -/
  | eraseCred (id : CredId)
  /-- Erases an owner-held key (R199). -/
  | eraseKey (slot : Slot)
  /-- Writes the default settings; start-up takes the address base too (R199, R203). -/
  | defaultSettings (withBase : Bool)
  /-- Removes the owner reset mark (R199). -/
  | markRemove
  /-- Writes the raised part-reset count (R52). -/
  | countStart
  /-- Removes the record of a slot whose fingerprint is revoked (R29). -/
  | removeRevoked (slot : Slot)
  deriving DecidableEq, Repr

/-- What a running job has computed and not yet given out. -/
inductive JobData
  | blank
  /-- A generate job that has no fresh material yet, with its resolved binding. -/
  | generating (binding : Option Binding)
  /-- The record the job's slot is to hold. -/
  | key (k : KeyRecord)
  | signature (sig : Bytes 64)
  | verdict (valid : Bool)
  | chainValue (v : Bytes 32)
  | statement (bytes : List Byte)
  | manifestOk (m : Manifest)
  | manifestBad (r : Result)
  | image (t : Target)
  | credential (c : CredContents)
  /-- The charged penalty, the amount the charge raised it by, and whether the candidate matched (R138, R139). -/
  | comparison (charged amount : Nat) (matched : Bool)
  | value (bytes : List Byte)
  | newSettings (s : Settings)
  /-- The class that the accounting counts and does not revert, and whether it counts a failed attempt (R103). -/
  | accounted (cls : ClassNo) (failed : Bool)
  /-- Credentials and key slots erased so far (R197). -/
  | erased (creds keys : Nat)
  deriving DecidableEq, Repr

/-- The running job (R174). `crossed`: a SoC reset has been sensed while it runs (R178). `dropped`: an UPDATE_ABORT
has dropped its result (R79). `todo`: the steps still to do, its store write under way first. -/
structure Running where
  job : Job
  crossed : Bool
  dropped : Bool
  todo : List JobStep
  data : JobData
  outcomes : List ActionOutcome
  deriving DecidableEq, Repr

/-! ### The part -/

/-- Whether the part is without power (or held in reset), in start-up, or running (R176, R203). In start-up it notes
whether a trial timer is to be started when start-up ends (R105). -/
inductive Power
  | off
  | startUp (timerDue : Bool)
  | on
  deriving DecidableEq, Repr

/-- The state of the part. -/
structure State where
  pending : List Instr
  power : Power
  line : LineState
  gap : Bool
  txNow : Option TxItem
  txNext : Option TxItem
  stations : Tbl StationRec 4
  globalMask : Bool
  queue : List Job
  running : Option Running
  fault : Bool
  time : TimeBase
  keys : Tbl KeySlot 64
  revoked : List (Bytes 32)
  chains : Tbl Chain 12
  log : List LogEntry
  certificate : Option (List Byte)
  partResets : Nat
  socResets : Nat
  stream : Stream
  targets : Tbl (Option Target) 8
  classes : Tbl (Option ClassRecord) 4
  timer : TrialTimer
  hold : Bool
  creds : Tbl Credential 16
  conditions : Tbl (Option Count) 11
  settings : Settings
  store : Store
  attn : Bool
  entropy : Nat
  deriving DecidableEq, Repr

/-- The part has no fault that stops it: a failed store write or a failed integrity check leads to FAULT mode, a state
of the part (R177). No constructor; safe, since nothing ever stops. -/
inductive Fault
  deriving DecidableEq, Repr

/-- Why a command has no meaning. -/
inductive Refusal
  /-- Raised by `exec`'s arm of a command that has no meaning yet, by its mnemonic; no arm does. Safe. -/
  | notModelled (mnemonic : String)
  deriving DecidableEq, Repr

/-! ### Reset -/

/-- The default settings: every condition but LINK_FRAME reported (R201). -/
def Settings.default : Settings :=
  { addressBase := 96, trialWindow := 6000, grantWindow := 3000, buttonHold := 100, enables := 0x07FE }

/-- A cleared chain (R31). -/
def Chain.cleared : Chain :=
  { value := .replicate 32 0, count := 0, frozen := false, logIncomplete := false }

/-- A factory key record: origin FACTORY, PERSISTENT, no binding, not owner-held, empty label (R5). -/
def factoryKey (material : Material) (fingerprint : Bytes 32) (usage mask : Byte) : KeyRecord :=
  { material, origin := .factory, persistence := .persistent, usage, mask, binding := none, ownerHeld := false,
    fingerprint, label := [] }

/-- The factory private key of slot 0 or 1 (R5). -/
def factoryPrivate (n : Nat) : Bytes 32 := .ofFn fun i => Config.factoryPrivateByte n i

/-- The digest function over a list of bytes, for the factory's records. -/
def factoryDigest (bytes : List Byte) : Bytes 32 := .ofFn fun i => Config.digestByte bytes i

/-- The record of a factory SIGNING key (R5). -/
def factorySigning (n : Nat) (usage mask : Byte) : KeyRecord :=
  let pub : Bytes 64 := .ofFn fun i => Config.publicKeyByte (factoryPrivate n) i
  factoryKey (.signing (factoryPrivate n) pub) (factoryDigest pub.list) usage mask

/-- The record of a factory vendor update key (R5). -/
def factoryVerifying (n : Nat) : KeyRecord :=
  let pub : Bytes 64 := .ofFn fun i => Config.factoryPublicByte n i
  factoryKey (.verifying pub) (factoryDigest pub.list) 0x08 0x07

/-- The stored record of each slot at shipment (R5). -/
def shippedKey (slot : Slot) : Option KeyRecord :=
  if slot.val = 0 then some (factorySigning 0 0x02 0x0F)
  else if slot.val = 1 then some (factorySigning 1 0x01 0x0C)
  else if slot.val = 2 then some (factoryVerifying 2)
  else if slot.val = 3 then some (factoryVerifying 3)
  else none

/-- The record of each class at shipment (R90). -/
def shippedClass (cls : ClassNo) : ClassRecord :=
  { floor := 1, active := .a, state := .steady, deferred := [],
    imageA := some
      { version := 1,
        digest := .ofFn fun i => Config.factoryImageDigestByte cls i,
        label := (List.range (Config.factoryImageLabelLength cls % 17)).map (Config.factoryImageLabelByte cls),
        signer := 2, stale := false },
    imageB := none }

/-- The store at shipment. -/
def Store.shipped : Store :=
  { revocation := [], keys := .ofFn shippedKey, creds := .replicate 16 none, classes := .ofFn shippedClass,
    partResets := 0,
    certificate := (List.range (Config.factoryCertificateLength % 1024 + 1)).map Config.factoryCertificateByte,
    settings := .default, resetMark := false }

/-- A station record as it is while no station is open. -/
def StationRec.waiting : StationRec :=
  { state := .waiting, slot := none, masked := false, grant := none }

/-- The time base at part reset (R149 to R159). -/
def TimeBase.start : TimeBase :=
  { prescaler := 0, phase := 0, periods := 0, uptime := 0, button := .released, held := 0, threshold := 0,
    senseAsserted := false, senseLow := false, pulse := .idle, firstTick := true }

/-- The part with no working state: every piece has its value after part reset, before anything is read from the
store (R203, step 1). -/
def State.blank (pending : List Instr) (power : Power) (store : Store) (entropy : Nat) : State :=
  { pending, power, line := .ignoring, gap := false, txNow := none, txNext := none,
    stations := .replicate 4 .waiting, globalMask := false, queue := [], running := none, fault := false,
    time := .start, keys := .replicate 64 .empty, revoked := [], chains := .replicate 12 .cleared, log := [],
    certificate := none, partResets := 0, socResets := 0, stream := .closed, targets := .replicate 8 none,
    classes := .replicate 4 none, timer := .stopped, hold := false, creds := .replicate 16 .empty,
    conditions := .replicate 11 none, settings := .default, store, attn := false, entropy }

/-- The part right after reset: the first start-up after shipment has ended (R203), SOCRST_SENSE and BUTTON rest high,
and no command is waiting. DESIGN CHOICE, log 10; unsafe for the one run from it. -/
def State.reset : State :=
  { State.blank [] .on { Store.shipped with partResets := 1 } 0 with
    stations := .ofFn fun st => { StationRec.waiting with state := if st.val = 0 then .opened else .waiting }
    keys := .ofFn fun slot =>
      match shippedKey slot with
      | some k => .active k
      | none => .empty
    certificate := some Store.shipped.certificate
    partResets := 1
    classes := .ofFn fun cls => some (shippedClass cls) }

end Sys2Proof.Machine
end

