-- ==== Sys2Proof/Machine/Formats.lean ====
section
/-! DEFINITION. The primitives by name, the codes of named values, the byte encodings of R205, the CRC-16 and the
records' layouts (chapter 12). -/

namespace Sys2Proof.Machine

open Sys2Proof

/-! ### The cryptographic primitives (00_scope.md) -/

/-- The digest of a byte string. -/
def digest (bytes : List Byte) : Bytes 32 := .ofFn fun i => Config.digestByte bytes i

/-- The public key of a private key. -/
def publicKeyOf (privateKey : Bytes 32) : Bytes 64 := .ofFn fun i => Config.publicKeyByte privateKey i

/-- The signature of a digest under a private key. -/
def sign (privateKey d : Bytes 32) : Bytes 64 := .ofFn fun i => Config.signatureByte privateKey d i

/-- The derivation function. -/
def derive (secret : Bytes 32) (label : List Byte) : Bytes 32 := .ofFn fun i => Config.derivedByte secret label i

/-- The `n`-th draw of fresh key material. -/
def freshKey (n : Nat) : Bytes 32 := .ofFn fun i => Config.freshKeyByte n i

/-- The `n`-th fresh salt. -/
def freshSalt (n : Nat) : Bytes 16 := .ofFn fun i => Config.freshSaltByte n i

/-! ### Reading bytes -/

/-- Byte `i` of a body; 0 beyond its end. -/
def byteAt (body : List Byte) (i : Nat) : Byte := body.getD i 0

/-- `n` bytes of a body from an offset. -/
def slice (body : List Byte) (off n : Nat) : List Byte := (body.drop off).take n

/-- A field of `n` bytes at an offset (R205). -/
def bytesAt (n : Nat) (body : List Byte) (off : Nat) : Bytes n := .ofFn fun i => byteAt body (off + i)

/-- A number sent most significant byte first (R205). -/
def beNat (bytes : List Byte) : Nat := bytes.foldl (fun acc b => acc * 256 + b.toNat) 0

/-- The 2-byte number at an offset. -/
def nat16At (body : List Byte) (off : Nat) : Nat := beNat [byteAt body off, byteAt body (off + 1)]

/-- The 4-byte number at an offset. -/
def nat32At (body : List Byte) (off : Nat) : Nat :=
  beNat [byteAt body off, byteAt body (off + 1), byteAt body (off + 2), byteAt body (off + 3)]

/-- A number below `n`. -/
def fin? (n v : Nat) : Option (Fin n) := if h : v < n then some ⟨v, h⟩ else none

/-- Whether a set of a body holds member `n` (R205). -/
def hasBit (set : Byte) (n : Nat) : Bool := set.getLsbD n

/-! ### Writing bytes -/

/-- One byte for a number. -/
def byte (n : Nat) : Byte := BitVec.ofNat 8 n

/-- Two bytes, most significant first. -/
def be16 (n : Nat) : List Byte := [byte (n / 256), byte n]

/-- Four bytes, most significant first. -/
def be32 (n : Nat) : List Byte := [byte (n / 16777216), byte (n / 65536), byte (n / 256), byte n]

/-- A flag as a byte. -/
def flagByte (b : Bool) : Byte := if b then 1 else 0

/-- A field of `n` bytes that does not apply, sent as zeros (R205). -/
def zeros (n : Nat) : List Byte := List.replicate n 0

/-- A variable field that is not the last, with its length byte (R205). -/
def counted (bytes : List Byte) : List Byte := byte bytes.length :: bytes

/-! ### Codes (R205, R207) -/

def Result.toByte : Result → Byte
  | .ok => 0
  | .nothing => 1
  | .aborted => 2
  | .faulted => 3
  | .nvFailed => 4
  | .reservedBits => 16
  | .unknownRequest => 17
  | .badLength => 18
  | .notPermitted => 19
  | .noGrant => 20
  | .badArgument => 21
  | .slotEmpty => 32
  | .slotOccupied => 33
  | .keyUsage => 34
  | .revoked => 35
  | .bindingMismatch => 36
  | .signatureInvalid => 37
  | .tableFull => 38
  | .chainFrozen => 48
  | .streamState => 64
  | .rollback => 65
  | .digestMismatch => 66
  | .timeout => 67
  | .targetFull => 68
  | .targetEmpty => 69
  | .trialBusy => 70
  | .tooLate => 71
  | .locked => 80
  | .mismatch => 81

def Receipt.toByte : Receipt → Byte
  | .taken => 1
  | .busy => 2
  | .held => 3
  | .notOpen => 4
  | .frameBad => 5
  | .removed => 6
  | .running => 7
  | .none => 8

def StationState.toByte : StationState → Byte
  | .waiting => 0
  | .opened => 1
  | .closed => 2

def RequestState.toByte : RequestState → Byte
  | .idle => 0
  | .waiting => 1
  | .running => 2

def KeyKind.toByte : KeyKind → Byte
  | .signing => 1
  | .verifying => 2
  | .secret => 3

/-- The key kind a code stands for (R205). -/
def KeyKind.ofByte (b : Byte) : Option KeyKind :=
  [KeyKind.signing, .verifying, .secret].find? fun k => k.toByte == b

def Origin.toByte : Origin → Byte
  | .factory => 1
  | .generated => 2
  | .imported => 3
  | .derived => 4
  | .update => 5

def Persistence.toByte : Persistence → Byte
  | .persistent => 0
  | .epoch => 1

def CredKind.toByte : CredKind → Byte
  | .verifier => 1
  | .secret => 2

/-- The credential kind a code stands for (R205). -/
def CredKind.ofByte (b : Byte) : Option CredKind :=
  [CredKind.verifier, .secret].find? fun k => k.toByte == b

def Bank.toByte : Bank → Byte
  | .a => 0
  | .b => 1

/-- The bank a code stands for (R205). -/
def Bank.ofByte (b : Byte) : Option Bank := [Bank.a, .b].find? fun k => k.toByte == b

def ClassState.toByte : ClassState → Byte
  | .steady => 0
  | .pending _ _ => 1
  | .booting _ _ => 2

def Stream.toByte : Stream → Byte
  | .closed => 0
  | .checking _ _ => 1
  | .receiving _ _ _ _ _ => 2
  | .absorbing _ _ _ _ => 3
  | .verified _ _ _ => 4
  | .failed _ _ _ _ => 5

def Action.toByte : Action → Byte
  | .revoke _ => 1
  | .install _ _ => 2

def ActionOutcome.toByte : ActionOutcome → Byte
  | .applied => 1
  | .skipped => 2

def MarkerKind.toByte : MarkerKind → Byte
  | .activate => 1
  | .confirm => 2
  | .revert => 3
  | .ownerReset => 4
  | .ownerClaim => 5

/-- Number of a condition in the order of R193. -/
def Condition.index : Condition → Fin 11
  | .linkFrame => 0
  | .logIncomplete => 1
  | .updateRejected => 2
  | .keyRevoked => 3
  | .actionSkipped => 4
  | .trialAttemptFailed => 5
  | .trialReverted => 6
  | .lockoutStarted => 7
  | .ownerResetDone => 8
  | .nvWriteFailed => 9
  | .nvIntegrity => 10

/-- Severity of the condition numbered `i`: 1 NOTE, 2 WARNING, 3 FAULT (R193, R205). -/
def severity (i : Fin 11) : Nat := if i.val < 6 then 1 else if i.val < 9 then 2 else 3

/-- The kind of key material. -/
def Material.kind : Material → KeyKind
  | .signing _ _ => .signing
  | .verifying _ => .verifying
  | .secret _ => .secret

/-- The fingerprint of key material: the digest of the public key, or of the secret value (R4). -/
def Material.fingerprint : Material → Bytes 32
  | .signing _ pub => digest pub.list
  | .verifying pub => digest pub.list
  | .secret v => digest v.list

/-- The public key of key material that has one. -/
def Material.publicKey? : Material → Option (Bytes 64)
  | .signing _ pub => some pub
  | .verifying pub => some pub
  | .secret _ => none

/-! ### CRC-16 (R185) -/

/-- One bit of the CRC register, most significant first. -/
def crcShift (r : BitVec 16) : BitVec 16 := if r.msb then (r <<< 1) ^^^ 0x1021 else r <<< 1

/-- The CRC register after one more byte. -/
def crcByte (r : BitVec 16) (b : Byte) : BitVec 16 :=
  let r := r ^^^ (b.zeroExtend 16 <<< 8)
  crcShift (crcShift (crcShift (crcShift (crcShift (crcShift (crcShift (crcShift r)))))))

/-- The CRC-16 of a byte string (R185). -/
def crc16 (bytes : List Byte) : BitVec 16 := bytes.foldl crcByte 0xFFFF

/-- A byte string followed by its CRC-16, most significant byte first (R183, R189). -/
def withCrc (bytes : List Byte) : List Byte := bytes ++ be16 (crc16 bytes).toNat

/-- A reply frame (R189). -/
def replyFrame (result : Result) (code : Byte) (body : List Byte) : List Byte :=
  withCrc (result.toByte :: code :: be16 body.length ++ body)

/-- A request frame (R183). -/
def requestFrame (code flags : Byte) (body : List Byte) : List Byte :=
  withCrc (code :: flags :: be16 body.length ++ body)

/-! ### Records (R208 to R210, R207) -/

/-- The key descriptor (R208). -/
def keyDescriptor (slot : Slot) (k : KeySlot) : List Byte :=
  match k with
  | .empty => [byte slot, 0]
  | .reserved _ => [byte slot, 1]
  | .active r =>
    [byte slot, 2, r.material.kind.toByte, r.origin.toByte, r.persistence.toByte, r.usage, r.mask,
      flagByte r.ownerHeld]
      ++ (match r.binding with
          | some b => 1 :: byte b.chain :: b.value.list
          | none => 0 :: 0 :: zeros 32)
      ++ r.fingerprint.list ++ counted r.label

/-- The entry of a chain (R208). -/
def chainEntry (c : ChainNo) (r : Chain) : List Byte :=
  byte c :: r.value.list ++ be16 r.count ++ [byte (r.frozen.toNat + 2 * r.logIncomplete.toNat)]

/-- A log entry (R208); a station field of 255 stands for PART (R205). -/
def logEntryBytes (index : Nat) (e : LogEntry) : List Byte :=
  [byte index, byte e.chain, (match e.station with | some st => byte st | none => 255)]
    ++ be32 e.uptime.toNat ++ e.measurement.list ++ counted e.tag

/-- A marker record (R208). -/
def markerBytes (m : Marker) : List Byte := m.kind.toByte :: byte m.cls :: be16 m.version

/-- The chain a marker extends (R42). -/
def MarkerKind.chain : MarkerKind → ChainNo
  | .activate => 10
  | .confirm => 10
  | .revert => 10
  | .ownerReset => 11
  | .ownerClaim => 11

/-- An action as it appears in a target's action list: its kind and its slot (R207). -/
def actionBytes (a : Action) : List Byte :=
  match a with
  | .revoke slot => [a.toByte, byte slot]
  | .install slot _ => [a.toByte, byte slot]

/-- A target entry (R207). -/
def targetBytes (index : TargetNo) (t : Option Target) : List Byte :=
  match t with
  | none => [byte index, 0]
  | some t =>
    [byte index, 1, byte t.cls, t.bank.toByte, flagByte t.trial, byte t.signer] ++ be16 t.version ++ t.digest.list
      ++ counted t.label ++ byte t.actions.length :: t.actions.flatMap actionBytes

/-- Status of a bank: no record, not stale, stale (R210). -/
def bankStatus (r : Option ImageRecord) : Byte :=
  match r with
  | none => 0
  | some r => if r.stale then 2 else 1

/-- The image record of a bank. -/
def ClassRecord.image (r : ClassRecord) (bank : Bank) : Option ImageRecord :=
  match bank with
  | .a => r.imageA
  | .b => r.imageB

/-- The bank to boot: the trial bank in TRIAL_BOOTING, the active bank otherwise (R110). -/
def ClassRecord.bootBank (r : ClassRecord) : Bank :=
  match r.state with
  | .booting bank _ => bank
  | _ => r.active

/-- Attempts left, 0 in STEADY (R210). -/
def ClassRecord.attempts (r : ClassRecord) : Nat :=
  match r.state with
  | .steady => 0
  | .pending _ n => n
  | .booting _ n => n

/-- The class record as BOOT_QUERY returns it (R210). -/
def classReport (c : ClassNo) (r : ClassRecord) : List Byte :=
  [byte c, r.state.toByte] ++ be16 r.floor ++ [r.bootBank.toByte, byte r.attempts]
    ++ (match r.image r.bootBank with
        | some i => be16 i.version ++ i.digest.list ++ [byte i.signer] ++ counted i.label
        | none => zeros 36)
    ++ [bankStatus r.imageA, bankStatus r.imageB]

/-- The settings as five fields of 9 bytes (R201, R206). -/
def settingsBytes (s : Settings) : List Byte :=
  byte s.addressBase :: be16 s.trialWindow ++ be16 s.grantWindow ++ be16 s.buttonHold ++ be16 s.enables.toNat

/-- The stream state and reason that go with a refusal about the stream (R207). -/
def streamReason (s : Stream) : List Byte :=
  match s with
  | .failed _ _ _ reason => [s.toByte, reason.toByte]
  | _ => [s.toByte, 0]

/-- Bytes received by a stream; 0 where it has none (R65). -/
def Stream.received : Stream → Nat
  | .closed => 0
  | .checking _ _ => 0
  | .receiving _ _ n _ _ => n
  | .absorbing _ _ n _ => n
  | .verified _ _ n => n
  | .failed _ _ n _ => n

end Sys2Proof.Machine
end

