-- ==== Sys2Proof/Machine/Flags.lean ====
section
/-! DEFINITION. The condition record and the level of ATTN (R171, R193). -/

namespace Sys2Proof.Machine

open Sys2Proof

/-- Raises a condition: the entry is raised with the present uptime count as its time (R193). -/
def raiseCond (k : Condition) (s : State) : State :=
  { s with conditions := s.conditions.set k.index (some s.time.uptime) }

/-- Raises a condition when `b` holds. -/
def raiseIf (b : Bool) (k : Condition) (s : State) : State :=
  { s with conditions := if b then s.conditions.set k.index (some s.time.uptime) else s.conditions }

/-- Whether the condition numbered `i` is raised. -/
def raised (s : State) (i : Fin 11) : Bool := (s.conditions.get i).isSome

/-- The set of raised conditions, in the order of R193 (R205). -/
def raisedSet (s : State) : Nat :=
  (List.finRange 11).foldl (fun acc i => if raised s i then acc + 2 ^ i.val else acc) 0

/-- Number of raised conditions. -/
def raisedCount (s : State) : Nat := (List.finRange 11).countP (raised s)

/-- Whether the condition numbered `i` is reported through ATTN: the enables in force decide (R171, R201). -/
def reported (s : State) (i : Fin 11) : Bool := s.settings.enables.getLsbD i.val

/-- The reporting enable of the stored settings for the condition numbered `i` (R194). DESIGN CHOICE, log 41: also of a
settings record that has failed its check; unsafe for the enables that CONDITIONS then reports. -/
def enableStored (s : State) (i : Fin 11) : Bool := s.store.settings.enables.getLsbD i.val

/-- Clears the named NOTE and WARNING conditions (R195). -/
def clearNamed (named : BitVec 16) (s : State) : State :=
  { s with conditions := s.conditions.mapFin fun i e => if named.getLsbD i.val && severity i < 3 then none else e }

/-- Whether a station's reply counts towards ATTN: unfetched, unsuppressed, and the station's mask bit clear (R171). -/
def replyCounts (r : StationRec) : Bool :=
  match r.slot with
  | some reply => reply.notice && !r.masked
  | none => false

/-- The level of ATTN, set for asserted (R171). ATTN is released until start-up ends. DEDUCED without power, log 30;
safe. -/
def attnLevel (s : State) : Bool :=
  s.power == .on && !s.globalMask
    && ((List.finRange 4).any (fun st => replyCounts (s.stations.get st))
      || (List.finRange 11).any fun i => raised s i && reported s i)

/-- ATTN is recomputed (R171). -/
def recomputeAttn (s : State) : State := { s with attn := attnLevel s }

/-- The condition report (R194, R210). -/
def conditionReport (s : State) : List Byte :=
  (List.finRange 11).flatMap (fun i =>
    [flagByte (raised s i), byte (severity i), flagByte (enableStored s i)]
      ++ be32 ((s.conditions.get i).elim 0 BitVec.toNat))
    ++ [flagByte s.attn]

end Sys2Proof.Machine
end

