-- ==== Sys2Proof/Machine/Governor.lean ====
section
/-! DEFINITION. The arithmetic of the attempt governor (chapter 7). -/

namespace Sys2Proof.Machine

open Sys2Proof

/-- The streak after a failure (R139). -/
def chargedStreak (streak : Nat) : Nat := min (streak + 1) Config.streakCap

/-- The increment of a failure whose streak has been raised to `streak` (R139). -/
def increment (streak : Nat) : Nat := 40 + 8 * min streak 10

/-- The penalty after a failure (R139). -/
def chargedPenalty (penalty streak : Nat) : Nat := min (penalty + increment (chargedStreak streak)) Config.penaltyCap

/-- The lockout delay of a penalty in ds (R141). -/
def lockoutDelay (penalty : Nat) : Nat :=
  if penalty < 128 then 0 else min ((penalty - 96) * (penalty - 96) / 16) Config.lockoutCap

/-- The penalty after a success: the charge's own amount taken back, then halved (R144). -/
def forgivenPenalty (penalty amount : Nat) : Nat := (penalty - amount) / 2

/-- Whether a lockout is in force at an uptime count (R138). -/
def Lockout.inForce (l : Lockout) (now : Count) : Bool :=
  match l with
  | .absent => false
  | .deadline d => d != now
  | .pending _ => true

/-- The remaining delay of a lockout in ds (R143, R152). -/
def Lockout.remaining (l : Lockout) (now : Count) : Nat :=
  match l with
  | .absent => 0
  | .deadline d => (d - now).toNat
  | .pending delay => delay

/-- A deadline `delay` ds after an uptime count (R152). -/
def deadlineAfter (now : Count) (delay : Nat) : Count := now + BitVec.ofNat 32 delay

/-- The lockout that a mismatch starts (R142). -/
def startLockout (now : Count) (delay : Nat) (old : Lockout) : Lockout :=
  if delay = 0 then old else .deadline (deadlineAfter now delay)

/-- The lockout that start-up imposes again from a stored penalty (R147). -/
def pendingLockout (penalty : Nat) : Lockout :=
  if lockoutDelay penalty = 0 then .absent else .pending (lockoutDelay penalty)

/-- What a tick to the count `now` does to a lockout: a deadline reached is removed, and at the first tick after
start-up a pending delay becomes a deadline (R143, R147). -/
def tickLockout (now : Count) (first : Bool) (l : Lockout) : Lockout :=
  match l with
  | .absent => .absent
  | .deadline d => if d = now then .absent else .deadline d
  | .pending delay => if first then .deadline (deadlineAfter now delay) else .pending delay

/-- Decay at a tick: the working penalty is lowered by 1 at a decay tick, stopping at 0 (R145). -/
def decayed (isDecay : Bool) (penalty : Nat) : Nat := if isDecay then penalty - 1 else penalty

/-- What a tick does to a credential. -/
def tickCredential (now : Count) (first isDecay : Bool) (c : Credential) : Credential :=
  match c with
  | .held r => .held { r with penalty := decayed isDecay r.penalty, lockout := tickLockout now first r.lockout }
  | .empty => .empty
  | .reserved => .reserved

/-- Whether a credential has a pending delay (R147). -/
def hasPending (c : Credential) : Bool :=
  match c with
  | .held r => (match r.lockout with | .pending _ => true | _ => false)
  | _ => false

end Sys2Proof.Machine
end

