-- ==== Sys2Proof/Machine/Ops.lean ====
section
/-! DEFINITION. The shared operations: stations and replies, the transmitter, key slots, chains, the stream, targets,
the trial timer, credentials, and what an engine job gives back when it does not end with OK. -/

namespace Sys2Proof.Machine

open Sys2Proof

/-! ### Stations, grants and replies -/

/-- Replaces a station record. -/
def setStation (st : Station) (r : StationRec) (s : State) : State := { s with stations := s.stations.set st r }

/-- Places a reply in a station's reply slot (R167). -/
def placeReply (st : Station) (result : Result) (code : Byte) (body : List Byte) (quiet : Bool) (s : State) : State :=
  setStation st { s.stations.get st with slot := some { result, code, body, notice := !quiet } } s

/-- Whether a station holds a grant (R129). -/
def holdsGrant (st : Station) (s : State) : Bool := (s.stations.get st).grant.isSome

/-- Ends a station's grant (R131). -/
def endGrant (st : Station) (s : State) : State := setStation st { s.stations.get st with grant := none } s

/-- A station record with its grant ended when `b` says so of the grant. -/
def StationRec.dropGrant (b : Grant → Bool) (r : StationRec) : StationRec :=
  { r with grant := r.grant.filter fun g => !b g }

/-- Ends every grant that a credential issued (R131). -/
def endGrantsOf (id : CredId) (s : State) : State :=
  { s with stations := s.stations.map (StationRec.dropGrant fun g => g.credential == id) }

/-- Ends every grant (R131). -/
def endAllGrants (s : State) : State :=
  { s with stations := s.stations.map (StationRec.dropGrant fun _ => true) }

/-- Issues a grant to a station, in place of any it holds (R130). -/
def issueGrant (st : Station) (id : CredId) (s : State) : State :=
  setStation st
    { s.stations.get st with
      grant := some { credential := id, deadline := deadlineAfter s.time.uptime s.settings.grantWindow } } s

/-! ### The transmitter and the line interface -/

/-- Hands an item to the transmitter: it begins when nothing is under way, waits when the waiting place is empty, and
is not sent otherwise (R186, R187). -/
def handItem (item : TxItem) (s : State) : State :=
  { s with
    txNow := if s.txNow.isNone then some item else s.txNow
    txNext := if s.txNow.isSome && s.txNext.isNone then some item else s.txNext }

/-- The line interface returns to IGNORING (R182). DEDUCED, log 13: the gap flag is then clear; safe. -/
def lineIdle (s : State) : State := { s with line := .ignoring, gap := false }

/-- Refuses a faulty frame: it is discarded, FRAME_BAD goes to the transmitter, LINK_FRAME is raised (R186). -/
def frameBad (s : State) : State := raiseCond .linkFrame (handItem (.receipt .frameBad) (lineIdle s))

/-! ### The engine's jobs -/

/-- The request code of an engine request. -/
def Work.code : Work → Byte
  | .keyGenerate _ _ => ReqCode.keyGenerate.toByte
  | .keyImport _ _ => ReqCode.keyImport.toByte
  | .keyDerive _ _ _ _ _ _ _ => ReqCode.keyDerive.toByte
  | .keySign _ _ _ => ReqCode.keySign.toByte
  | .keyVerify _ _ _ _ => ReqCode.keyVerify.toByte
  | .keyErase _ _ => ReqCode.keyErase.toByte
  | .chainExtend _ _ _ => ReqCode.chainExtend.toByte
  | .quote _ _ _ _ => ReqCode.quote.toByte
  | .updateOpen => ReqCode.updateOpen.toByte
  | .updateData _ => ReqCode.updateData.toByte
  | .targetActivate _ => ReqCode.targetActivate.toByte
  | .bootConfirm _ => ReqCode.bootConfirm.toByte
  | .credSet _ _ _ => ReqCode.credSet.toByte
  | .credVerify _ _ => ReqCode.credVerify.toByte
  | .credRelease _ => ReqCode.credRelease.toByte
  | .credClear _ => ReqCode.credClear.toByte
  | .settingsWrite _ => ReqCode.settingsWrite.toByte

/-- Whether the request is one of the update stream's (R79). -/
def Work.isStream : Work → Bool
  | .updateOpen => true
  | .updateData _ => true
  | _ => false

/-- The station whose request a job carries: its own, or station 2 for an attached OWNER_RESET (R160, R175). -/
def Job.holder : Job → Option Station
  | .station j => some j.station
  | .trialAccount => none
  | .ownerReset (some _) _ => some 2
  | .ownerReset none _ => none

/-- The request code that a reply to a job echoes. -/
def Job.code : Job → Byte
  | .station j => j.work.code
  | .trialAccount => 0
  | .ownerReset _ _ => ReqCode.ownerReset.toByte

/-- The QUIET flag of the request that a job carries. -/
def Job.quiet : Job → Bool
  | .station j => j.quiet
  | .trialAccount => false
  | .ownerReset attached _ => attached.getD false

/-- The station whose request in hand the running job is; none once a SoC reset has been sensed (R178). -/
def Running.holder (r : Running) : Option Station := if r.crossed then none else r.job.holder

/-- The request state of a station (R160). DESIGN CHOICE, log 26; safe. -/
def requestState (st : Station) (s : State) : RequestState :=
  if (s.running.bind Running.holder) = some st then .running
  else if s.queue.any (fun j => j.holder == some st) then .waiting
  else .idle

/-- A station's request in hand, waiting or running (R160). -/
def requestInHand (st : Station) (s : State) : Option Job :=
  match s.running with
  | some r => if r.holder = some st then some r.job else s.queue.find? fun j => j.holder == some st
  | none => s.queue.find? fun j => j.holder == some st

/-- Whether a station's request in hand is the stream's UPDATE_OPEN or UPDATE_DATA (R79). -/
def streamJobInHand (st : Station) (s : State) : Bool :=
  match requestInHand st s with
  | some (.station j) => j.work.isStream
  | _ => false

/-- A station job joins the end of the engine queue (R166, R173). -/
def enqueue (st : Station) (quiet : Bool) (work : Work) (s : State) : State :=
  { s with queue := s.queue ++ [.station { station := st, quiet, work }] }

/-- A waiting job with its request withdrawn: a station job goes, an OWNER_RESET_JOB stays for a button hold (R172,
R175). -/
def Job.withdrawn : Job → Option Job
  | .station _ => none
  | .trialAccount => some .trialAccount
  | .ownerReset _ true => some (.ownerReset none true)
  | .ownerReset (some _) false => none
  | .ownerReset none false => some (.ownerReset none false)

/-- TRIAL_ACCOUNT joins the queue, or merges into a waiting one; in FAULT mode nothing is queued (R102). -/
def queueTrialAccount (s : State) : State :=
  { s with queue := if s.fault || s.queue.contains .trialAccount then s.queue else s.queue ++ [.trialAccount] }

/-- Whether a job is an OWNER_RESET_JOB. -/
def Job.isOwnerReset : Job → Bool
  | .ownerReset _ _ => true
  | _ => false

/-- A button hold queues an OWNER_RESET_JOB or merges into a waiting one; in FAULT mode it queues nothing (R157). -/
def queueButtonReset (s : State) : State :=
  { s with queue :=
      if s.fault then s.queue
      else if s.queue.any Job.isOwnerReset then
        s.queue.map fun j => match j with
          | .ownerReset attached _ => .ownerReset attached true
          | j => j
      else s.queue ++ [.ownerReset none true] }

/-- An OWNER_RESET request attaches itself to a waiting OWNER_RESET_JOB, or to a new one (R175). -/
def attachOwnerReset (quiet : Bool) (s : State) : State :=
  { s with queue :=
      if s.queue.any Job.isOwnerReset then
        s.queue.map fun j => match j with
          | .ownerReset _ button => .ownerReset (some quiet) button
          | j => j
      else s.queue ++ [.ownerReset (some quiet) false] }

/-! ### Key table -/

/-- Replaces a slot of the key table. -/
def setKey (slot : Slot) (k : KeySlot) (s : State) : State := { s with keys := s.keys.set slot k }

/-- The record of an ACTIVE slot. -/
def activeKey? (slot : Slot) (s : State) : Option KeyRecord :=
  match s.keys.get slot with
  | .active k => some k
  | _ => none

/-- Whether a slot is RESERVED. -/
def KeySlot.isReserved : KeySlot → Bool
  | .reserved _ => true
  | _ => false

/-- Whether an ACTIVE slot holds a fingerprint (R4). -/
def holdsFingerprint (fp : Bytes 32) (s : State) : Bool :=
  (List.finRange 64).any fun slot => match s.keys.get slot with
    | .active k => k.fingerprint == fp
    | _ => false

/-- The vendor slots 0 to 5 (R5). -/
def isVendor (slot : Nat) : Bool := slot < 6

/-- A RESERVED slot returns to EMPTY (R9). -/
def freeSlot (slot : Slot) (s : State) : State :=
  { s with keys := s.keys.set slot (if (s.keys.get slot).isReserved then .empty else s.keys.get slot) }

/-- Whether a record is an owner update key: VERIFYING with usage set VERIFY_OWNER_UPDATE (R16). -/
def KeyRecord.isOwnerUpdate (k : KeyRecord) : Bool := k.material.kind == .verifying && k.usage == 0x10

/-- Owner update keys that exist or are being imported (R16). -/
def ownerUpdateCount (s : State) : Nat :=
  (List.finRange 64).countP fun slot => match s.keys.get slot with
    | .active k => k.isOwnerUpdate
    | .reserved b => b
    | .empty => false

/-- Whether some vendor slot other than `except` holds an ACTIVE key with VERIFY_VENDOR_UPDATE (R71, R98). -/
def vendorSurvives (except : Slot → Bool) (s : State) : Bool :=
  (List.finRange 64).any fun slot => isVendor slot && !except slot && match s.keys.get slot with
    | .active k => hasBit k.usage 3
    | _ => false

/-! ### Evidence unit -/

/-- Replaces a chain. -/
def setChain (c : ChainNo) (r : Chain) (s : State) : State := { s with chains := s.chains.set c r }

/-- The value of a chain extended with a measurement (R34). -/
def extendedValue (old measurement : Bytes 32) : Bytes 32 := digest (old.list ++ measurement.list)

/-- Whether the log has room (R38). -/
def logRoom (s : State) : Bool := decide (s.log.length < Config.logCap)

/-- Writes an extension: the new value, the count, and a log entry or the log-incomplete flag with LOG_INCOMPLETE
raised (R34, R38). -/
def extendChain (c : ChainNo) (value measurement : Bytes 32) (tag : List Byte) (station : Option Station)
    (s : State) : State :=
  raiseIf (!logRoom s) .logIncomplete
    { s with
      chains := s.chains.set c
        { s.chains.get c with
          value
          count := min ((s.chains.get c).count + 1) Config.extendCap
          logIncomplete := (s.chains.get c).logIncomplete || !logRoom s }
      log := if logRoom s then s.log ++ [{ chain := c, measurement, tag, station, uptime := s.time.uptime }] else s.log }

/-- A part extension with a marker record (R41, R42). -/
def partExtend (m : Marker) (s : State) : State :=
  extendChain m.kind.chain (extendedValue (s.chains.get m.kind.chain).value (digest (markerBytes m)))
    (digest (markerBytes m)) (markerBytes m) none s

/-! ### The update stream -/

/-- The stream fails with a reason, and UPDATE_REJECTED is raised; CLOSED and FAILED streams stay (R66). -/
def failStream (reason : Result) (s : State) : State :=
  match s.stream with
  | .closed => s
  | .failed _ _ _ _ => s
  | .checking raw limit => raiseCond .updateRejected { s with stream := .failed raw limit 0 reason }
  | .receiving m limit n _ _ => raiseCond .updateRejected { s with stream := .failed m.raw limit n reason }
  | .absorbing m limit n _ => raiseCond .updateRejected { s with stream := .failed m.raw limit n reason }
  | .verified m limit n => raiseCond .updateRejected { s with stream := .failed m.raw limit n reason }

/-- The manifest of a stream that a sweep can fail: RECEIVING, ABSORBING or VERIFIED (R82, R83). -/
def Stream.sweepable : Stream → Option Manifest
  | .receiving m _ _ _ _ => some m
  | .absorbing m _ _ _ => some m
  | .verified m _ _ => some m
  | _ => none

/-- Fails the stream with a reason when `stale` says so of its manifest. -/
def failStale (stale : Manifest → Bool) (reason : Result) (s : State) : State :=
  match s.stream.sweepable with
  | some m => if stale m then failStream reason s else s
  | none => s

/-! ### Targets and the sweep (R108, R109) -/

/-- Empties the targets that `stale` names. -/
def dropTargets (stale : Target → Bool) (s : State) : State :=
  { s with targets := s.targets.map fun t => t.filter fun t => !stale t }

/-- The sweep for a slot whose key has been revoked or erased (R83, R109). -/
def sweepKey (slot : Slot) (s : State) : State :=
  failStale (fun m => m.signer == slot) .revoked (dropTargets (fun t => t.signer == slot) s)

/-- The floor of a class; 0 for a class with no working record. -/
def floorOf (c : ClassNo) (s : State) : Nat := (s.classes.get c).elim 0 ClassRecord.floor

/-- The sweep for the floor of a class and, when it changed, its active bank (R82, R108, R109). -/
def sweepClassFloor (c : ClassNo) (bankChanged : Bool) (s : State) : State :=
  let floor := floorOf c s
  let active := (s.classes.get c).map ClassRecord.active
  failStale (fun m => m.cls == c && decide (m.version < floor)) .rollback
    (dropTargets (fun t => t.cls == c
      && (decide (t.version < floor) || (bankChanged && t.trial && active == some t.bank))) s)

/-- The key in a slot is erased and handed to the sweep (R25, R26). -/
def eraseAndSweep (slot : Slot) (s : State) : State := sweepKey slot (setKey slot .empty s)

/-! ### Trial timer, confirm hold and SOCRST pulse -/

/-- A pulse request: the pulse timer starts, or the request merges into the pulse under way (R158). -/
def Pulse.request (p : Pulse) : Pulse :=
  match p with
  | .idle => .driving 0
  | .driving n => .driving n

/-- Whether a trial timer is RUNNING past a deadline that it has reached (R101). -/
def TrialTimer.overdue : TrialTimer → Bool
  | .running _ reached => reached
  | _ => false

/-- The confirm hold is cleared; a RUNNING timer whose deadline has been reached expires at that moment (R101). -/
def clearHold (s : State) : State :=
  { s with
    hold := false
    timer := if s.timer.overdue then .expired else s.timer
    time := { s.time with pulse := if s.timer.overdue then s.time.pulse.request else s.time.pulse } }

/-- The trial timer starts with a deadline one trial window ahead, and the hold is cleared (R100, R103). -/
def startTrialTimer (s : State) : State :=
  { s with timer := .running (deadlineAfter s.time.uptime s.settings.trialWindow) false, hold := false }

/-- The trial timer is stopped and the hold cleared (R100, R107). -/
def stopTrialTimer (s : State) : State := { s with timer := .stopped, hold := false }

/-! ### Credentials -/

/-- Replaces a credential. -/
def setCred (id : CredId) (c : Credential) (s : State) : State := { s with creds := s.creds.set id c }

/-- The record of a SET credential. -/
def heldCred? (id : CredId) (s : State) : Option CredRecord :=
  match s.creds.get id with
  | .held r => some r
  | _ => none

/-- Whether a credential is RESERVED. -/
def Credential.isReserved : Credential → Bool
  | .reserved => true
  | _ => false

/-- A RESERVED credential returns to EMPTY (R115). -/
def freeCred (id : CredId) (s : State) : State :=
  { s with creds := s.creds.set id (if (s.creds.get id).isReserved then .empty else s.creds.get id) }

/-- The part is owner-claimed while credential 0 is SET (R117). -/
def ownerClaimed (s : State) : Bool := (heldCred? 0 s).isSome

/-- The credential information record for a requesting station (R128, R210). -/
def credentialInfo (id : CredId) (st : Station) (s : State) : List Byte :=
  (match s.creds.get id with
    | .held r =>
      [byte id, 2, r.contents.kind.toByte, byte (r.contents.grants.toNat + 2 * r.contents.freeRelease.toNat),
        r.contents.releaseMask, byte r.contents.value.length]
        ++ be16 r.penalty ++ [byte r.streak] ++ be16 (r.lockout.remaining s.time.uptime) ++ counted r.contents.label
    | .reserved => [byte id, 1] ++ zeros 10
    | .empty => [byte id, 0] ++ zeros 10)
    ++ [flagByte (ownerClaimed s)]
    ++ (match (s.stations.get st).grant with
        | some g => [1, byte g.credential] ++ be16 (g.deadline - s.time.uptime).toNat
        | none => zeros 4)

/-! ### Undoing the notes of a request that does not end with OK -/

/-- What the owning block gives back when a request ends with a result other than OK: a reserved slot or id, a
confirm hold (R9, R101, R115). -/
def releaseWork (w : Work) (s : State) : State :=
  match w with
  | .keyGenerate p _ => freeSlot p.slot s
  | .keyImport p _ => freeSlot p.slot s
  | .keyDerive _ _ _ target _ _ _ => freeSlot target s
  | .credSet p change _ => if change then s else freeCred p.id s
  | .bootConfirm _ => clearHold s
  | .keySign _ _ _ => s
  | .keyVerify _ _ _ _ => s
  | .keyErase _ _ => s
  | .chainExtend _ _ _ => s
  | .quote _ _ _ _ => s
  | .updateOpen => s
  | .updateData _ => s
  | .targetActivate _ => s
  | .credVerify _ _ => s
  | .credRelease _ => s
  | .credClear _ => s
  | .settingsWrite _ => s

/-- What the stream becomes when its waiting job is removed (R80). -/
def releaseStream (w : Work) (s : State) : State :=
  match w with
  | .updateOpen => { s with stream := .closed }
  | .updateData _ =>
    { s with stream := match s.stream with
        | .absorbing m limit n absorbed =>
          .receiving m limit n absorbed (deadlineAfter s.time.uptime Config.idleDelay)
        | other => other }
  | _ => s

/-- The owning block undoes the notes of a waiting job that is removed (R172, R177, R178). -/
def undoJob (j : Job) (s : State) : State :=
  match j with
  | .station j => releaseStream j.work (releaseWork j.work s)
  | .trialAccount => s
  | .ownerReset _ _ => s

/-- The running job ends: the engine is free, and the reply goes to the station whose request in hand it was (R174,
R178). -/
def endJob (result : Result) (body : List Byte) (s : State) : State :=
  match s.running with
  | none => s
  | some r =>
    match r.holder with
    | some st => placeReply st result r.job.code body r.job.quiet { s with running := none }
    | none => { s with running := none }

/-- The running job ends with a result other than OK, and its owning block undoes its notes (R2, R115, R101). -/
def failJob (result : Result) (body : List Byte) (s : State) : State :=
  match s.running with
  | some { job := .station j, .. } => endJob result body (releaseWork j.work s)
  | _ => endJob result body s

/-- Gives the running job's computed data a new value. -/
def setData (d : JobData) (s : State) : State :=
  { s with running := s.running.map fun r => { r with data := d } }

/-- Adds an outcome to the running job's list of action outcomes (R99). -/
def noteOutcome (o : ActionOutcome) (s : State) : State :=
  { s with running := s.running.map fun r => { r with outcomes := r.outcomes ++ [o] } }

end Sys2Proof.Machine
end

