-- ==== Sys2Proof/Machine/Engine.lean ====
section
/-! DEFINITION. The steps of jobs and of start-up: which of them write the store, what the write leaves in the store,
and what the step does to working state; and how the engine takes a job through its steps (R174, R176, R177). -/

namespace Sys2Proof.Machine

open Sys2Proof

/-! ### Class records -/

/-- A bank's image record, replaced. -/
def ClassRecord.setImage (r : ClassRecord) (bank : Bank) (i : Option ImageRecord) : ClassRecord :=
  match bank with
  | .a => { r with imageA := i }
  | .b => { r with imageB := i }

/-- The other bank. -/
def Bank.other : Bank → Bank
  | .a => .b
  | .b => .a

/-- The image record a target gives its bank (R91, R95). -/
def Target.image (t : Target) : ImageRecord :=
  { version := t.version, digest := t.digest, label := t.label, signer := t.signer, stale := false }

/-- Marks a bank's record stale when its version is below the floor (R91). -/
def ClassRecord.markBelow (r : ClassRecord) (bank : Bank) : ClassRecord :=
  match r.image bank with
  | some i => if i.version < r.floor then r.setImage bank (some { i with stale := true }) else r
  | none => r

/-- The class record of a permanent activation (R95, step 1). -/
def ClassRecord.activated (r : ClassRecord) (t : Target) : ClassRecord :=
  ClassRecord.markBelow
    { r.setImage t.bank (some t.image) with
      active := t.bank, floor := max r.floor t.version, deferred := t.actions }
    t.bank.other

/-- The class record of a trial activation (R96). -/
def ClassRecord.onTrial (r : ClassRecord) (t : Target) : ClassRecord :=
  { r.setImage t.bank (some t.image) with state := .pending t.bank 3, deferred := t.actions }

/-- The bank on trial. -/
def ClassRecord.trialBank (r : ClassRecord) : Option Bank :=
  match r.state with
  | .steady => none
  | .pending bank _ => some bank
  | .booting bank _ => some bank

/-- Security version of the image on trial; 0 without one. -/
def ClassRecord.trialVersion (r : ClassRecord) : Nat :=
  match r.trialBank with
  | some bank => (r.image bank).elim 0 ImageRecord.version
  | none => 0

/-- The class record of a confirm (R107, step 1). -/
def ClassRecord.confirmed (r : ClassRecord) : ClassRecord :=
  match r.trialBank with
  | some bank =>
    ClassRecord.markBelow { r with active := bank, floor := max r.floor r.trialVersion, state := .steady } r.active
  | none => r

/-- The class record of an accounting that does not revert (R103). -/
def ClassRecord.counted (r : ClassRecord) : ClassRecord :=
  match r.state with
  | .steady => r
  | .pending bank _ => { r with state := .booting bank 2 }
  | .booting bank n => { r with state := .booting bank (n - 1) }

/-- The class record of a revert (R104). -/
def ClassRecord.reverted (r : ClassRecord) : ClassRecord :=
  match r.trialBank with
  | some bank =>
    { r.setImage bank ((r.image bank).map fun i => { i with stale := true }) with state := .steady, deferred := [] }
  | none => r

/-- The class record in the store after a class-writing step. -/
def landClass (c : ClassNo) (f : ClassRecord → ClassRecord) (s : State) : Store :=
  match s.classes.get c with
  | some r => { s.store with classes := s.store.classes.set c (f r) }
  | none => s.store

/-- The working class record after a class-writing step. -/
def setClass (c : ClassNo) (f : ClassRecord → ClassRecord) (s : State) : State :=
  { s with classes := s.classes.set c ((s.classes.get c).map f) }

/-! ### Deferred actions (R98, R99) -/

/-- The signer slot of the image being activated or confirmed: that of the class's active bank. -/
def activeSigner (c : ClassNo) (s : State) : Option Slot :=
  ((s.classes.get c).bind fun r => r.image r.active).map ImageRecord.signer

/-- The record an INSTALL_VENDOR_KEY writes (R6). -/
def vendorRecord (key : Bytes 64) : KeyRecord :=
  { material := .verifying key, origin := .update, persistence := .persistent, usage := 0x08, mask := 0x07,
    binding := none, ownerHeld := false, fingerprint := digest key.list, label := [] }

/-- The slot that an action applies to, when its conditions hold (R98). -/
def actionTarget (c : ClassNo) (a : Action) (s : State) : Option Slot :=
  match a with
  | .revoke n =>
    match fin? 64 n with
    | some slot =>
      if isVendor n && (activeKey? slot s).isSome && activeSigner c s != some slot
          && decide (s.revoked.length < Config.revocationCap) && vendorSurvives (fun x => x == slot) s
      then some slot else none
    | none => none
  | .install n key =>
    match fin? 64 n with
    | some slot =>
      if isVendor n && (s.keys.get slot == .empty) && !s.revoked.contains (digest key.list)
          && !holdsFingerprint (digest key.list) s
      then some slot else none
    | none => none

/-- The fingerprint of an ACTIVE slot, as a list of at most one. -/
def fingerprintOf (slot : Slot) (s : State) : List (Bytes 32) := ((activeKey? slot s).map KeyRecord.fingerprint).toList

/-! ### Credentials' records -/

/-- The store record of a SET credential with other governor values. -/
def storeCred (id : CredId) (r : StoredCred) (s : State) : Store :=
  { s.store with creds := s.store.creds.set id (some r) }

/-- The amount and the match that a CRED_VERIFY job has noted (R138). -/
def noted (s : State) : Nat × Bool :=
  match s.running with
  | some r => (match r.data with | .comparison _ amount matched => (amount, matched) | _ => (0, false))
  | none => (0, false)

/-- Whether a candidate matches a credential (R116). -/
def candidateMatches (contents : CredContents) (candidate : List Byte) : Bool :=
  digest (contents.salt.list ++ candidate) == contents.verifier

/-- The record that the running job's slot is to hold. -/
def runningKey (s : State) : Option KeyRecord :=
  match s.running with
  | some r => (match r.data with | .key k => some k | _ => none)
  | none => none

/-- The contents that the running CRED_SET is to store. -/
def runningContents (s : State) : Option CredContents :=
  match s.running with
  | some r => (match r.data with | .credential c => some c | _ => none)
  | none => none

/-- The settings that the running SETTINGS_WRITE is to store. -/
def runningSettings (s : State) : Option Settings :=
  match s.running with
  | some r => (match r.data with | .newSettings v => some v | _ => none)
  | none => none

/-- Whether a slot holds an ACTIVE owner-held key of a persistence (R30). -/
def ownerHeldIn (slot : Slot) (p : Persistence) (s : State) : Bool :=
  match s.keys.get slot with
  | .active k => k.ownerHeld && k.persistence == p
  | _ => false

/-- Counts a credential or key slot erased by an owner reset (R197). -/
def countErased (creds keys : Nat) (s : State) : State :=
  { s with running := s.running.map fun r =>
      { r with data := match r.data with
          | .erased c k => .erased (c + creds) (k + keys)
          | d => d } }

/-! ### What a step writes, and what it does -/

/-- Whether a step makes a store write, judged when its turn has come (R176). -/
def JobStep.writes (step : JobStep) (s : State) : Bool :=
  match step with
  | .keyRecord _ => (runningKey s).isSome
  | .keyRemove _ => true
  | .activate t => (s.classes.get t.cls).isSome
  | .activateTrial t => (s.classes.get t.cls).isSome
  | .confirm c => (s.classes.get c).isSome
  | .stopTimer => false
  | .action c a => (actionTarget c a s).isSome
  | .revokeSlot _ => true
  | .clearDeferred c => (s.classes.get c).isSome
  | .sweepClass _ _ => false
  | .marker _ => false
  | .emptyTarget _ => false
  | .account c => (s.classes.get c).isSome
  | .revert c => (s.classes.get c).isSome
  | .raise _ => false
  | .credRecord _ => (runningContents s).isSome
  | .charge id => (heldCred? id s).isSome
  | .compare _ _ => false
  | .success id => (noted s).2 && (heldCred? id s).isSome
  | .credRemove _ => true
  | .settingsRecord => (runningSettings s).isSome
  | .markWrite => true
  | .endGrants => false
  | .eraseCred id => (heldCred? id s).isSome
  | .eraseKey slot => ownerHeldIn slot .persistent s
  | .defaultSettings _ => true
  | .markRemove => true
  | .countStart => true
  | .removeRevoked _ => true

/-- The store when the step's write has landed (R176): one whole record replaced or removed. -/
def JobStep.land (step : JobStep) (s : State) : Store :=
  match step with
  | .keyRecord slot => { s.store with keys := s.store.keys.set slot (runningKey s) }
  | .keyRemove slot => { s.store with keys := s.store.keys.set slot none }
  | .activate t => landClass t.cls (fun r => r.activated t) s
  | .activateTrial t => landClass t.cls (fun r => r.onTrial t) s
  | .confirm c => landClass c ClassRecord.confirmed s
  | .action c a =>
    match actionTarget c a s, a with
    | some slot, .revoke _ => { s.store with revocation := s.revoked ++ fingerprintOf slot s }
    | some slot, .install _ key => { s.store with keys := s.store.keys.set slot (some (vendorRecord key)) }
    | none, _ => s.store
  | .revokeSlot slot => { s.store with keys := s.store.keys.set slot none }
  | .clearDeferred c => landClass c (fun r => { r with deferred := [] }) s
  | .account c => landClass c ClassRecord.counted s
  | .revert c => landClass c ClassRecord.reverted s
  | .credRecord id =>
    match runningContents s, heldCred? id s with
    | some contents, some r => storeCred id { contents, penalty := r.penalty, streak := r.streak } s
    | some contents, none => storeCred id { contents, penalty := 0, streak := 0 } s
    | none, _ => s.store
  | .charge id =>
    match heldCred? id s with
    | some r =>
      storeCred id { contents := r.contents, penalty := chargedPenalty r.penalty r.streak,
                     streak := chargedStreak r.streak } s
    | none => s.store
  | .success id =>
    match heldCred? id s with
    | some r =>
      storeCred id { contents := r.contents, penalty := forgivenPenalty r.penalty (noted s).1, streak := 0 } s
    | none => s.store
  | .credRemove id => { s.store with creds := s.store.creds.set id none }
  | .settingsRecord => { s.store with settings := (runningSettings s).getD s.store.settings }
  | .markWrite => { s.store with resetMark := true }
  | .eraseCred id => { s.store with creds := s.store.creds.set id none }
  | .eraseKey slot => { s.store with keys := s.store.keys.set slot none }
  | .defaultSettings _ => { s.store with settings := .default }
  | .markRemove => { s.store with resetMark := false }
  | .countStart => { s.store with partResets := s.partResets + 1 }
  | .removeRevoked slot => { s.store with keys := s.store.keys.set slot none }
  | .stopTimer => s.store
  | .sweepClass _ _ => s.store
  | .marker _ => s.store
  | .emptyTarget _ => s.store
  | .raise _ => s.store
  | .compare _ _ => s.store
  | .endGrants => s.store

/-- What the step does to working state, once its write, if it makes one, has completed. DEDUCED, log 20, 22 and 33,
for revocations, charges and removals; unsafe as they say. -/
def JobStep.act (step : JobStep) (s : State) : State :=
  match step with
  | .keyRecord _ => s
  | .keyRemove _ => s
  | .activate t => setClass t.cls (fun r => r.activated t) s
  | .activateTrial t => setClass t.cls (fun r => r.onTrial t) s
  | .confirm c => setClass c ClassRecord.confirmed s
  | .stopTimer => stopTrialTimer s
  | .action c a =>
    match actionTarget c a s, a with
    | some slot, .revoke _ =>
      noteOutcome .applied (setKey slot .empty { s with revoked := s.revoked ++ fingerprintOf slot s })
    | some slot, .install _ key => noteOutcome .applied (setKey slot (.active (vendorRecord key)) s)
    | none, _ => noteOutcome .skipped (raiseCond .actionSkipped s)
  | .revokeSlot slot => sweepKey slot (raiseCond .keyRevoked s)
  | .clearDeferred c => setClass c (fun r => { r with deferred := [] }) s
  | .sweepClass c bankChanged => sweepClassFloor c bankChanged s
  | .marker m => partExtend m s
  | .emptyTarget index => { s with targets := s.targets.set index none }
  | .account c => setClass c ClassRecord.counted s
  | .revert c => setClass c ClassRecord.reverted s
  | .raise k => raiseCond k s
  | .credRecord _ => s
  | .charge id =>
    match heldCred? id s with
    | some r =>
      let penalty := chargedPenalty r.penalty r.streak
      setData (.comparison penalty (penalty - r.penalty) false)
        (setCred id (.held { r with penalty, streak := chargedStreak r.streak }) s)
    | none => s
  | .compare id candidate =>
    { s with running := s.running.map fun job =>
        { job with data := match job.data, heldCred? id s with
            | .comparison charged amount _, some r => .comparison charged amount (candidateMatches r.contents candidate)
            | d, _ => d } }
  | .success id =>
    match (noted s).2, heldCred? id s with
    | true, some r => setCred id (.held { r with penalty := forgivenPenalty r.penalty (noted s).1, streak := 0 }) s
    | _, _ => s
  | .credRemove _ => s
  | .settingsRecord =>
    { s with settings := match runningSettings s with
        | some v => { v with addressBase := s.settings.addressBase }
        | none => s.settings }
  | .markWrite => s
  | .endGrants => endAllGrants s
  | .eraseCred id =>
    match heldCred? id s with
    | some _ => countErased 1 0 (setCred id .empty s)
    | none => s
  | .eraseKey slot =>
    if ownerHeldIn slot .persistent s || ownerHeldIn slot .epoch s then countErased 0 1 (eraseAndSweep slot s) else s
  | .defaultSettings withBase =>
    { s with settings := { Settings.default with
        addressBase := if withBase then Settings.default.addressBase else s.settings.addressBase } }
  | .markRemove => s
  | .countStart => { s with partResets := s.partResets + 1 }
  | .removeRevoked _ => s

/-- Steps that a step brings with it: a revocation goes on to remove the slot's record (R8). DEDUCED, log 20; safe. -/
def JobStep.follow (step : JobStep) (s : State) : List JobStep :=
  match step with
  | .action c (.revoke n) => ((actionTarget c (.revoke n) s).map JobStep.revokeSlot).toList
  | _ => []

/-- What a failed write leaves of working state (R26, R52, R200): an erasure stands, a count is raised, all else is as
before the write. DEDUCED, log 19: an erasure that stands is swept; unsafe for targets in FAULT mode. -/
def JobStep.lose (step : JobStep) (s : State) : State :=
  match step with
  | .keyRemove slot => eraseAndSweep slot s
  | .eraseCred id => setCred id .empty s
  | .eraseKey slot => eraseAndSweep slot s
  | .countStart => { s with partResets := s.partResets + 1 }
  | _ => s

/-- Whether a failed write may have landed all the same: the part-reset count keeps its old value, the owner reset mark
is left standing by a failed removal, and after a failed success write the charge stands in the store (R52, R123, R176,
R198, R200). DEDUCED, log 36; unsafe for these three records. -/
def JobStep.mayLand : JobStep → Bool
  | .countStart => false
  | .markRemove => false
  | .success _ => false
  | _ => true

/-- A step done: its write, if it makes one, lands, and working state changes. -/
def JobStep.complete (step : JobStep) (s : State) : State :=
  { step.act s with store := if step.writes s then step.land s else s.store }

/-- A step and what it brings with it, done to the end. -/
def JobStep.finish (step : JobStep) (s : State) : State :=
  (step.follow s).foldl (fun s step => step.complete s) (step.complete s)

/-- A step whose write fails; `landed` says what the record holds afterwards (R176). -/
def JobStep.fail (step : JobStep) (landed : Bool) (s : State) : State :=
  { step.lose s with store := if landed && step.mayLand then step.land s else s.store }

/-! ### Taking a job through its steps -/

/-- The running job's steps still to do. -/
def setTodo (todo : List JobStep) (s : State) : State :=
  { s with running := s.running.map fun r => { r with todo } }

/-- Does the steps of a list up to the first that writes the store, which is then the write under way. -/
def runFree : List JobStep → State → State
  | [], s => setTodo [] s
  | step :: rest, s => if step.writes s then setTodo (step :: rest) s else runFree rest (step.complete s)

/-- The store write under way (R176). -/
def underWay (s : State) : Option JobStep :=
  match s.running with
  | some { todo := step :: _, .. } => if step.writes s then some step else none
  | _ => none

/-- The store write under way completes, and the job goes on to its next one (R176). DEDUCED, log 5; unsafe between two
writes of one job. -/
def writeCompletes (s : State) : State :=
  match s.running with
  | some { todo := step :: rest, .. } =>
    if step.writes s then runFree (step.follow s ++ rest) (step.complete s) else s
  | _ => s

/-- Every step that the running job has still to do is done, its writes completing one after the other. -/
def finishSteps (s : State) : State :=
  match s.running with
  | some r => setTodo [] (r.todo.foldl (fun s step => step.finish s) s)
  | none => s

/-- The job that the engine may start: the oldest, when none is running and the part is not in FAULT mode (R174). -/
def nextJob (s : State) : Option Job := if s.fault || s.running.isSome then none else s.queue.head?

/-- The engine takes the oldest job; it is then the running one (R174). -/
def takeJob (s : State) : State :=
  { s with
    queue := s.queue.tail
    running := s.queue.head?.map fun job =>
      { job, crossed := false, dropped := false, todo := [], data := .blank, outcomes := [] } }

/-- A job that has passed its checks at start: what it has computed, and its steps begin. -/
def launch (d : JobData) (todo : List JobStep) (s : State) : State := runFree todo (setData d s)

/-- The start of a station job of one kind: when it is the engine's next job it becomes the running one and `start`
makes its checks; otherwise nothing starts. -/
def onStart (start : StationJob → Option (State → State)) (s : State) : State :=
  match nextJob s with
  | some (.station j) => match start j with
    | some f => f (takeJob s)
    | none => s
  | _ => s

/-- The end of the running job when `is` knows it: its steps still to do are done, and `fin` ends it; otherwise
nothing ends. -/
def onEnd (is : Job → Bool) (fin : Running → State → State) (s : State) : State :=
  match s.running with
  | some r =>
    if is r.job then
      match (finishSteps s).running with
      | some done => fin done (finishSteps s)
      | none => s
    else s
  | none => s

/-- Whether a job is a station job whose request `is` knows. -/
def Job.is (is : Work → Bool) : Job → Bool
  | .station j => is j.work
  | _ => false

/-! ### FAULT mode (R177) -/

/-- A waiting job is answered FAULT and undone; a dropped internal job answers the request attached to it. -/
def answerFault (s : State) (j : Job) : State :=
  match j.holder with
  | some st => undoJob j (placeReply st .faulted j.code [] j.quiet s)
  | none => undoJob j s

/-- The part enters FAULT mode during operation (R86, R177). -/
def enterFault (s : State) : State :=
  { s.queue.foldl answerFault { s with queue := [], fault := true } with stream := .closed }

/-- The store write under way fails: the job ends with NV_FAILED, NV_WRITE_FAILED is raised, and the part enters FAULT
mode (R176). -/
def writeFails (landed : Bool) (s : State) : State :=
  match underWay s with
  | some step => enterFault (raiseCond .nvWriteFailed (failJob .nvFailed [] (step.fail landed s)))
  | none => s

/-! ### Events of the engine -/

/-- An event that only a running part knows: it changes nothing without power or in start-up. ATTN follows it. DESIGN
CHOICE, log 3 and 11: an event that cannot occur changes nothing; safe. -/
def whenOn (f : State → State) (s : State) : Host.Outcome State Fault Refusal :=
  .next (if s.power = .on then recomputeAttn (f s) else s)

def execStoreWriteComplete (s : State) : Host.Outcome State Fault Refusal := whenOn writeCompletes s

def execStoreWriteFailed (landed : Bool) (s : State) : Host.Outcome State Fault Refusal := whenOn (writeFails landed) s

end Sys2Proof.Machine
end

