-- ==== Sys2Proof/Machine/Operands.lean ====
section
/-! DEFINITION. The operands of requests: what a body holds, in every form R206 and R209 give it, and the general
checks that look at it (R163, R165, R206). -/

namespace Sys2Proof.Machine

open Sys2Proof

/-! ### Check 3: the body length (R206) -/

/-- The body lengths that check 3 accepts for a request. -/
def lengthOk (c : ReqCode) (n : Nat) : Bool :=
  match c with
  | .fetch => n == 0
  | .abort => n == 0
  | .status => n == 0
  | .conditions => n == 0
  | .clearConditions => n == 2
  | .setNoticeMask => n == 2
  | .closeStage => n == 0
  | .settingsRead => n == 0
  | .settingsWrite => n == 10
  | .ownerReset => n == 0
  | .keyGenerate => decide (39 ≤ n)
  | .keyImport => decide (40 ≤ n)
  | .keySign => n == 33
  | .keyVerify => n == 97
  | .keyDerive => decide (5 ≤ n)
  | .keyErase => n == 1
  | .keyInfo => n == 1
  | .keyPublic => n == 1
  | .chainExtend => decide (33 ≤ n) && decide (n ≤ 49)
  | .chainFreeze => n == 1
  | .chainRead => n == 2
  | .logRead => n == 2
  | .quote => decide (11 ≤ n) && decide (n ≤ 35)
  | .identityRead => n == 0
  | .updateOpen => decide (2 ≤ n) && decide (n ≤ 513)
  | .updateData => decide (1 ≤ n) && decide (n ≤ 1100)
  | .updateAbort => n == 0
  | .targetPrepare => n == 0
  | .targetActivate => n == 1
  | .targetDiscard => n == 1
  | .targetList => n == 0
  | .bootQuery => n == 1
  | .bootConfirm => n == 1
  | .floorRead => n == 0
  | .credSet => decide (5 ≤ n)
  | .credVerify => decide (2 ≤ n) && decide (n ≤ 65)
  | .credRelease => n == 1
  | .credClear => n == 1
  | .credInfo => n == 1
  | .grantDrop => n == 0

/-! ### Check 4: who may ask what (R32, R163) -/

/-- The chains a station may extend and freeze (R32). -/
def chainRight (st : Station) (chain : Nat) : Bool :=
  match st.val with
  | 0 => decide (chain ≤ 1)
  | 1 => decide (2 ≤ chain) && decide (chain ≤ 5)
  | 2 => decide (6 ≤ chain) && decide (chain ≤ 9)
  | _ => false

/-- Whether a station is permitted a request with a body (R163). -/
def permitted (c : ReqCode) (st : Station) (body : List Byte) : Bool :=
  match c with
  | .fetch => true
  | .abort => true
  | .status => true
  | .conditions => true
  | .clearConditions => st == 2 || st == 3
  | .setNoticeMask => byteAt body 1 == 0 || st == 2
  | .closeStage => st == 0 || st == 1
  | .settingsRead => true
  | .settingsWrite => st == 0 || st == 2
  | .ownerReset => st == 2
  | .keyGenerate => true
  | .keyImport => true
  | .keySign => true
  | .keyVerify => true
  | .keyDerive => true
  | .keyErase => true
  | .keyInfo => true
  | .keyPublic => true
  | .chainExtend => chainRight st (byteAt body 0).toNat
  | .chainFreeze => chainRight st (byteAt body 0).toNat
  | .chainRead => true
  | .logRead => true
  | .quote => st == 2 || st == 3
  | .identityRead => true
  | .updateOpen => st == 2
  | .updateData => st == 2
  | .updateAbort => st == 2
  | .targetPrepare => st == 2
  | .targetActivate => st == 2
  | .targetDiscard => st == 2
  | .targetList => st == 2
  | .bootQuery => st == 0 || st == 1
  | .bootConfirm => st == 2
  | .floorRead => true
  | .credSet => st == 2 || st == 3
  | .credVerify => st == 2 || st == 3
  | .credRelease => st == 2 || st == 3
  | .credClear => st == 2 || st == 3
  | .credInfo => st == 2 || st == 3
  | .grantDrop => st == 2 || st == 3

/-- The requests that check 5 does not refuse in FAULT mode (R165). -/
def answeredInFault (c : ReqCode) : Bool :=
  c == .fetch || c == .status || c == .conditions || c == .identityRead

/-! ### Check 6: grants (R15, R25, R118, R126, R129) -/

/-- Whether a KEY_IMPORT body asks for an owner update key: VERIFYING with usage VERIFY_OWNER_UPDATE alone (R16). -/
def importsOwnerUpdate (body : List Byte) : Bool := byteAt body 1 == 2 && byteAt body 2 == 0x10

/-- Whether a request needs a grant (R129). -/
def needsGrant (c : ReqCode) (st : Station) (body : List Byte) (s : State) : Bool :=
  match c with
  | .keyGenerate => hasBit (byteAt body 4) 1
  | .keyImport => hasBit (byteAt body 4) 1 || importsOwnerUpdate body
  | .keyErase =>
    match fin? 64 (byteAt body 0).toNat with
    | some slot => (activeKey? slot s).any KeyRecord.ownerHeld
    | none => false
  | .credSet => !(byteAt body 0 == 0 && !ownerClaimed s)
  | .credRelease =>
    match fin? 16 (byteAt body 0).toNat with
    | some id => (heldCred? id s).any fun r => r.contents.kind == .secret && !r.contents.freeRelease
    | none => false
  | .credClear => true
  | .settingsWrite => st == 2
  | .ownerReset => true
  | _ => false

/-! ### Check 7: the operands of the key requests (R9, R10, R13, R16 to R25) -/

/-- The use checks at take of the key in the slot a byte names; they note its fingerprint (R10). -/
def useChecks (slotByte : Byte) (usageBit : Nat) (st : Station) (s : State) : Except Result (Slot × KeyRecord) :=
  match fin? 64 slotByte.toNat with
  | none => .error .badArgument
  | some slot =>
    match activeKey? slot s with
    | none => .error .slotEmpty
    | some k =>
      if !hasBit k.usage usageBit then .error .keyUsage
      else if !hasBit k.mask st then .error .notPermitted
      else .ok (slot, k)

/-- The slot a byte names, if it can be reserved (R9). -/
def reservable (slotByte : Byte) (s : State) : Except Result Slot :=
  match fin? 64 slotByte.toNat with
  | none => .error .badArgument
  | some slot =>
    if isVendor slot then .error .notPermitted
    else if s.keys.get slot == .empty then .ok slot
    else .error .slotOccupied

/-- The binding option of a body: its code, chain and value from offset 5 (R13, R206). -/
def bindingOption (body : List Byte) : Option BindingOption :=
  match (byteAt body 5).toNat with
  | 0 => some .unbound
  | 1 => (fin? 12 (byteAt body 6).toNat).map fun c => .given { chain := c, value := bytesAt 32 body 7 }
  | 2 => (fin? 12 (byteAt body 6).toNat).map fun c => .current c
  | _ => none

/-- The usage sets a KEY_GENERATE may give a kind (R3). -/
def generateUsageOk (kind : KeyKind) (usage : Byte) : Bool :=
  match kind with
  | .signing => usage != 0 && (usage &&& ~~~0x03#8) == 0
  | .verifying => false
  | .secret => usage == 0x20

/-- The usage sets a KEY_IMPORT may give a kind: VERIFY_VENDOR_UPDATE is never given, and VERIFY_OWNER_UPDATE stands
alone (R3). -/
def importUsageOk (kind : KeyKind) (usage : Byte) : Bool :=
  match kind with
  | .signing => false
  | .verifying => usage == 0x04 || usage == 0x10
  | .secret => usage == 0x20

/-- Whether the reserved bits of the usage set, the station mask and the options of a creating body are zero (R205). -/
def keyBitsOk (usage mask options : Byte) : Bool :=
  (usage &&& 0xC0) == 0 && (mask &&& 0xF0) == 0 && (options &&& 0xFC) == 0

/-- The persistence that the options byte asks for (R205). -/
def persistenceOf (options : Byte) : Persistence := if hasBit options 0 then .epoch else .persistent

/-- KEY_GENERATE: the request-specific checks (R17). -/
def admitKeyGenerate (body : List Byte) (s : State) : Except Result (NewKey × KeyKind) :=
  let usage := byteAt body 2
  let mask := byteAt body 3
  let options := byteAt body 4
  let label := body.drop 39
  if !keyBitsOk usage mask options then .error .reservedBits
  else if 16 < label.length then .error .badLength
  else match KeyKind.ofByte (byteAt body 1) with
    | none => .error .badArgument
    | some .verifying => .error .badArgument
    | some kind =>
      if !generateUsageOk kind usage then .error .badArgument
      else if mask == 0 then .error .badArgument
      else match bindingOption body with
        | none => .error .badArgument
        | some binding =>
          match reservable (byteAt body 0) s with
          | .error r => .error r
          | .ok slot =>
            .ok ({ slot, usage, mask, persistence := persistenceOf options, ownerHeld := hasBit options 1, binding,
                   label }, kind)

/-- The material of a KEY_IMPORT body of a kind, if it has the length the kind needs (R19, check 3). -/
def importMaterial (kind : KeyKind) (material : List Byte) : Option Material :=
  match kind with
  | .signing => none
  | .verifying => if material.length = 64 then some (.verifying (bytesAt 64 material 0)) else none
  | .secret => if material.length = 32 then some (.secret (bytesAt 32 material 0)) else none

/-- KEY_IMPORT: the request-specific checks (R19). DEDUCED, log 16: the order of overlapping refusals; unsafe for which
of two is given. -/
def admitKeyImport (body : List Byte) (s : State) : Except Result (NewKey × Material) :=
  let usage := byteAt body 2
  let mask := byteAt body 3
  let options := byteAt body 4
  let n := (byteAt body 39).toNat
  let label := body.drop (40 + n)
  let ownerUpdate := importsOwnerUpdate body
  if !keyBitsOk usage mask options then .error .reservedBits
  else if body.length < 40 + n || 16 < label.length then .error .badLength
  else match KeyKind.ofByte (byteAt body 1) with
    | none => .error .badArgument
    | some .signing => .error .badArgument
    | some kind =>
      match importMaterial kind (slice body 40 n) with
      | none => .error .badLength
      | some material =>
        if !importUsageOk kind usage then .error .badArgument
        else if mask == 0 then .error .badArgument
        else match bindingOption body with
          | none => .error .badArgument
          | some binding =>
            if ownerUpdate && (persistenceOf options != .persistent || binding != .unbound) then .error .badArgument
            else if ownerUpdate && decide (Config.ownerUpdateCap ≤ ownerUpdateCount s) then .error .tableFull
            else match reservable (byteAt body 0) s with
              | .error r => .error r
              | .ok slot =>
                .ok ({ slot, usage, mask, persistence := persistenceOf options,
                       ownerHeld := hasBit options 1 || ownerUpdate, binding, label }, material)

/-- KEY_DERIVE: the request-specific checks (R21). -/
def admitKeyDerive (st : Station) (body : List Byte) (s : State) : Except Result Work :=
  let usage := byteAt body 2
  let mask := byteAt body 3
  let n := (byteAt body 4).toNat
  let derivation := slice body 5 n
  let label := body.drop (5 + n)
  if !keyBitsOk usage mask 0 then .error .reservedBits
  else if body.length < 5 + n || n = 0 || 32 < n || 16 < label.length then .error .badLength
  else match useChecks (byteAt body 0) 5 st s with
    | .error r => .error r
    | .ok (parent, k) =>
      if usage == 0 || (usage &&& ~~~k.usage) != 0 then .error .badArgument
      else if (mask &&& k.mask) == 0 then .error .badArgument
      else match reservable (byteAt body 1) s with
        | .error r => .error r
        | .ok target => .ok (.keyDerive parent k.fingerprint derivation target usage (mask &&& k.mask) label)

/-- KEY_SIGN: the request-specific checks (R23). -/
def admitKeySign (st : Station) (body : List Byte) (s : State) : Except Result Work :=
  match useChecks (byteAt body 0) 1 st s with
  | .error r => .error r
  | .ok (slot, k) => .ok (.keySign slot k.fingerprint (bytesAt 32 body 1))

/-- KEY_VERIFY: the request-specific checks (R24). -/
def admitKeyVerify (st : Station) (body : List Byte) (s : State) : Except Result Work :=
  match useChecks (byteAt body 0) 2 st s with
  | .error r => .error r
  | .ok (slot, k) => .ok (.keyVerify slot k.fingerprint (bytesAt 32 body 1) (bytesAt 64 body 33))

/-- KEY_ERASE: the request-specific checks (R25). -/
def admitKeyErase (st : Station) (body : List Byte) (s : State) : Except Result (Slot × KeyRecord) :=
  match fin? 64 (byteAt body 0).toNat with
  | none => .error .badArgument
  | some slot =>
    if isVendor slot then .error .notPermitted
    else match activeKey? slot s with
      | none => .error .slotEmpty
      | some k => if hasBit k.mask st then .ok (slot, k) else .error .notPermitted

/-- QUOTE: the request-specific checks (R54). -/
def admitQuote (st : Station) (body : List Byte) (s : State) : Except Result Work :=
  let selection := BitVec.ofNat 16 (nat16At body 1)
  if (selection &&& 0xF000) != 0 then .error .reservedBits
  else match useChecks (byteAt body 0) 0 st s with
    | .error r => .error r
    | .ok (slot, k) => .ok (.quote slot k.fingerprint selection (body.drop 3))

/-! ### Check 7: credentials and settings (R118, R121, R126, R127, R202) -/

/-- CRED_SET: the request-specific checks (R118). DEDUCED, log 15 and 16: the order of overlapping refusals; unsafe for
which of two is given. -/
def admitCredSet (body : List Byte) (s : State) : Except Result Work :=
  let flags := byteAt body 2
  let mask := byteAt body 3
  let n := (byteAt body 4).toNat
  let label := slice body 5 n
  let secret := body.drop (5 + n)
  let grants := hasBit flags 0
  let freeRelease := hasBit flags 1
  if (mask &&& 0xF0) != 0 then .error .reservedBits
  else match fin? 16 (byteAt body 0).toNat with
    | none => .error .badArgument
    | some id =>
      if body.length < 5 + n || 24 < n || secret.length = 0 || 64 < secret.length then .error .badLength
      else if (flags &&& 0xFC) != 0 then .error .reservedBits
      else match CredKind.ofByte (byteAt body 1) with
        | none => .error .badArgument
        | some kind =>
          if (kind == .secret && grants) || (kind == .verifier && freeRelease)
              || (id == 0 && (kind == .secret || !grants)) then .error .badArgument
          else if (kind == .verifier && mask != 0)
              || (kind == .secret && (mask == 0 || (mask &&& 0x03) != 0)) then .error .badArgument
          else match s.creds.get id with
            | .reserved => .error .slotOccupied
            | .empty =>
              .ok (.credSet { id, kind, label, grants, freeRelease, releaseMask := mask, secret } false (id != 0))
            | .held _ =>
              .ok (.credSet { id, kind, label, grants, freeRelease, releaseMask := mask, secret } true true)

/-- CRED_VERIFY: the request-specific checks (R121). -/
def admitCredVerify (body : List Byte) (s : State) : Except Result Work :=
  match fin? 16 (byteAt body 0).toNat with
  | none => .error .badArgument
  | some id => if (heldCred? id s).isSome then .ok (.credVerify id (body.drop 1)) else .error .slotEmpty

/-- The checks of CRED_RELEASE on a credential, at take and at job start (R126). -/
def releaseChecks (id : CredId) (st : Station) (s : State) : Except Result CredRecord :=
  match heldCred? id s with
  | none => .error .slotEmpty
  | some r =>
    if r.contents.kind != .secret then .error .badArgument
    else if !hasBit r.contents.releaseMask st then .error .notPermitted
    else .ok r

/-- CRED_RELEASE: the request-specific checks (R126). -/
def admitCredRelease (st : Station) (body : List Byte) (s : State) : Except Result Work :=
  match fin? 16 (byteAt body 0).toNat with
  | none => .error .badArgument
  | some id =>
    match releaseChecks id st s with
    | .error r => .error r
    | .ok _ => .ok (.credRelease id)

/-- CRED_CLEAR: the request-specific checks (R127). -/
def admitCredClear (body : List Byte) (s : State) : Except Result Work :=
  match fin? 16 (byteAt body 0).toNat with
  | none => .error .badArgument
  | some id =>
    if id = 0 then .error .notPermitted
    else if (heldCred? id s).isSome then .ok (.credClear id)
    else .error .slotEmpty

/-- SETTINGS_WRITE: the request-specific checks (R202). -/
def admitSettingsWrite (body : List Byte) : Except Result Work :=
  let selection := byteAt body 0
  let enables := BitVec.ofNat 16 (nat16At body 8)
  if (selection &&& 0xE0) != 0 || (enables &&& 0xF800) != 0 then .error .reservedBits
  else if selection == 0 then .error .badArgument
  else
    .ok (.settingsWrite
      { selection, addressBase := (byteAt body 1).toNat, trialWindow := nat16At body 2, grantWindow := nat16At body 4,
        buttonHold := nat16At body 6, enables })

/-! ### The manifest (R67, R209) -/

/-- Reads the actions of a manifest and gives the bytes after them. -/
def readActions : Nat → List Byte → Option (List Action × List Byte)
  | 0, rest => some ([], rest)
  | n + 1, rest =>
    match rest with
    | 1 :: slot :: rest =>
      (readActions n rest).map fun (actions, rest) => (.revoke slot.toNat :: actions, rest)
    | 2 :: slot :: rest =>
      if rest.length < 64 then none
      else (readActions n (rest.drop 64)).map fun (actions, after) =>
        (.install slot.toNat (bytesAt 64 rest 0) :: actions, after)
    | _ => none

/-- The chunk limit that a code stands for (R68). -/
def chunkLimit (code : Byte) : Nat :=
  match code.toNat with
  | 1 => 512
  | 2 => 1024
  | _ => 256

/-- The form check of a manifest: the manifest a byte string stands for, if it has the form of R69, check 1. -/
def Manifest.parse (raw : List Byte) : Option Manifest :=
  let n := (byteAt raw 43).toNat
  let rest := raw.drop (44 + n)
  let flags := byteAt raw 3
  let imageLength := nat32At raw 6
  match rest with
  | [] => none
  | count :: rest =>
    match fin? 4 (byteAt raw 1).toNat, Bank.ofByte (byteAt raw 2), fin? 64 (byteAt raw 42).toNat,
        readActions count.toNat rest with
    | some cls, some bank, some signer, some (actions, signature) =>
      if byteAt raw 0 == 1 && decide (1 ≤ imageLength) && decide (imageLength ≤ 67108864) && decide (n ≤ 16)
          && (flags &&& 0xFC) == 0 && decide (count.toNat ≤ 3) && decide (signature.length = 64)
      then some
        { raw, cls, bank, trial := hasBit flags 0, autoPrepare := hasBit flags 1, version := nat16At raw 4, imageLength,
          imageDigest := bytesAt 32 raw 10, signer, label := slice raw 44 n, actions,
          signature := bytesAt 64 signature 0 }
      else none
    | _, _, _, _ => none

/-- The bytes that a manifest's signature covers: every byte before it (R67). -/
def Manifest.signed (m : Manifest) : List Byte := m.raw.take (m.raw.length - 64)

/-- The flags byte of a manifest. -/
def Manifest.flags (m : Manifest) : Byte := byte (m.trial.toNat + 2 * m.autoPrepare.toNat)

/-! ### Answering a request at take (R165 to R167) -/

/-- Places the reply to a request that ends at take. -/
def answer (c : ReqCode) (st : Station) (quiet : Bool) (result : Result) (body : List Byte) (s : State) : State :=
  placeReply st result c.toByte body quiet s

/-- A request whose last checks at take give a job, or a refusal without a body. -/
def takeWork (c : ReqCode) (st : Station) (quiet : Bool) (checked : Except Result Work) (s : State) : State :=
  match checked with
  | .error r => answer c st quiet r [] s
  | .ok w => enqueue st quiet w s

/-! ### Checks at job start on a key (R11, R14) -/

/-- Whether the bound chain holds the bound value (R14). -/
def bindingHolds (b : Option Binding) (s : State) : Bool :=
  match b with
  | some b => (s.chains.get b.chain).value == b.value
  | none => true

/-- The checks of R11 and R14 at the start of a job that uses the key in a slot. -/
def keyAtStart (slot : Slot) (noted : Bytes 32) (s : State) : Except Result KeyRecord :=
  match (activeKey? slot s).filter fun k => k.fingerprint == noted with
  | some k => if bindingHolds k.binding s then .ok k else .error .bindingMismatch
  | none => .error (if s.revoked.contains noted then .revoked else .slotEmpty)

end Sys2Proof.Machine
end

