-- ==== Sys2Proof/Machine/Evidence.lean ====
section
/-! DEFINITION. The evidence unit's requests and its job (chapter 2). -/

namespace Sys2Proof.Machine

open Sys2Proof

/-- CHAIN_EXTEND: the evidence unit's own check, at take (R33). A chain above 11 does not pass check 4. -/
def admitChainExtend (body : List Byte) (s : State) : Except Result Work :=
  match fin? 12 (byteAt body 0).toNat with
  | none => .error .notPermitted
  | some c =>
    if (s.chains.get c).frozen then .error .chainFrozen
    else .ok (.chainExtend c (bytesAt 32 body 1) (body.drop 33))

/-- CHAIN_EXTEND passes its checks and becomes a job (R33). -/
def takeChainExtend (st : Station) (quiet : Bool) (body : List Byte) (s : State) : State :=
  takeWork .chainExtend st quiet (admitChainExtend body s) s

/-- A chain with its frozen flag set (R36). -/
def Chain.freeze (r : Chain) : Chain := { r with frozen := true }

/-- CHAIN_FREEZE sets the frozen flag (R36). A chain above 11 does not pass check 4. -/
def takeChainFreeze (st : Station) (quiet : Bool) (body : List Byte) (s : State) : State :=
  match fin? 12 (byteAt body 0).toNat with
  | none => answer .chainFreeze st quiet .notPermitted [] s
  | some c =>
    answer .chainFreeze st quiet .ok (chainEntry c (s.chains.get c).freeze)
      (setChain c (s.chains.get c).freeze s)

/-- The entries of the chains that a predicate selects, ascending (R44, R57). -/
def chainEntries (selected : ChainNo → Bool) (s : State) : List Byte :=
  ((List.finRange 12).filter selected).flatMap fun c => chainEntry c (s.chains.get c)

/-- CHAIN_READ describes a run of chains (R44). -/
def takeChainRead (st : Station) (quiet : Bool) (body : List Byte) (s : State) : State :=
  let first := (byteAt body 0).toNat
  let count := (byteAt body 1).toNat
  if count = 0 || 11 < first || 12 < first + count then answer .chainRead st quiet .badArgument [] s
  else
    answer .chainRead st quiet .ok
      (chainEntries (fun c => decide (first ≤ c.val) && decide (c.val < first + count)) s ++ [byte s.log.length]) s

/-- The entries of the log from an index upwards, up to a count, each with its index (R45). -/
def logEntries (start count : Nat) (log : List LogEntry) : List (LogEntry × Nat) :=
  ((log.zipIdx).drop start).take count

/-- LOG_READ gives entries of the log (R45). -/
def takeLogRead (st : Station) (quiet : Bool) (body : List Byte) (s : State) : State :=
  let start := (byteAt body 0).toNat
  let count := (byteAt body 1).toNat
  let entries := logEntries start count s.log
  if 127 < start || count = 0 || 8 < count then answer .logRead st quiet .badArgument [] s
  else
    answer .logRead st quiet .ok
      (byte s.log.length :: byte entries.length :: entries.flatMap fun (e, i) => logEntryBytes i e) s

/-- A CHAIN_EXTEND job starts: the flag is checked again and the new value computed (R34). -/
def startChainExtend (c : ChainNo) (measurement : Bytes 32) (s : State) : State :=
  if (s.chains.get c).frozen then failJob .chainFrozen [] s
  else launch (.chainValue (extendedValue (s.chains.get c).value measurement)) [] s

/-- The reply of CHAIN_EXTEND: the chain, its value and count, and the index of the log entry if one was appended
(R34). `before` is the log's length before the extension. DEDUCED, log 18: the layout of the reply; unsafe for its
bytes. -/
def extendReply (c : ChainNo) (before : Nat) (s : State) : List Byte :=
  byte c :: (s.chains.get c).value.list ++ be16 (s.chains.get c).count
    ++ (if before < s.log.length then [1, byte before] else [0, 0])

/-- A CHAIN_EXTEND job ends: the extension is written, or, when a SoC reset has made the job void, nothing is (R34,
R35). -/
def endChainExtend (c : ChainNo) (measurement : Bytes 32) (tag : List Byte) (st : Station) (value : Bytes 32)
    (r : Running) (s : State) : State :=
  if r.crossed then endJob .ok [] s
  else
    let after := extendChain c value measurement tag (some st) s
    endJob .ok (extendReply c s.log.length after) after

def execChainExtendJobStart (s : State) : Host.Outcome State Fault Refusal :=
  whenOn (onStart fun j => match j.work with
    | .chainExtend c measurement _ => some (startChainExtend c measurement)
    | _ => none) s

def execChainExtendJobEnd (s : State) : Host.Outcome State Fault Refusal :=
  whenOn (onEnd (Job.is fun w => w matches .chainExtend _ _ _) fun r s =>
    match r.job, r.data with
    | .station { work := .chainExtend c measurement tag, station, .. }, .chainValue value =>
      endChainExtend c measurement tag station value r s
    | _, _ => s) s

end Sys2Proof.Machine
end

