-- ==== Sys2Proof/Machine/Attestation.lean ====
section
/-! DEFINITION. QUOTE and IDENTITY_READ (chapter 3). -/

namespace Sys2Proof.Machine

open Sys2Proof

/-- QUOTE passes its checks and becomes a job (R54). -/
def takeQuote (st : Station) (quiet : Bool) (body : List Byte) (s : State) : State :=
  takeWork .quote st quiet (admitQuote st body s) s

/-- A class entry of the snapshot: floor, active bank, the active bank's version, class state (R58). -/
def classEntry (c : ClassNo) (s : State) : List Byte :=
  match s.classes.get c with
  | some r =>
    be16 r.floor ++ [r.active.toByte] ++ be16 ((r.image r.active).elim 0 ImageRecord.version) ++ [r.state.toByte]
  | none => zeros 6

/-- Number of SET credentials (R59). -/
def setCredentials (s : State) : Nat := (List.finRange 16).countP fun id => (heldCred? id s).isSome

/-- Number of SET credentials whose lockout is in force (R59). -/
def lockedCredentials (s : State) : Nat :=
  (List.finRange 16).countP fun id => (heldCred? id s).any fun r => r.lockout.inForce s.time.uptime

/-- The quote statement over the snapshot that the state at job start gives (R56 to R61, R209). -/
def quoteStatement (slot : Slot) (fingerprint : Bytes 32) (selection : BitVec 16) (nonce : List Byte)
    (s : State) : List Byte :=
  1 :: counted nonce ++ [byte slot] ++ fingerprint.list ++ be16 selection.toNat
    ++ be32 s.time.uptime.toNat ++ be32 s.socResets ++ be32 s.partResets
    ++ (List.finRange 4).flatMap (fun c => classEntry c s)
    ++ [flagByte (ownerClaimed s), byte (setCredentials s), byte (lockedCredentials s)]
    ++ be16 (raisedSet s)
    ++ chainEntries (fun c => selection.getLsbD c.val) s

/-- A QUOTE job starts: the key is checked, the snapshot taken and the statement signed (R56, R61). -/
def startQuote (slot : Slot) (noted : Bytes 32) (selection : BitVec 16) (nonce : List Byte) (s : State) : State :=
  match keyAtStart slot noted s with
  | .error r => failJob r [] s
  | .ok k =>
    match k.material with
    | .signing privateKey _ =>
      let statement := quoteStatement slot k.fingerprint selection nonce s
      launch (.statement (statement ++ (sign privateKey (digest statement)).list)) [] s
    | _ => failJob .keyUsage [] s

/-- The identity that IDENTITY_READ reports of slot 0 (R63, R210). -/
def identityKey (s : State) : List Byte :=
  match s.keys.get 0 with
  | .active k =>
    2 :: (match k.material with
      | .signing _ pub => pub.list ++ k.fingerprint.list
      | _ => zeros 96)
  | .reserved _ => 1 :: zeros 96
  | .empty => 0 :: zeros 96

/-- IDENTITY_READ gives the certificate and slot 0's public key (R63). -/
def takeIdentityRead (st : Station) (quiet : Bool) (s : State) : State :=
  let certificate := s.certificate.getD []
  answer .identityRead st quiet .ok (be16 certificate.length ++ certificate ++ identityKey s) s

def execQuoteJobStart (s : State) : Host.Outcome State Fault Refusal :=
  whenOn (onStart fun j => match j.work with
    | .quote slot noted selection nonce => some (startQuote slot noted selection nonce)
    | _ => none) s

def execQuoteJobEnd (s : State) : Host.Outcome State Fault Refusal :=
  whenOn (onEnd (Job.is fun w => w matches .quote _ _ _ _) fun r s =>
    match r.data with
    | .statement bytes => endJob .ok bytes s
    | _ => s) s

end Sys2Proof.Machine
end

