-- ==== Sys2Proof/Machine/Conditions.lean ====
section
/-! DEFINITION. The condition requests, the stored settings and the owner reset (chapter 11). -/

namespace Sys2Proof.Machine

open Sys2Proof

/-! ### Conditions (R194, R195) -/

/-- CONDITIONS gives the condition report (R194). -/
def takeConditions (st : Station) (quiet : Bool) (s : State) : State :=
  answer .conditions st quiet .ok (conditionReport s) s

/-- CLEAR_CONDITIONS clears the named NOTE and WARNING conditions (R195). -/
def takeClearConditions (st : Station) (quiet : Bool) (body : List Byte) (s : State) : State :=
  let named := BitVec.ofNat 16 (nat16At body 0)
  if (named &&& 0xF800) != 0 then answer .clearConditions st quiet .reservedBits [] s
  else answer .clearConditions st quiet .ok (be16 (raisedSet (clearNamed named s))) (clearNamed named s)

/-! ### Settings (R201, R202) -/

/-- SETTINGS_READ gives the stored settings and the address base in use (R201). -/
def takeSettingsRead (st : Station) (quiet : Bool) (s : State) : State :=
  answer .settingsRead st quiet .ok (settingsBytes s.store.settings ++ [byte s.settings.addressBase]) s

/-- SETTINGS_WRITE passes its checks and becomes a job (R202). -/
def takeSettingsWrite (st : Station) (quiet : Bool) (body : List Byte) (s : State) : State :=
  takeWork .settingsWrite st quiet (admitSettingsWrite body) s

/-- A duration brought into its range (R202). -/
def clamp (low high v : Nat) : Nat := min (max v low) high

/-- An address base brought into range: rounded down to a multiple of 4, then held within 8..248 (R202). -/
def clampBase (v : Nat) : Nat := clamp 8 248 (v / 4 * 4)

/-- The new stored settings: each selected one from the request, brought into range, each other one from the stored
record (R202). -/
def SettingsParams.apply (p : SettingsParams) (stored : Settings) : Settings :=
  { addressBase := if hasBit p.selection 0 then clampBase p.addressBase else stored.addressBase
    trialWindow := if hasBit p.selection 1 then clamp 600 36000 p.trialWindow else stored.trialWindow
    grantWindow := if hasBit p.selection 2 then clamp 300 18000 p.grantWindow else stored.grantWindow
    buttonHold := if hasBit p.selection 3 then clamp 50 300 p.buttonHold else stored.buttonHold
    enables := if hasBit p.selection 4 then p.enables else stored.enables }

/-- A SETTINGS_WRITE job starts: station 2's grant is tested again, and the new record is written (R202). -/
def startSettingsWrite (st : Station) (p : SettingsParams) (s : State) : State :=
  if st == 2 && !holdsGrant st s then failJob .noGrant [] s
  else launch (.newSettings (p.apply s.store.settings)) [.settingsRecord] s

/-! ### Owner reset (R175, R197, R199) -/

/-- OWNER_RESET attaches itself to an OWNER_RESET_JOB (R175). -/
def takeOwnerReset (quiet : Bool) (s : State) : State := attachOwnerReset quiet s

/-- Steps 3 to 8 of an owner reset (R199). Start-up takes the address base from the settings it writes (R203). -/
def eraseSteps (withBase : Bool) : List JobStep :=
  (List.finRange 16).map .eraseCred ++ (List.finRange 64).map .eraseKey
    ++ [.defaultSettings withBase, .markRemove, .marker { kind := .ownerReset, cls := 0, version := 0 },
        .raise .ownerResetDone]

/-- The steps of an OWNER_RESET_JOB (R199). -/
def ownerResetSteps : List JobStep := .markWrite :: .endGrants :: eraseSteps false

/-- An OWNER_RESET_JOB starts: a request alone is tested for its grant, a button hold is not (R197). -/
def startOwnerReset (attached : Option Bool) (button : Bool) (s : State) : State :=
  if attached.isSome && !button && !holdsGrant 2 s then failJob .noGrant [] s
  else launch (.erased 0 0) ownerResetSteps s

/-! ### Events -/

def execSettingsWriteJobStart (s : State) : Host.Outcome State Fault Refusal :=
  whenOn (onStart fun j => match j.work with
    | .settingsWrite p => some (startSettingsWrite j.station p)
    | _ => none) s

def execSettingsWriteJobEnd (s : State) : Host.Outcome State Fault Refusal :=
  whenOn (onEnd (Job.is fun w => w matches .settingsWrite _) fun r s =>
    match r.data with
    | .newSettings v => endJob .ok (settingsBytes v) s
    | _ => s) s

def execOwnerResetJobStart (s : State) : Host.Outcome State Fault Refusal :=
  whenOn (fun s => match nextJob s with
    | some (.ownerReset attached button) => startOwnerReset attached button (takeJob s)
    | _ => s) s

/-- The job ends with the numbers of credentials and key slots erased (R197). DEDUCED, log 18: one byte each; unsafe for
the bytes of the reply. -/
def execOwnerResetJobEnd (s : State) : Host.Outcome State Fault Refusal :=
  whenOn (onEnd Job.isOwnerReset fun r s =>
    match r.data with
    | .erased creds keys => endJob .ok [byte creds, byte keys] s
    | _ => s) s

end Sys2Proof.Machine
end

