-- ==== Sys2Proof/Machine/Credentials.lean ====
section
/-! DEFINITION. The credential table's requests and jobs, grants, and the attempt governor's steps in them (chapters 6
and 7). -/

namespace Sys2Proof.Machine

open Sys2Proof

/-! ### Taking the requests -/

/-- The id that a CRED_SET of an EMPTY credential reserves; nothing for any other request (R118). -/
def reserveId (w : Work) (s : State) : State :=
  match w with
  | .credSet p change _ => if change then s else setCred p.id .reserved s
  | _ => s

/-- CRED_SET passes its checks, reserves an EMPTY id and becomes a job (R118). -/
def takeCredSet (st : Station) (quiet : Bool) (body : List Byte) (s : State) : State :=
  match admitCredSet body s with
  | .error r => answer .credSet st quiet r [] s
  | .ok w => enqueue st quiet w (reserveId w s)

/-- CRED_VERIFY passes its checks and becomes a job (R121). -/
def takeCredVerify (st : Station) (quiet : Bool) (body : List Byte) (s : State) : State :=
  takeWork .credVerify st quiet (admitCredVerify body s) s

/-- CRED_RELEASE passes its checks and becomes a job (R126). -/
def takeCredRelease (st : Station) (quiet : Bool) (body : List Byte) (s : State) : State :=
  takeWork .credRelease st quiet (admitCredRelease st body s) s

/-- CRED_CLEAR passes its checks and becomes a job (R127). -/
def takeCredClear (st : Station) (quiet : Bool) (body : List Byte) (s : State) : State :=
  takeWork .credClear st quiet (admitCredClear body s) s

/-- CRED_INFO gives the credential information record (R128). -/
def takeCredInfo (st : Station) (quiet : Bool) (body : List Byte) (s : State) : State :=
  match fin? 16 (byteAt body 0).toNat with
  | none => answer .credInfo st quiet .badArgument [] s
  | some id => answer .credInfo st quiet .ok (credentialInfo id st s) s

/-- A granting credential's id after its presence byte (R132). -/
def grantId (g : Option Grant) : List Byte :=
  match g with
  | some g => [1, byte g.credential]
  | none => [0, 0]

/-- GRANT_DROP ends the station's own grant (R132). -/
def takeGrantDrop (st : Station) (quiet : Bool) (s : State) : State :=
  answer .grantDrop st quiet .ok (grantId (s.stations.get st).grant) (endGrant st s)

/-! ### CRED_SET (R119, R120) -/

/-- What a CRED_SET stores with a salt (R116). -/
def CredParams.contents (p : CredParams) (salt : Bytes 16) : CredContents :=
  { kind := p.kind, label := p.label, grants := p.grants, freeRelease := p.freeRelease, releaseMask := p.releaseMask,
    salt, verifier := digest (salt.list ++ p.secret),
    value := match p.kind with | .secret => p.secret | .verifier => [] }

/-- A CRED_SET job starts: the checks are made again, and the salt and verifier made (R119). -/
def startCredSet (st : Station) (p : CredParams) (change needed : Bool) (s : State) : State :=
  if needed && !holdsGrant st s then failJob .noGrant [] s
  else if change && (heldCred? p.id s).isNone then failJob .slotEmpty [] s
  else launch (.credential (p.contents (freshSalt s.entropy))) [.credRecord p.id] { s with entropy := s.entropy + 1 }

/-- The effects of a CRED_SET whose write has completed: a change keeps the governor's fields and ends the
credential's grants, a claim extends chain 11 (R119, R120). -/
def storeCredential (p : CredParams) (change : Bool) (contents : CredContents) (s : State) : State :=
  match change, heldCred? p.id s with
  | true, some r => endGrantsOf p.id (setCred p.id (.held { r with contents }) s)
  | true, none => setCred p.id (.held { contents, penalty := 0, streak := 0, lockout := .absent }) s
  | false, _ =>
    let s := setCred p.id (.held { contents, penalty := 0, streak := 0, lockout := .absent }) s
    if p.id = 0 then partExtend { kind := .ownerClaim, cls := 0, version := 0 } s else s

/-- A CRED_SET job ends with OK (R119, R120). -/
def endCredSet (st : Station) (p : CredParams) (change : Bool) (contents : CredContents) (s : State) : State :=
  let s := storeCredential p change contents s
  endJob .ok (credentialInfo p.id st s) s

/-! ### CRED_VERIFY (R122, R123) -/

/-- A CRED_VERIFY job starts: the SET state and the lockout are checked, and the charge's write begins (R122). -/
def startCredVerify (id : CredId) (candidate : List Byte) (s : State) : State :=
  match heldCred? id s with
  | none => failJob .slotEmpty [] s
  | some r =>
    if r.lockout.inForce s.time.uptime then failJob .locked (be16 (r.lockout.remaining s.time.uptime)) s
    else launch (.comparison 0 0 false) [.charge id, .compare id candidate, .success id] s

/-- The charge's write completes, and the comparison is made (R122). -/
def chargeWritten (s : State) : State :=
  match underWay s with
  | some (.charge _) => writeCompletes s
  | _ => s

/-- The lockout that a mismatch starts, with LOCKOUT_STARTED when its delay is not 0 (R142). -/
def lockOut (id : CredId) (delay : Nat) (s : State) : State :=
  match heldCred? id s with
  | some r =>
    raiseIf (delay != 0) .lockoutStarted
      (setCred id (.held { r with lockout := startLockout s.time.uptime delay r.lockout }) s)
  | none => s

/-- Whether a credential holds GRANTS. -/
def grantsOf (id : CredId) (s : State) : Bool := (heldCred? id s).any fun r => r.contents.grants

/-- The reply OK of a CRED_VERIFY: the new grant's deadline after its presence byte (R123). DEDUCED, log 18: the layout
of the reply; unsafe for its bytes. -/
def grantDeadline (g : Option Grant) : List Byte :=
  match g with
  | some g => 1 :: be32 g.deadline.toNat
  | none => zeros 5

/-- A CRED_VERIFY job ends: a mismatch starts a lockout, a match of a GRANTS credential issues a grant (R123, R124,
R130). -/
def endCredVerify (st : Station) (id : CredId) (r : Running) (s : State) : State :=
  match r.data with
  | .comparison charged _ false =>
    endJob .mismatch (be16 (lockoutDelay charged)) (lockOut id (lockoutDelay charged) s)
  | .comparison _ _ true =>
    if grantsOf id s && !r.crossed then
      let s := issueGrant st id s
      endJob .ok (grantDeadline (s.stations.get st).grant) s
    else endJob .ok (grantDeadline none) s
  | _ => s

/-! ### CRED_RELEASE and CRED_CLEAR (R126, R127) -/

/-- A CRED_RELEASE job starts: its checks are made again (R126). DEDUCED, log 18: the layout of the reply; unsafe for
its bytes. -/
def startCredRelease (st : Station) (id : CredId) (s : State) : State :=
  match releaseChecks id st s with
  | .error r => failJob r [] s
  | .ok r =>
    if !r.contents.freeRelease && !holdsGrant st s then failJob .noGrant [] s
    else launch (.value (counted r.contents.value)) [] s

/-- A CRED_CLEAR job starts (R127). -/
def startCredClear (st : Station) (id : CredId) (s : State) : State :=
  if !holdsGrant st s then failJob .noGrant [] s
  else if (heldCred? id s).isNone then failJob .slotEmpty [] s
  else launch .blank [.credRemove id] s

/-- A CRED_CLEAR job ends with OK: the credential is EMPTY and its grants end (R127). -/
def endCredClear (id : CredId) (s : State) : State :=
  endJob .ok [byte id] (endGrantsOf id (setCred id .empty s))

/-! ### Events -/

def execCredSetJobStart (s : State) : Host.Outcome State Fault Refusal :=
  whenOn (onStart fun j => match j.work with
    | .credSet p change needed => some (startCredSet j.station p change needed)
    | _ => none) s

def execCredSetJobEnd (s : State) : Host.Outcome State Fault Refusal :=
  whenOn (onEnd (Job.is fun w => w matches .credSet _ _ _) fun r s =>
    match r.job, r.data with
    | .station { work := .credSet p change _, station, .. }, .credential contents =>
      endCredSet station p change contents s
    | _, _ => s) s

def execCredVerifyJobStart (s : State) : Host.Outcome State Fault Refusal :=
  whenOn (onStart fun j => match j.work with
    | .credVerify id candidate => some (startCredVerify id candidate)
    | _ => none) s

def execCredVerifyChargeWritten (s : State) : Host.Outcome State Fault Refusal := whenOn chargeWritten s

def execCredVerifyJobEnd (s : State) : Host.Outcome State Fault Refusal :=
  whenOn (onEnd (Job.is fun w => w matches .credVerify _ _) fun r s =>
    match r.job with
    | .station { work := .credVerify id _, station, .. } => endCredVerify station id r s
    | _ => s) s

def execCredReleaseJobStart (s : State) : Host.Outcome State Fault Refusal :=
  whenOn (onStart fun j => match j.work with
    | .credRelease id => some (startCredRelease j.station id)
    | _ => none) s

def execCredReleaseJobEnd (s : State) : Host.Outcome State Fault Refusal :=
  whenOn (onEnd (Job.is fun w => w matches .credRelease _) fun r s =>
    match r.data with
    | .value bytes => endJob .ok bytes s
    | _ => s) s

def execCredClearJobStart (s : State) : Host.Outcome State Fault Refusal :=
  whenOn (onStart fun j => match j.work with
    | .credClear id => some (startCredClear j.station id)
    | _ => none) s

def execCredClearJobEnd (s : State) : Host.Outcome State Fault Refusal :=
  whenOn (onEnd (Job.is fun w => w matches .credClear _) fun r s =>
    match r.job with
    | .station { work := .credClear id, .. } => endCredClear id s
    | _ => s) s

end Sys2Proof.Machine
end

