-- ==== Sys2Proof/Machine/KeyTable.lean ====
section
/-! DEFINITION. The key table's requests and jobs (chapter 1). -/

namespace Sys2Proof.Machine

open Sys2Proof

/-! ### Taking the requests -/

/-- KEY_GENERATE passes its checks, reserves its slot and becomes a job (R17). -/
def takeKeyGenerate (st : Station) (quiet : Bool) (body : List Byte) (s : State) : State :=
  match admitKeyGenerate body s with
  | .error r => answer .keyGenerate st quiet r [] s
  | .ok (p, kind) => enqueue st quiet (.keyGenerate p kind) (setKey p.slot (.reserved false) s)

/-- KEY_IMPORT passes its checks, reserves its slot and becomes a job (R19). -/
def takeKeyImport (st : Station) (quiet : Bool) (body : List Byte) (s : State) : State :=
  match admitKeyImport body s with
  | .error r => answer .keyImport st quiet r [] s
  | .ok (p, material) =>
    enqueue st quiet (.keyImport p material) (setKey p.slot (.reserved (importsOwnerUpdate body)) s)

/-- The slot that a KEY_DERIVE reserves; nothing for any other request. -/
def reserveTarget (w : Work) (s : State) : State :=
  match w with
  | .keyDerive _ _ _ target _ _ _ => setKey target (.reserved false) s
  | _ => s

/-- KEY_DERIVE passes its checks, reserves its target and becomes a job (R21). -/
def takeKeyDerive (st : Station) (quiet : Bool) (body : List Byte) (s : State) : State :=
  match admitKeyDerive st body s with
  | .error r => answer .keyDerive st quiet r [] s
  | .ok w => enqueue st quiet w (reserveTarget w s)

/-- KEY_SIGN passes its use checks and becomes a job (R23). -/
def takeKeySign (st : Station) (quiet : Bool) (body : List Byte) (s : State) : State :=
  takeWork .keySign st quiet (admitKeySign st body s) s

/-- KEY_VERIFY passes its use checks and becomes a job (R24). -/
def takeKeyVerify (st : Station) (quiet : Bool) (body : List Byte) (s : State) : State :=
  takeWork .keyVerify st quiet (admitKeyVerify st body s) s

/-- KEY_ERASE erases an EPOCH key at once, or becomes a job for a PERSISTENT key (R25). -/
def takeKeyErase (st : Station) (quiet : Bool) (body : List Byte) (s : State) : State :=
  match admitKeyErase st body s with
  | .error r => answer .keyErase st quiet r [] s
  | .ok (slot, k) =>
    match k.persistence with
    | .epoch => answer .keyErase st quiet .ok [] (eraseAndSweep slot s)
    | .persistent => enqueue st quiet (.keyErase slot k.fingerprint) s

/-- KEY_INFO gives the slot's key descriptor (R27). -/
def takeKeyInfo (st : Station) (quiet : Bool) (body : List Byte) (s : State) : State :=
  match fin? 64 (byteAt body 0).toNat with
  | none => answer .keyInfo st quiet .badArgument [] s
  | some slot => answer .keyInfo st quiet .ok (keyDescriptor slot (s.keys.get slot)) s

/-- KEY_PUBLIC gives the public key and the fingerprint (R27). -/
def takeKeyPublic (st : Station) (quiet : Bool) (body : List Byte) (s : State) : State :=
  match fin? 64 (byteAt body 0).toNat with
  | none => answer .keyPublic st quiet .badArgument [] s
  | some slot =>
    match activeKey? slot s with
    | none => answer .keyPublic st quiet .slotEmpty [] s
    | some k =>
      match k.material.publicKey? with
      | none => answer .keyPublic st quiet .keyUsage [] s
      | some pub => answer .keyPublic st quiet .ok (pub.list ++ k.fingerprint.list) s

/-! ### Creating keys -/

/-- The binding a creating job gives its key: the current value is the chain's value at job start (R13). -/
def resolveBinding (o : BindingOption) (s : State) : Option Binding :=
  match o with
  | .unbound => none
  | .given b => some b
  | .current c => some { chain := c, value := (s.chains.get c).value }

/-- The record of a created key. -/
def newRecord (p : NewKey) (origin : Origin) (material : Material) (binding : Option Binding) : KeyRecord :=
  { material, origin, persistence := p.persistence, usage := p.usage, mask := p.mask, binding,
    ownerHeld := p.ownerHeld, fingerprint := material.fingerprint, label := p.label }

/-- The store write of a created key: none for an EPOCH key (R18). -/
def recordSteps (slot : Slot) (k : KeyRecord) : List JobStep :=
  match k.persistence with
  | .persistent => [.keyRecord slot]
  | .epoch => []

/-- A creating job that has its record goes on to its store write. -/
def launchKey (slot : Slot) (k : KeyRecord) (s : State) : State := launch (.key k) (recordSteps slot k) s

/-- Whether a fingerprint is neither revoked nor held by an ACTIVE slot (R18). -/
def fingerprintFree (fp : Bytes 32) (s : State) : Bool := !s.revoked.contains fp && !holdsFingerprint fp s

/-- The `n`-th fresh key material of a kind (R18). -/
def drawMaterial (kind : KeyKind) (n : Nat) : Material :=
  match kind with
  | .secret => .secret (freshKey n)
  | .signing => .signing (freshKey n) (publicKeyOf (freshKey n))
  | .verifying => .signing (freshKey n) (publicKeyOf (freshKey n))

/-- Draws fresh material until its fingerprint is free, at most `fuel` times; the first number is that of the next
draw (R18). -/
def firstFresh : Nat → Nat → KeyKind → State → Nat × Option Material
  | 0, n, _, _ => (n, none)
  | fuel + 1, n, kind, s =>
    if fingerprintFree (drawMaterial kind n).fingerprint s then (n + 1, some (drawMaterial kind n))
    else firstFresh fuel (n + 1) kind s

/-- The generation step of a KEY_GENERATE job: fresh material, or the job goes on generating (R18). -/
def generateStep (p : NewKey) (kind : KeyKind) (binding : Option Binding) (s : State) : State :=
  match firstFresh Config.drawFuel s.entropy kind s with
  | (n, some material) => launchKey p.slot (newRecord p .generated material binding) { s with entropy := n }
  | (n, none) => launch (.generating binding) [] { s with entropy := n }

/-- A KEY_GENERATE job starts (R15, R18). -/
def startKeyGenerate (st : Station) (p : NewKey) (kind : KeyKind) (s : State) : State :=
  if p.ownerHeld && !holdsGrant st s then failJob .noGrant [] s
  else generateStep p kind (resolveBinding p.binding s) s

/-- A KEY_IMPORT job starts (R20). -/
def startKeyImport (st : Station) (p : NewKey) (material : Material) (s : State) : State :=
  if p.ownerHeld && !holdsGrant st s then failJob .noGrant [] s
  else if s.revoked.contains material.fingerprint then failJob .revoked [] s
  else if holdsFingerprint material.fingerprint s then failJob .slotOccupied [] s
  else launchKey p.slot (newRecord p .imported material (resolveBinding p.binding s)) s

/-- The child of a derivation (R21, R22). -/
def childRecord (parent : KeyRecord) (value : Bytes 32) (usage mask : Byte) (label : List Byte) : KeyRecord :=
  { material := .secret value, origin := .derived, persistence := .epoch, usage, mask, binding := parent.binding,
    ownerHeld := parent.ownerHeld, fingerprint := digest value.list, label }

/-- A KEY_DERIVE job starts (R22). -/
def startKeyDerive (parent : Slot) (noted : Bytes 32) (derivation : List Byte) (target : Slot) (usage mask : Byte)
    (label : List Byte) (s : State) : State :=
  match keyAtStart parent noted s with
  | .error r => failJob r [] s
  | .ok k =>
    match k.material with
    | .secret value =>
      let child := childRecord k (derive value derivation) usage mask label
      if s.revoked.contains child.fingerprint then failJob .revoked [] s
      else if holdsFingerprint child.fingerprint s then failJob .slotOccupied [] s
      else launchKey target child s
    | _ => failJob .keyUsage [] s

/-- What the slot of a creating job becomes when the job ends with OK: an EPOCH key whose epoch a SoC reset has ended
is erased at once (R28). -/
def createdSlot (crossed : Bool) (k : KeyRecord) : KeySlot :=
  if crossed && k.persistence == .epoch then .empty else .active k

/-- The public key field of a KEY_GENERATE reply: it applies to SIGNING keys, and is sent as zeros for a SECRET key
(R18, R205). DEDUCED, log 18; unsafe for the bytes of that reply. -/
def publicField (m : Material) : List Byte :=
  match m.publicKey? with
  | some pub => pub.list
  | none => zeros 64

/-- The reply of a creating job: the descriptor, and for a generated key the public key field (R18, R20, R22). -/
def createdReply (slot : Slot) (k : KeyRecord) : List Byte :=
  keyDescriptor slot (.active k) ++ (if k.origin = .generated then publicField k.material else [])

/-- A creating job ends with OK (R2, R18, R20, R22). -/
def endCreate (slot : Slot) (r : Running) (k : KeyRecord) (s : State) : State :=
  endJob .ok (createdReply slot k) (setKey slot (createdSlot r.crossed k) s)

/-! ### Using and erasing keys -/

/-- A KEY_SIGN job starts (R23). DEDUCED, log 37, for material of another kind; safe. -/
def startKeySign (slot : Slot) (noted d : Bytes 32) (s : State) : State :=
  match keyAtStart slot noted s with
  | .error r => failJob r [] s
  | .ok k =>
    match k.material with
    | .signing privateKey _ => launch (.signature (sign privateKey d)) [] s
    | _ => failJob .keyUsage [] s

/-- A KEY_VERIFY job starts (R24). -/
def startKeyVerify (slot : Slot) (noted d : Bytes 32) (signature : Bytes 64) (s : State) : State :=
  match keyAtStart slot noted s with
  | .error r => failJob r [] s
  | .ok k =>
    match k.material.publicKey? with
    | some pub => launch (.verdict (Config.signatureValid pub d signature)) [] s
    | none => failJob .keyUsage [] s

/-- A KEY_ERASE job starts (R26). -/
def startKeyErase (st : Station) (slot : Slot) (noted : Bytes 32) (s : State) : State :=
  match (activeKey? slot s).filter fun k => k.fingerprint == noted with
  | none => failJob .slotEmpty [] s
  | some k =>
    if k.ownerHeld && !holdsGrant st s then failJob .noGrant [] s
    else launch .blank [.keyRemove slot] s

/-! ### Events -/

def execKeyGenerateJobStart (s : State) : Host.Outcome State Fault Refusal :=
  whenOn (onStart fun j => match j.work with
    | .keyGenerate p kind => some (startKeyGenerate j.station p kind)
    | _ => none) s

/-- The job ends with the key it has made; one that is still without material generates again (R18). -/
def execKeyGenerateJobEnd (s : State) : Host.Outcome State Fault Refusal :=
  whenOn (onEnd (Job.is fun w => w matches .keyGenerate _ _) fun r s =>
    match r.job, r.data with
    | .station { work := .keyGenerate p _, .. }, .key k => endCreate p.slot r k s
    | .station { work := .keyGenerate p kind, .. }, .generating binding => generateStep p kind binding s
    | _, _ => s) s

def execKeyImportJobStart (s : State) : Host.Outcome State Fault Refusal :=
  whenOn (onStart fun j => match j.work with
    | .keyImport p material => some (startKeyImport j.station p material)
    | _ => none) s

def execKeyImportJobEnd (s : State) : Host.Outcome State Fault Refusal :=
  whenOn (onEnd (Job.is fun w => w matches .keyImport _ _) fun r s =>
    match r.job, r.data with
    | .station { work := .keyImport p _, .. }, .key k => endCreate p.slot r k s
    | _, _ => s) s

def execKeyDeriveJobStart (s : State) : Host.Outcome State Fault Refusal :=
  whenOn (onStart fun j => match j.work with
    | .keyDerive parent noted derivation target usage mask label =>
      some (startKeyDerive parent noted derivation target usage mask label)
    | _ => none) s

def execKeyDeriveJobEnd (s : State) : Host.Outcome State Fault Refusal :=
  whenOn (onEnd (Job.is fun w => w matches .keyDerive _ _ _ _ _ _ _) fun r s =>
    match r.job, r.data with
    | .station { work := .keyDerive _ _ _ target _ _ _, .. }, .key k => endCreate target r k s
    | _, _ => s) s

def execKeySignJobStart (s : State) : Host.Outcome State Fault Refusal :=
  whenOn (onStart fun j => match j.work with
    | .keySign slot noted d => some (startKeySign slot noted d)
    | _ => none) s

def execKeySignJobEnd (s : State) : Host.Outcome State Fault Refusal :=
  whenOn (onEnd (Job.is fun w => w matches .keySign _ _ _) fun r s =>
    match r.data with
    | .signature sig => endJob .ok sig.list s
    | _ => s) s

def execKeyVerifyJobStart (s : State) : Host.Outcome State Fault Refusal :=
  whenOn (onStart fun j => match j.work with
    | .keyVerify slot noted d signature => some (startKeyVerify slot noted d signature)
    | _ => none) s

def execKeyVerifyJobEnd (s : State) : Host.Outcome State Fault Refusal :=
  whenOn (onEnd (Job.is fun w => w matches .keyVerify _ _ _ _) fun r s =>
    match r.data with
    | .verdict valid => endJob (if valid then .ok else .signatureInvalid) [] s
    | _ => s) s

def execKeyEraseJobStart (s : State) : Host.Outcome State Fault Refusal :=
  whenOn (onStart fun j => match j.work with
    | .keyErase slot noted => some (startKeyErase j.station slot noted)
    | _ => none) s

def execKeyEraseJobEnd (s : State) : Host.Outcome State Fault Refusal :=
  whenOn (onEnd (Job.is fun w => w matches .keyErase _ _) fun r s =>
    match r.job with
    | .station { work := .keyErase slot _, .. } => endJob .ok [] (eraseAndSweep slot s)
    | _ => s) s

end Sys2Proof.Machine
end

