-- ==== Sys2Proof/Machine/Boot.lean ====
section
/-! DEFINITION. The target table and the boot directory: their requests, jobs and the trial accounting (chapter 5). -/

namespace Sys2Proof.Machine

open Sys2Proof

/-! ### Preparing targets (R88) -/

/-- The lowest EMPTY entry of the target table. -/
def firstEmptyTarget (s : State) : Option TargetNo :=
  (List.finRange 8).find? fun i => (s.targets.get i).isNone

/-- The target that a manifest gives (R88). -/
def Manifest.target (m : Manifest) : Target :=
  { cls := m.cls, bank := m.bank, version := m.version, digest := m.imageDigest, label := m.label, signer := m.signer,
    trial := m.trial, actions := m.actions }

/-- The active bank of a class. -/
def activeBank (c : ClassNo) (s : State) : Option Bank := (s.classes.get c).map ClassRecord.active

/-- The checks of a prepare; they give the entry to fill and what fills it (R88). -/
def checkPrepare (s : State) : Except Result (TargetNo × Target) :=
  match s.stream with
  | .verified m _ _ =>
    if m.version < floorOf m.cls s then .error .rollback
    else if (activeKey? m.signer s).isNone then .error .revoked
    else if m.trial && m.cls == 2 then .error .badArgument
    else if m.trial && activeBank m.cls s == some m.bank then .error .badArgument
    else match firstEmptyTarget s with
      | none => .error .targetFull
      | some i => .ok (i, m.target)
  | _ => .error .streamState

/-- Fills a target entry and closes the stream (R88). -/
def fillTarget (i : TargetNo) (t : Target) (s : State) : State :=
  { s with targets := s.targets.set i (some t), stream := .closed }

/-! ### Taking the requests -/

/-- TARGET_PREPARE (R88). -/
def takeTargetPrepare (st : Station) (quiet : Bool) (s : State) : State :=
  match checkPrepare s with
  | .error r => answer .targetPrepare st quiet r (streamReason s.stream) s
  | .ok (i, t) => answer .targetPrepare st quiet .ok (targetBytes i (some t)) (fillTarget i t s)

/-- TARGET_LIST (R89). -/
def takeTargetList (st : Station) (quiet : Bool) (s : State) : State :=
  answer .targetList st quiet .ok ((List.finRange 8).flatMap fun i => targetBytes i (s.targets.get i)) s

/-- TARGET_DISCARD (R89). -/
def takeTargetDiscard (st : Station) (quiet : Bool) (body : List Byte) (s : State) : State :=
  match fin? 8 (byteAt body 0).toNat with
  | none => answer .targetDiscard st quiet .badArgument [] s
  | some i =>
    match s.targets.get i with
    | none => answer .targetDiscard st quiet .targetEmpty [] s
    | some t =>
      answer .targetDiscard st quiet .ok (targetBytes i (some t)) { s with targets := s.targets.set i none }

/-- TARGET_ACTIVATE: its checks at take (R93). -/
def admitTargetActivate (body : List Byte) (s : State) : Except Result Work :=
  match fin? 8 (byteAt body 0).toNat with
  | none => .error .badArgument
  | some i => if (s.targets.get i).isSome then .ok (.targetActivate i) else .error .targetEmpty

/-- TARGET_ACTIVATE passes its checks and becomes a job (R93). -/
def takeTargetActivate (st : Station) (quiet : Bool) (body : List Byte) (s : State) : State :=
  takeWork .targetActivate st quiet (admitTargetActivate body s) s

/-- Whether a TRIAL_ACCOUNT is waiting or running (R110). -/
def accountingDue (s : State) : Bool :=
  s.queue.contains .trialAccount || s.running.any fun r => r.job == .trialAccount

/-- BOOT_QUERY (R110). A class has no working record only in FAULT mode, where check 5 refuses the request. DEDUCED,
log 28; safe. -/
def takeBootQuery (st : Station) (quiet : Bool) (body : List Byte) (s : State) : State :=
  match fin? 4 (byteAt body 0).toNat with
  | none => answer .bootQuery st quiet .badArgument [] s
  | some c =>
    if accountingDue s then answer .bootQuery st quiet .trialBusy [] s
    else match s.classes.get c with
      | none => answer .bootQuery st quiet .faulted [] s
      | some r => answer .bootQuery st quiet .ok (classReport c r) s

/-- FLOOR_READ (R111). -/
def takeFloorRead (st : Station) (quiet : Bool) (s : State) : State :=
  answer .floorRead st quiet .ok ((List.finRange 4).flatMap fun c => be16 (floorOf c s)) s

/-- Whether a class is in TRIAL_BOOTING. -/
def trialBooting (c : ClassNo) (s : State) : Bool :=
  match s.classes.get c with
  | some r => (r.state matches .booting _ _)
  | none => false

/-- BOOT_CONFIRM: its checks at take (R106). -/
def admitBootConfirm (body : List Byte) (s : State) : Except Result ClassNo :=
  match fin? 4 (byteAt body 0).toNat with
  | none => .error .badArgument
  | some c =>
    if !trialBooting c s then .error .streamState
    else match s.timer with
      | .stopped => .error .trialBusy
      | .expired => .error .tooLate
      | .running _ _ => .ok c

/-- BOOT_CONFIRM passes its checks, sets the confirm hold and becomes a job (R101, R106). -/
def takeBootConfirm (st : Station) (quiet : Bool) (body : List Byte) (s : State) : State :=
  match admitBootConfirm body s with
  | .error r => answer .bootConfirm st quiet r [] s
  | .ok c => enqueue st quiet (.bootConfirm c) { s with hold := true }

/-! ### Activation (R94 to R96) -/

/-- Whether a class is STEADY. -/
def steady (c : ClassNo) (s : State) : Bool := ((s.classes.get c).map ClassRecord.state) == some .steady

/-- The checks at the start of a TARGET_ACTIVATE job (R94). -/
def checkActivate (i : TargetNo) (s : State) : Except Result Target :=
  match s.targets.get i with
  | none => .error .targetEmpty
  | some t =>
    if !(if t.trial then (List.finRange 4).all fun c => steady c s else steady t.cls s) then .error .trialBusy
    else if t.version < floorOf t.cls s then .error .rollback
    else if (activeKey? t.signer s).isNone then .error .revoked
    else .ok t

/-- The steps of a permanent activation (R95). -/
def permanentSteps (i : TargetNo) (t : Target) (s : State) : List JobStep :=
  .activate t :: t.actions.map (fun a => .action t.cls a)
    ++ [.clearDeferred t.cls, .sweepClass t.cls (activeBank t.cls s != some t.bank),
        .marker { kind := .activate, cls := t.cls, version := t.version }, .emptyTarget i]

/-- The steps of a trial activation (R96). -/
def trialSteps (i : TargetNo) (t : Target) : List JobStep := [.activateTrial t, .emptyTarget i]

/-- A TARGET_ACTIVATE job starts (R94 to R96). -/
def startTargetActivate (i : TargetNo) (s : State) : State :=
  match checkActivate i s with
  | .error r => failJob r [] s
  | .ok t => launch (.image t) (if t.trial then trialSteps i t else permanentSteps i t s) s

/-- The reply of an activation (R95, R96). DEDUCED, log 18: outcomes without a count; unsafe for the bytes of the
reply. -/
def activateReply (t : Target) (outcomes : List ActionOutcome) (s : State) : List Byte :=
  if t.trial then byte t.cls :: t.bank.toByte :: be16 t.version ++ [(ClassState.pending t.bank 3).toByte]
  else
    byte t.cls :: t.bank.toByte :: be16 t.version ++ be16 (floorOf t.cls s) ++ outcomes.map ActionOutcome.toByte

/-! ### Confirm (R107) -/

/-- The steps of a confirm (R107). -/
def confirmSteps (c : ClassNo) (r : ClassRecord) : List JobStep :=
  [.confirm c, .stopTimer] ++ r.deferred.map (fun a => .action c a)
    ++ [.clearDeferred c, .sweepClass c (r.trialBank != some r.active),
        .marker { kind := .confirm, cls := c, version := r.trialVersion }]

/-- A BOOT_CONFIRM job starts (R107). -/
def startBootConfirm (c : ClassNo) (s : State) : State :=
  match s.classes.get c with
  | some r =>
    if trialBooting c s && s.hold then launch .blank (confirmSteps c r) s else failJob .streamState [] s
  | none => failJob .streamState [] s

/-- The reply of a confirm (R107). -/
def confirmReply (c : ClassNo) (outcomes : List ActionOutcome) (s : State) : List Byte :=
  match s.classes.get c with
  | some r =>
    byte c :: r.active.toByte :: be16 ((r.image r.active).elim 0 ImageRecord.version) ++ be16 r.floor
      ++ outcomes.map ActionOutcome.toByte
  | none => []

/-! ### Trial accounting (R103 to R105) -/

/-- The class that is not STEADY, with its record. -/
def trialClass (s : State) : Option (ClassNo × ClassRecord) :=
  (List.finRange 4).findSome? fun c => match s.classes.get c with
    | some r => if r.state = .steady then none else some (c, r)
    | none => none

/-- Whether the accounting counts a failed attempt: a boot of the trial that has not been confirmed (R103). -/
def ClassState.attemptFailed : ClassState → Bool
  | .booting _ (_ + 1) => true
  | _ => false

/-- The steps of the accounting of a class, and whether it counts the boot and does not revert (R103, R104). -/
def accountSteps (c : ClassNo) (r : ClassRecord) : List JobStep × Bool :=
  match r.state with
  | .steady => ([], false)
  | .pending _ _ => ([.account c], true)
  | .booting _ 0 =>
    ([.revert c, .marker { kind := .revert, cls := c, version := r.trialVersion }, .raise .trialReverted], false)
  | .booting _ (_ + 1) => ([.account c], true)

/-- A TRIAL_ACCOUNT job starts (R103). -/
def startTrialAccount (s : State) : State :=
  match trialClass s with
  | none => launch .blank [] s
  | some (c, r) =>
    launch (if (accountSteps c r).2 then .accounted c r.state.attemptFailed else .blank) (accountSteps c r).1 s

/-- A TRIAL_ACCOUNT job ends: it starts the trial timer for a class it has counted, unless a SoC reset has been sensed
while it ran, and then raises TRIAL_ATTEMPT_FAILED for a failed attempt (R103). -/
def endTrialAccount (r : Running) (s : State) : State :=
  match r.data with
  | .accounted _ failed =>
    endJob .ok [] (raiseIf failed .trialAttemptFailed (if r.crossed then s else startTrialTimer s))
  | _ => endJob .ok [] s

/-! ### Events -/

def execTargetActivateJobStart (s : State) : Host.Outcome State Fault Refusal :=
  whenOn (onStart fun j => match j.work with
    | .targetActivate i => some (startTargetActivate i)
    | _ => none) s

def execTargetActivateJobEnd (s : State) : Host.Outcome State Fault Refusal :=
  whenOn (onEnd (Job.is fun w => w matches .targetActivate _) fun r s =>
    match r.data with
    | .image t => endJob .ok (activateReply t r.outcomes s) s
    | _ => s) s

def execBootConfirmJobStart (s : State) : Host.Outcome State Fault Refusal :=
  whenOn (onStart fun j => match j.work with
    | .bootConfirm c => some (startBootConfirm c)
    | _ => none) s

def execBootConfirmJobEnd (s : State) : Host.Outcome State Fault Refusal :=
  whenOn (onEnd (Job.is fun w => w matches .bootConfirm _) fun r s =>
    match r.job with
    | .station { work := .bootConfirm c, .. } => endJob .ok (confirmReply c r.outcomes s) s
    | _ => s) s

def execTrialAccountJobStart (s : State) : Host.Outcome State Fault Refusal :=
  whenOn (fun s => if nextJob s = some .trialAccount then startTrialAccount (takeJob s) else s) s

def execTrialAccountJobEnd (s : State) : Host.Outcome State Fault Refusal :=
  whenOn (onEnd (fun j => j == .trialAccount) endTrialAccount) s

end Sys2Proof.Machine
end

