-- ==== Sys2Proof/Machine/Update.lean ====
section
/-! DEFINITION. The update stream: its requests, the manifest check and the chunk jobs (chapter 4). -/

namespace Sys2Proof.Machine

open Sys2Proof

/-! ### The manifest check (R69 to R71) -/

/-- The slot an action names. -/
def Action.slot : Action → Nat
  | .revoke n => n
  | .install n _ => n

/-- Whether an action installs a key with a fingerprint. -/
def Action.installs (fp : Bytes 32) : Action → Bool
  | .revoke _ => false
  | .install _ key => digest key.list == fp

/-- The tests of one action of a vendor-signed manifest (R71). -/
def checkAction (m : Manifest) (s : State) (a : Action) : Except Result Unit :=
  match fin? 64 a.slot with
  | none => .error .badArgument
  | some slot =>
    if !isVendor a.slot || decide (1 < m.actions.countP fun b => b.slot == a.slot) then .error .badArgument
    else match a with
      | .revoke _ => if (activeKey? slot s).isSome && slot != m.signer then .ok () else .error .badArgument
      | .install _ key =>
        if s.keys.get slot != .empty then .error .badArgument
        else if s.revoked.contains (digest key.list) then .error .revoked
        else if holdsFingerprint (digest key.list) s
            || decide (1 < m.actions.countP (Action.installs (digest key.list))) then .error .badArgument
        else .ok ()

/-- Whether an action is a REVOKE. -/
def Action.isRevoke : Action → Bool
  | .revoke _ => true
  | .install _ _ => false

/-- Whether a vendor update key would survive the actions (R71). -/
def survivesActions (actions : List Action) (s : State) : Bool :=
  actions.any (fun a => !a.isRevoke)
    || vendorSurvives (fun slot => actions.any fun a => a.isRevoke && a.slot == slot.val) s

/-- The check of a manifest's actions (R71). DEDUCED, log 17: the order of overlapping refusals; unsafe for which of
two is given. -/
def checkActions (vendorSigned : Bool) (m : Manifest) (s : State) : Except Result Unit :=
  if m.actions.isEmpty then .ok ()
  else if !vendorSigned then .error .badArgument
  else do
    m.actions.forM (checkAction m s)
    if !survivesActions m.actions s then .error .badArgument
    else if Config.revocationCap < s.revoked.length + m.actions.countP Action.isRevoke then .error .tableFull
    else .ok ()

/-- Whether a key may sign manifests of a class (R69). -/
def signsClass (k : KeyRecord) (c : ClassNo) : Bool := hasBit k.usage 3 || (c == 3 && hasBit k.usage 4)

/-- The whole manifest check (R69 to R71). -/
def checkManifest (raw : List Byte) (s : State) : Except Result Manifest :=
  match Manifest.parse raw with
  | none => .error .badArgument
  | some m =>
    match (activeKey? m.signer s).filter fun k => signsClass k m.cls with
    | none => .error .keyUsage
    | some k =>
      match k.material.publicKey? with
      | none => .error .keyUsage
      | some pub =>
        if !Config.signatureValid pub (digest m.signed) m.signature then .error .signatureInvalid
        else if m.version < floorOf m.cls s then .error .rollback
        else if m.cls == 2 && (m.bank == .b || m.trial) then .error .badArgument
        else (checkActions (hasBit k.usage 3) m s).map fun _ => m

/-! ### UPDATE_OPEN (R68, R72) -/

/-- Whether an UPDATE_OPEN may replace the stream (R68). -/
def Stream.replaceable : Stream → Bool
  | .closed => true
  | .failed _ _ _ _ => true
  | .verified _ _ _ => true
  | _ => false

/-- UPDATE_OPEN replaces the stream and becomes a job (R68). -/
def takeUpdateOpen (st : Station) (quiet : Bool) (body : List Byte) (s : State) : State :=
  if s.stream.replaceable then
    enqueue st quiet .updateOpen { s with stream := .checking (body.drop 1) (chunkLimit (byteAt body 0)) }
  else answer .updateOpen st quiet .streamState (streamReason s.stream) s

/-- The manifest job starts and makes its checks (R69 to R71). -/
def startUpdateOpen (s : State) : State :=
  match s.stream with
  | .checking raw _ =>
    match checkManifest raw s with
    | .ok m => launch (.manifestOk m) [] s
    | .error r => launch (.manifestBad r) [] s
  | _ => failJob .streamState (streamReason s.stream) s

/-- The deadline of a stream that becomes RECEIVING now (R77). -/
def idleDeadline (s : State) : Count := deadlineAfter s.time.uptime Config.idleDelay

/-- The OK reply of UPDATE_OPEN (R72). DEDUCED, log 18: the chunk limit takes 2 bytes; unsafe for the reply's bytes. -/
def openReply (m : Manifest) (limit : Nat) : List Byte :=
  byte m.cls :: m.bank.toByte :: be16 m.version ++ be32 m.imageLength ++ [m.flags] ++ be16 limit ++ [2]

/-- The manifest job ends and moves the stream, unless its result is dropped (R72, R79, R85). -/
def endUpdateOpen (r : Running) (s : State) : State :=
  if r.crossed || r.dropped then endJob .aborted [] s
  else match s.stream, r.data with
    | .checking _ limit, .manifestOk m =>
      endJob .ok (openReply m limit) { s with stream := .receiving m limit 0 [] (idleDeadline s) }
    | .checking _ _, .manifestBad reason =>
      endJob reason (streamReason (failStream reason s).stream) (failStream reason s)
    | _, _ => endJob .streamState (streamReason s.stream) s

/-! ### UPDATE_DATA (R73 to R76, R84) -/

/-- UPDATE_DATA moves the stream to ABSORBING and becomes a job, or fails the stream on a bad length (R73). -/
def takeUpdateData (st : Station) (quiet : Bool) (body : List Byte) (s : State) : State :=
  match s.stream with
  | .receiving m limit received absorbed _ =>
    if limit < body.length || m.imageLength < received + body.length then
      answer .updateData st quiet .badLength (streamReason (failStream .badLength s).stream) (failStream .badLength s)
    else enqueue st quiet (.updateData body) { s with stream := .absorbing m limit received absorbed }
  | _ => answer .updateData st quiet .streamState (streamReason s.stream) s

/-- A chunk job starts: it checks that the stream is ABSORBING (R74, R84). -/
def startUpdateData (s : State) : State :=
  match s.stream with
  | .absorbing _ _ _ _ => launch .blank [] s
  | _ => failJob .streamState (streamReason s.stream) s

/-- A stream whose digest has matched: its reply, and the auto-prepare when its manifest asks for it (R75, R76).
DEDUCED, log 18: the layout of the reply; unsafe for its bytes. -/
def endVerified (m : Manifest) (limit received : Nat) (s : State) : State :=
  let verified := { s with stream := .verified m limit received }
  if m.autoPrepare then
    match checkPrepare verified with
    | .ok (i, t) => endJob .ok [0, byte i] (fillTarget i t verified)
    | .error r => endJob .ok [4, r.toByte] verified
  else endJob .ok (4 :: be32 received) verified

/-- A chunk job ends: its chunk has been absorbed and counted, and the stream goes on, or its image is complete (R74,
R75). DEDUCED, log 21: the chunk counts from the job's end on; unsafe for the count of a stream that a sweep fails
while the job runs. -/
def endUpdateData (chunk : List Byte) (r : Running) (s : State) : State :=
  if r.crossed || r.dropped then endJob .aborted [] s
  else match s.stream with
    | .absorbing m limit before absorbed =>
      let received := before + chunk.length
      let image := absorbed ++ chunk
      if received < m.imageLength then
        endJob .ok (2 :: be32 received) { s with stream := .receiving m limit received image (idleDeadline s) }
      else if digest image == m.imageDigest then endVerified m limit received s
      else
        let failed := failStream .digestMismatch { s with stream := .absorbing m limit received image }
        endJob .digestMismatch (streamReason failed.stream) failed
    | _ => endJob .streamState (streamReason s.stream) s

/-! ### UPDATE_ABORT (R78, R79) -/

/-- UPDATE_ABORT with no request in hand closes the stream (R78). -/
def takeUpdateAbort (st : Station) (quiet : Bool) (s : State) : State :=
  answer .updateAbort st quiet .ok
    (s.stream.toByte :: be32 s.stream.received
      ++ (match s.stream with | .failed _ _ _ reason => [reason.toByte] | _ => [0]))
    { s with stream := .closed }

/-- UPDATE_ABORT over the stream's job: a waiting job is removed and answered ABORTED, a running one has its result
dropped (R79). -/
def overrideStream (st : Station) (s : State) : State :=
  match s.running with
  | some r =>
    if r.holder = some st then { s with running := some { r with dropped := true }, stream := .closed }
    else withdraw s
  | none => withdraw s
where
  /-- The waiting job of the station goes, with the reply ABORTED. -/
  withdraw (s : State) : State :=
    match s.queue.find? fun j => j.holder == some st with
    | some j =>
      placeReply st .aborted j.code [] j.quiet
        { s with queue := s.queue.filter fun j => j.holder != some st, stream := .closed }
    | none => { s with stream := .closed }

/-! ### Events -/

def execUpdateOpenJobStart (s : State) : Host.Outcome State Fault Refusal :=
  whenOn (onStart fun j => match j.work with
    | .updateOpen => some startUpdateOpen
    | _ => none) s

def execUpdateOpenJobEnd (s : State) : Host.Outcome State Fault Refusal :=
  whenOn (onEnd (Job.is fun w => w matches .updateOpen) endUpdateOpen) s

def execUpdateDataJobStart (s : State) : Host.Outcome State Fault Refusal :=
  whenOn (onStart fun j => match j.work with
    | .updateData _ => some startUpdateData
    | _ => none) s

def execUpdateDataJobEnd (s : State) : Host.Outcome State Fault Refusal :=
  whenOn (onEnd (Job.is fun w => w matches .updateData _) fun r s =>
    match r.job with
    | .station { work := .updateData chunk, .. } => endUpdateData chunk r s
    | _ => s) s

end Sys2Proof.Machine
end

