-- ==== Sys2Proof/Machine/Stations.lean ====
section
/-! DEFINITION. The station table: its own requests, FETCH and ABORT, the order of checks, the receipt stage and the
judging of a whole frame (chapter 9, R187). -/

namespace Sys2Proof.Machine

open Sys2Proof

/-! ### STATUS, SET_NOTICE_MASK, CLOSE_STAGE (R162, R169, R170) -/

/-- The four station states, station 0 first. -/
def stationStates (s : State) : List Byte := (List.finRange 4).map fun st => (s.stations.get st).state.toByte

/-- The running job's origin: a station, 16 or 17 for an internal job, 32 for a job of a reset station, 255 for none
(R210). -/
def engineOrigin (s : State) : Byte :=
  match s.running with
  | none => 255
  | some r =>
    match r.job with
    | .station j => if r.crossed then 32 else byte j.station
    | .trialAccount => 16
    | .ownerReset _ _ => 17

/-- Whether a job is a station job. -/
def Job.isStation : Job → Bool
  | .station _ => true
  | _ => false

/-- The internal jobs that wait, as bits (R210). -/
def waitingInternal (s : State) : Byte :=
  byte ((s.queue.contains .trialAccount).toNat + 2 * (s.queue.any Job.isOwnerReset).toNat)

/-- The STATUS body for a sending station (R169, R210). -/
def statusBody (st : Station) (s : State) : List Byte :=
  flagByte s.fault :: stationStates s
    ++ [(requestState st s).toByte, flagByte (s.stations.get st).masked, flagByte s.globalMask,
        flagByte (holdsGrant st s), engineOrigin s, byte (s.queue.countP Job.isStation), waitingInternal s]
    ++ be32 s.time.uptime.toNat ++ be32 s.socResets ++ be32 s.partResets
    ++ [flagByte (ownerClaimed s), s.stream.toByte] ++ be32 s.stream.received
    ++ [byte s.revoked.length, byte (raisedCount s), flagByte s.attn]

/-- STATUS (R169). -/
def takeStatus (st : Station) (quiet : Bool) (s : State) : State := answer .status st quiet .ok (statusBody st s) s

/-- What a notice action makes of a mask: LEAVE, SET or CLEAR (R170). -/
def noticeAction (action : Byte) (mask : Bool) : Option Bool :=
  match action.toNat with
  | 0 => some mask
  | 1 => some true
  | 2 => some false
  | _ => none

/-- SET_NOTICE_MASK (R170). -/
def takeSetNoticeMask (st : Station) (quiet : Bool) (body : List Byte) (s : State) : State :=
  match noticeAction (byteAt body 0) (s.stations.get st).masked, noticeAction (byteAt body 1) s.globalMask with
  | some own, some all =>
    answer .setNoticeMask st quiet .ok [flagByte own, flagByte all]
      { setStation st { s.stations.get st with masked := own } s with globalMask := all }
  | _, _ => answer .setNoticeMask st quiet .badArgument [] s

/-- Gives a station another state. -/
def moveStation (st : Station) (state : StationState) (s : State) : State :=
  setStation st { s.stations.get st with state } s

/-- What CLOSE_STAGE from a station does to the station states (R161). -/
def closeStage (st : Station) (s : State) : State :=
  match st.val with
  | 0 => moveStation 1 .opened (moveStation 0 .closed s)
  | 1 => moveStation 3 .opened (moveStation 2 .opened (moveStation 1 .closed s))
  | _ => s

/-- CLOSE_STAGE (R162). -/
def takeCloseStage (st : Station) (quiet : Bool) (s : State) : State :=
  answer .closeStage st quiet .ok (stationStates (closeStage st s)) (closeStage st s)

/-! ### The order of checks (R165) and handing on (R166) -/

/-- A request that has passed checks 1 to 6 goes to its owning block (R165, R166). FETCH and ABORT do not come this
far. -/
def takeRequest (c : ReqCode) (st : Station) (quiet : Bool) (body : List Byte) (s : State) : State :=
  match c with
  | .fetch => s
  | .abort => s
  | .status => takeStatus st quiet s
  | .conditions => takeConditions st quiet s
  | .clearConditions => takeClearConditions st quiet body s
  | .setNoticeMask => takeSetNoticeMask st quiet body s
  | .closeStage => takeCloseStage st quiet s
  | .settingsRead => takeSettingsRead st quiet s
  | .settingsWrite => takeSettingsWrite st quiet body s
  | .ownerReset => takeOwnerReset quiet s
  | .keyGenerate => takeKeyGenerate st quiet body s
  | .keyImport => takeKeyImport st quiet body s
  | .keySign => takeKeySign st quiet body s
  | .keyVerify => takeKeyVerify st quiet body s
  | .keyDerive => takeKeyDerive st quiet body s
  | .keyErase => takeKeyErase st quiet body s
  | .keyInfo => takeKeyInfo st quiet body s
  | .keyPublic => takeKeyPublic st quiet body s
  | .chainExtend => takeChainExtend st quiet body s
  | .chainFreeze => takeChainFreeze st quiet body s
  | .chainRead => takeChainRead st quiet body s
  | .logRead => takeLogRead st quiet body s
  | .quote => takeQuote st quiet body s
  | .identityRead => takeIdentityRead st quiet s
  | .updateOpen => takeUpdateOpen st quiet body s
  | .updateData => takeUpdateData st quiet body s
  | .updateAbort => takeUpdateAbort st quiet s
  | .targetPrepare => takeTargetPrepare st quiet s
  | .targetActivate => takeTargetActivate st quiet body s
  | .targetDiscard => takeTargetDiscard st quiet body s
  | .targetList => takeTargetList st quiet s
  | .bootQuery => takeBootQuery st quiet body s
  | .bootConfirm => takeBootConfirm st quiet body s
  | .floorRead => takeFloorRead st quiet s
  | .credSet => takeCredSet st quiet body s
  | .credVerify => takeCredVerify st quiet body s
  | .credRelease => takeCredRelease st quiet body s
  | .credClear => takeCredClear st quiet body s
  | .credInfo => takeCredInfo st quiet body s
  | .grantDrop => takeGrantDrop st quiet s

/-- Whether the reserved bits of a flags byte are zero (R165). -/
def flagsOk (flags : Byte) : Bool := (flags &&& 0xFE) == 0

/-- Checks 2 to 6 of a request the part knows; none when it passes them (R165). -/
def generalRefusal (c : ReqCode) (st : Station) (body : List Byte) (s : State) : Option Result :=
  if !lengthOk c body.length then some .badLength
  else if !permitted c st body then some .notPermitted
  else if s.fault && !answeredInFault c then some .faulted
  else if needsGrant c st body s && !holdsGrant st s then some .noGrant
  else none

/-- The order of checks on a frame whose receipt is TAKEN (R165). `req` is the request that the code stands for. -/
def orderOfChecks (st : Station) (code : Byte) (req : Option ReqCode) (flags : Byte) (body : List Byte)
    (s : State) : State :=
  if !flagsOk flags then placeReply st .reservedBits code [] (hasBit flags 0) s
  else match req with
    | none => placeReply st .unknownRequest code [] (hasBit flags 0) s
    | some c =>
      match generalRefusal c st body s with
      | some r => placeReply st r code [] (hasBit flags 0) s
      | none => takeRequest c st (hasBit flags 0) body s

/-! ### FETCH and ABORT (R168, R172) -/

/-- The reply frame that answers a FETCH (R168). -/
def fetchFrame (st : Station) (flags : Byte) (body : List Byte) (s : State) : List Byte :=
  if !flagsOk flags then replyFrame .reservedBits ReqCode.fetch.toByte []
  else if !body.isEmpty then replyFrame .badLength ReqCode.fetch.toByte []
  else match (s.stations.get st).slot with
    | some r => replyFrame r.result r.code r.body
    | none => replyFrame .nothing ReqCode.fetch.toByte [(requestState st s).toByte]

/-- A good FETCH empties the reply slot (R168). -/
def fetchSlot (st : Station) (flags : Byte) (body : List Byte) (s : State) : State :=
  if flagsOk flags && body.isEmpty then setStation st { s.stations.get st with slot := none } s else s

/-- The waiting request of a station is taken out of the queue, its notes are undone and ABORTED is placed (R172,
R175). -/
def removeWaiting (st : Station) (s : State) : State :=
  match s.queue.find? fun j => j.holder == some st with
  | some j =>
    placeReply st .aborted j.code [] j.quiet
      (undoJob j { s with queue := s.queue.filterMap fun j => if j.holder = some st then j.withdrawn else some j })
  | none => s

/-- ABORT: its receipt and its effect (R172). -/
def abortRequest (st : Station) (flags : Byte) (body : List Byte) (s : State) : Receipt × State :=
  if !flagsOk flags || !body.isEmpty then (.none, s)
  else match requestState st s with
    | .waiting => (.removed, removeWaiting st s)
    | .running => (.running, s)
    | .idle => (.none, s)

/-! ### The receipt stage (R164) and the judging of a frame (R187) -/

/-- Whether a frame is an UPDATE_ABORT that overrides the stream's job in hand (R79, R164). -/
def overridesStream (st : Station) (req : Option ReqCode) (flags : Byte) (body : List Byte) (s : State) : Bool :=
  req == some .updateAbort && st == 2 && flagsOk flags && body.isEmpty && streamJobInHand 2 s

/-- Hands a receipt to the transmitter. -/
def giveReceipt (r : Receipt) (s : State) : State := handItem (.receipt r) s

/-- The receipt stage: the first line that applies decides (R164). -/
def receiptStage (st : Station) (code : Byte) (req : Option ReqCode) (flags : Byte) (body : List Byte)
    (s : State) : State :=
  if (s.stations.get st).state = .waiting then giveReceipt .notOpen s
  else if (s.stations.get st).state = .closed ∧ req ≠ some .fetch ∧ req ≠ some .status then giveReceipt .notOpen s
  else if req = some .fetch then handItem (.frame (fetchFrame st flags body s)) (fetchSlot st flags body s)
  else if req = some .abort then giveReceipt (abortRequest st flags body s).1 (abortRequest st flags body s).2
  else if overridesStream st req flags body s then giveReceipt .taken (overrideStream st s)
  else if requestState st s ≠ .idle then giveReceipt .busy s
  else if (s.stations.get st).slot.isSome then giveReceipt .held s
  else giveReceipt .taken (orderOfChecks st code req flags body s)

/-- A frame that has passed its CRC check: it is handed on when the transmitter's waiting place is empty, and discarded
with LINK_FRAME raised otherwise (R187). -/
def judgeFrame (st : Station) (code : Byte) (req : Option ReqCode) (flags : Byte) (body : List Byte)
    (s : State) : State :=
  if s.txNext.isSome then raiseCond .linkFrame s else receiptStage st code req flags body s

/-- A whole frame with a correct CRC has come for a station: its body length is looked at, the line interface is
IGNORING again, and the frame is judged (R182, R183, R187). DEDUCED, log 1: a request row is a whole frame; safe. -/
def frameArrives (st : Station) (code : Byte) (req : Option ReqCode) (flags : Byte) (body : List Byte)
    (s : State) : State :=
  if Config.bodyCap < body.length then frameBad s else judgeFrame st code req flags body (lineIdle s)

/-- A whole frame of a request the part knows. -/
def requestArrives (c : ReqCode) (st : Station) (flags : Byte) (body : List Byte) (s : State) : State :=
  frameArrives st c.toByte (some c) flags body s

end Sys2Proof.Machine
end

