-- ==== Sys2Proof/Machine/Frames.lean ====
section
/-! DEFINITION. The request rows of the table: each is one whole, correct frame that has come on the line for a
station. -/

namespace Sys2Proof.Machine

open Sys2Proof

/-- A FETCH frame (R168). -/
def execFetch (st : Station) (flags : Byte) (body : List Byte) (s : State) : Host.Outcome State Fault Refusal :=
  whenOn (requestArrives .fetch st flags body) s

/-- A ABORT frame (R172). -/
def execAbort (st : Station) (flags : Byte) (body : List Byte) (s : State) : Host.Outcome State Fault Refusal :=
  whenOn (requestArrives .abort st flags body) s

/-- A STATUS frame (R169). -/
def execStatus (st : Station) (flags : Byte) (body : List Byte) (s : State) : Host.Outcome State Fault Refusal :=
  whenOn (requestArrives .status st flags body) s

/-- A CONDITIONS frame (R194). -/
def execConditions (st : Station) (flags : Byte) (body : List Byte) (s : State) : Host.Outcome State Fault Refusal :=
  whenOn (requestArrives .conditions st flags body) s

/-- A CLEAR_CONDITIONS frame (R195). -/
def execClearConditions (st : Station) (flags : Byte) (body : List Byte) (s : State) : Host.Outcome State Fault Refusal :=
  whenOn (requestArrives .clearConditions st flags body) s

/-- A SET_NOTICE_MASK frame (R170). -/
def execSetNoticeMask (st : Station) (flags : Byte) (body : List Byte) (s : State) : Host.Outcome State Fault Refusal :=
  whenOn (requestArrives .setNoticeMask st flags body) s

/-- A CLOSE_STAGE frame (R162). -/
def execCloseStage (st : Station) (flags : Byte) (body : List Byte) (s : State) : Host.Outcome State Fault Refusal :=
  whenOn (requestArrives .closeStage st flags body) s

/-- A SETTINGS_READ frame (R201). -/
def execSettingsRead (st : Station) (flags : Byte) (body : List Byte) (s : State) : Host.Outcome State Fault Refusal :=
  whenOn (requestArrives .settingsRead st flags body) s

/-- A SETTINGS_WRITE frame (R202). -/
def execSettingsWrite (st : Station) (flags : Byte) (body : List Byte) (s : State) : Host.Outcome State Fault Refusal :=
  whenOn (requestArrives .settingsWrite st flags body) s

/-- A OWNER_RESET frame (R175, R197). -/
def execOwnerReset (st : Station) (flags : Byte) (body : List Byte) (s : State) : Host.Outcome State Fault Refusal :=
  whenOn (requestArrives .ownerReset st flags body) s

/-- A KEY_GENERATE frame (R17). -/
def execKeyGenerate (st : Station) (flags : Byte) (body : List Byte) (s : State) : Host.Outcome State Fault Refusal :=
  whenOn (requestArrives .keyGenerate st flags body) s

/-- A KEY_IMPORT frame (R19). -/
def execKeyImport (st : Station) (flags : Byte) (body : List Byte) (s : State) : Host.Outcome State Fault Refusal :=
  whenOn (requestArrives .keyImport st flags body) s

/-- A KEY_SIGN frame (R23). -/
def execKeySign (st : Station) (flags : Byte) (body : List Byte) (s : State) : Host.Outcome State Fault Refusal :=
  whenOn (requestArrives .keySign st flags body) s

/-- A KEY_VERIFY frame (R24). -/
def execKeyVerify (st : Station) (flags : Byte) (body : List Byte) (s : State) : Host.Outcome State Fault Refusal :=
  whenOn (requestArrives .keyVerify st flags body) s

/-- A KEY_DERIVE frame (R21). -/
def execKeyDerive (st : Station) (flags : Byte) (body : List Byte) (s : State) : Host.Outcome State Fault Refusal :=
  whenOn (requestArrives .keyDerive st flags body) s

/-- A KEY_ERASE frame (R25). -/
def execKeyErase (st : Station) (flags : Byte) (body : List Byte) (s : State) : Host.Outcome State Fault Refusal :=
  whenOn (requestArrives .keyErase st flags body) s

/-- A KEY_INFO frame (R27). -/
def execKeyInfo (st : Station) (flags : Byte) (body : List Byte) (s : State) : Host.Outcome State Fault Refusal :=
  whenOn (requestArrives .keyInfo st flags body) s

/-- A KEY_PUBLIC frame (R27). -/
def execKeyPublic (st : Station) (flags : Byte) (body : List Byte) (s : State) : Host.Outcome State Fault Refusal :=
  whenOn (requestArrives .keyPublic st flags body) s

/-- A CHAIN_EXTEND frame (R33). -/
def execChainExtend (st : Station) (flags : Byte) (body : List Byte) (s : State) : Host.Outcome State Fault Refusal :=
  whenOn (requestArrives .chainExtend st flags body) s

/-- A CHAIN_FREEZE frame (R36). -/
def execChainFreeze (st : Station) (flags : Byte) (body : List Byte) (s : State) : Host.Outcome State Fault Refusal :=
  whenOn (requestArrives .chainFreeze st flags body) s

/-- A CHAIN_READ frame (R44). -/
def execChainRead (st : Station) (flags : Byte) (body : List Byte) (s : State) : Host.Outcome State Fault Refusal :=
  whenOn (requestArrives .chainRead st flags body) s

/-- A LOG_READ frame (R45). -/
def execLogRead (st : Station) (flags : Byte) (body : List Byte) (s : State) : Host.Outcome State Fault Refusal :=
  whenOn (requestArrives .logRead st flags body) s

/-- A QUOTE frame (R54). -/
def execQuote (st : Station) (flags : Byte) (body : List Byte) (s : State) : Host.Outcome State Fault Refusal :=
  whenOn (requestArrives .quote st flags body) s

/-- A IDENTITY_READ frame (R63). -/
def execIdentityRead (st : Station) (flags : Byte) (body : List Byte) (s : State) : Host.Outcome State Fault Refusal :=
  whenOn (requestArrives .identityRead st flags body) s

/-- A UPDATE_OPEN frame (R68). -/
def execUpdateOpen (st : Station) (flags : Byte) (body : List Byte) (s : State) : Host.Outcome State Fault Refusal :=
  whenOn (requestArrives .updateOpen st flags body) s

/-- A UPDATE_DATA frame (R73). -/
def execUpdateData (st : Station) (flags : Byte) (body : List Byte) (s : State) : Host.Outcome State Fault Refusal :=
  whenOn (requestArrives .updateData st flags body) s

/-- A UPDATE_ABORT frame (R78, R79). -/
def execUpdateAbort (st : Station) (flags : Byte) (body : List Byte) (s : State) : Host.Outcome State Fault Refusal :=
  whenOn (requestArrives .updateAbort st flags body) s

/-- A TARGET_PREPARE frame (R88). -/
def execTargetPrepare (st : Station) (flags : Byte) (body : List Byte) (s : State) : Host.Outcome State Fault Refusal :=
  whenOn (requestArrives .targetPrepare st flags body) s

/-- A TARGET_ACTIVATE frame (R93). -/
def execTargetActivate (st : Station) (flags : Byte) (body : List Byte) (s : State) : Host.Outcome State Fault Refusal :=
  whenOn (requestArrives .targetActivate st flags body) s

/-- A TARGET_DISCARD frame (R89). -/
def execTargetDiscard (st : Station) (flags : Byte) (body : List Byte) (s : State) : Host.Outcome State Fault Refusal :=
  whenOn (requestArrives .targetDiscard st flags body) s

/-- A TARGET_LIST frame (R89). -/
def execTargetList (st : Station) (flags : Byte) (body : List Byte) (s : State) : Host.Outcome State Fault Refusal :=
  whenOn (requestArrives .targetList st flags body) s

/-- A BOOT_QUERY frame (R110). -/
def execBootQuery (st : Station) (flags : Byte) (body : List Byte) (s : State) : Host.Outcome State Fault Refusal :=
  whenOn (requestArrives .bootQuery st flags body) s

/-- A BOOT_CONFIRM frame (R106). -/
def execBootConfirm (st : Station) (flags : Byte) (body : List Byte) (s : State) : Host.Outcome State Fault Refusal :=
  whenOn (requestArrives .bootConfirm st flags body) s

/-- A FLOOR_READ frame (R111). -/
def execFloorRead (st : Station) (flags : Byte) (body : List Byte) (s : State) : Host.Outcome State Fault Refusal :=
  whenOn (requestArrives .floorRead st flags body) s

/-- A CRED_SET frame (R118). -/
def execCredSet (st : Station) (flags : Byte) (body : List Byte) (s : State) : Host.Outcome State Fault Refusal :=
  whenOn (requestArrives .credSet st flags body) s

/-- A CRED_VERIFY frame (R121). -/
def execCredVerify (st : Station) (flags : Byte) (body : List Byte) (s : State) : Host.Outcome State Fault Refusal :=
  whenOn (requestArrives .credVerify st flags body) s

/-- A CRED_RELEASE frame (R126). -/
def execCredRelease (st : Station) (flags : Byte) (body : List Byte) (s : State) : Host.Outcome State Fault Refusal :=
  whenOn (requestArrives .credRelease st flags body) s

/-- A CRED_CLEAR frame (R127). -/
def execCredClear (st : Station) (flags : Byte) (body : List Byte) (s : State) : Host.Outcome State Fault Refusal :=
  whenOn (requestArrives .credClear st flags body) s

/-- A CRED_INFO frame (R128). -/
def execCredInfo (st : Station) (flags : Byte) (body : List Byte) (s : State) : Host.Outcome State Fault Refusal :=
  whenOn (requestArrives .credInfo st flags body) s

/-- A GRANT_DROP frame (R132). -/
def execGrantDrop (st : Station) (flags : Byte) (body : List Byte) (s : State) : Host.Outcome State Fault Refusal :=
  whenOn (requestArrives .grantDrop st flags body) s

/-- A frame whose code the part does not know (R165, R206). A code that it does know makes the frame that request's.
DESIGN CHOICE, log 24, for a code that is known; safe. -/
def execUnknownRequestFrame (st : Station) (code flags : Byte) (body : List Byte) (s : State) :
    Host.Outcome State Fault Refusal :=
  whenOn (frameArrives st code (ReqCode.ofByte code) flags body) s

end Sys2Proof.Machine
end

