-- ==== Sys2Proof/Machine/Line.lean ====
section
/-! DEFINITION. The line interface's characters and the transmitter (chapter 10). -/

namespace Sys2Proof.Machine

open Sys2Proof

/-- The station that an address character selects (R181). -/
def addressed (value : Byte) (s : State) : Option Station :=
  if s.settings.addressBase ≤ value.toNat then fin? 4 (value.toNat - s.settings.addressBase) else none

/-- A good address character (R182, R184). -/
def addressCharacter (value : Byte) (s : State) : State :=
  match addressed value s with
  | some st => { s with line := .selected st, gap := true }
  | none => if s.line = .ignoring then s else lineIdle s

/-- The body length that a frame's third and fourth characters give (R183). -/
def frameLength (chars : List Byte) : Nat := nat16At chars 2

/-- The second CRC byte has arrived: the CRC is compared, and a correct frame is judged (R185 to R187). -/
def endFrame (st : Station) (chars : List Byte) (s : State) : State :=
  let n := frameLength chars
  if nat16At chars (n + 4) ≠ (crc16 (chars.take (n + 4))).toNat then frameBad s
  else judgeFrame st (byteAt chars 0) (ReqCode.ofByte (byteAt chars 0)) (byteAt chars 1) (slice chars 4 n) (lineIdle s)

/-- The characters of a frame, with the one just received: the frame is refused, has ended, or goes on (R183). -/
def assemble (st : Station) (chars : List Byte) (s : State) : State :=
  if chars.length = 4 ∧ Config.bodyCap < frameLength chars then frameBad s
  else if 4 ≤ chars.length ∧ chars.length = frameLength chars + 6 then endFrame st chars s
  else { s with line := .assembling st chars, gap := true }

/-- A good data character (R182). -/
def dataCharacter (value : Byte) (s : State) : State :=
  match s.line with
  | .ignoring => s
  | .selected st => assemble st [value] s
  | .assembling st chars => assemble st (chars ++ [value]) s

/-- A bad character, of either kind (R186, R190). DEDUCED, log 31; safe. -/
def badCharacter (s : State) : State :=
  if s.line = .ignoring then raiseCond .linkFrame s else frameBad s

/-- The item under way has ended, and a waiting one begins (R187). -/
def itemEnds (s : State) : State := if s.txNow.isSome then { s with txNow := s.txNext, txNext := none } else s

def execAddressCharacter (value : Byte) (s : State) : Host.Outcome State Fault Refusal :=
  whenOn (addressCharacter value) s

def execDataCharacter (value : Byte) (s : State) : Host.Outcome State Fault Refusal := whenOn (dataCharacter value) s

/-- The two kinds of bad character have one effect (R180, R186). -/
def execBadCharacter (_kind : BadKind) (s : State) : Host.Outcome State Fault Refusal := whenOn badCharacter s

def execTxItemEnd (s : State) : Host.Outcome State Fault Refusal := whenOn itemEnds s

end Sys2Proof.Machine
end

