-- ==== Sys2Proof/Machine/TimeBase.lean ====
section
/-! DEFINITION. The sensed SoC reset with the sampler that senses it, and the decisecond tick and what each receiver
does at it (chapter 8, R178). -/

namespace Sys2Proof.Machine

open Sys2Proof

/-! ### The sensed SoC reset (R155, R178) -/

/-- A station record after a SoC reset, and at the end of start-up (R160, R161). -/
def StationRec.atBoot (st : Station) : StationRec :=
  { StationRec.waiting with state := if st.val = 0 then .opened else .waiting }

/-- The sense sampler is ASSERTED. -/
def senseReset (s : State) : State := { s with time := { s.time with senseAsserted := true, senseLow := true } }

/-- Waiting station jobs go, their notes undone, and a waiting OWNER_RESET_JOB loses its request (R178). -/
def removeStationJobs (s : State) : State :=
  { s.queue.foldl (fun s j => undoJob j s) s with queue := s.queue.filterMap Job.withdrawn }

/-- The running job belongs to no station from now on (R178). -/
def crossRunning (s : State) : State := { s with running := s.running.map fun r => { r with crossed := true } }

/-- The station records and the global mask take their values after a SoC reset (R160). -/
def resetStations (s : State) : State := { s with stations := .ofFn StationRec.atBoot, globalMask := false }

/-- A slot with its EPOCH key erased (R28). -/
def KeySlot.endEpoch (k : KeySlot) : KeySlot :=
  match k with
  | .active r => if r.persistence = .epoch then .empty else .active r
  | k => k

/-- EPOCH keys are erased (R28). -/
def eraseEpochKeys (s : State) : State := { s with keys := s.keys.map KeySlot.endEpoch }

/-- Chains 0 to 9 are cleared and their log entries removed (R46). -/
def clearBootChains (s : State) : State :=
  { s with
    chains := s.chains.mapFin fun c r => if c.val < 10 then .cleared else r
    log := s.log.filter fun e => decide (10 ≤ e.chain.val) }

/-- The SoC-reset count is raised (R53). -/
def countSocReset (s : State) : State := { s with socResets := min (s.socResets + 1) Config.resetCap }

/-- The stream is closed and the targets are emptied (R85, R112). -/
def dropUpdates (s : State) : State := { s with stream := .closed, targets := .replicate 8 none }

/-- A reply frame under way is cut after the character going out; a waiting item is discarded (R191). DEDUCED, log 14;
safe. -/
def cutTransmitter (s : State) : State :=
  { s with
    txNow := s.txNow.map fun i => match i with
      | .frame _ => .remnant
      | i => i
    txNext := none }

/-- A sensed SoC reset (R155). The trial timer is stopped before a waiting confirm is undone (R101). -/
def socReset (s : State) : State :=
  lineIdle (cutTransmitter (queueTrialAccount (dropUpdates (countSocReset (clearBootChains (eraseEpochKeys
    (resetStations (crossRunning (removeStationJobs (stopTrialTimer (senseReset s)))))))))))

/-- The sampler returns to RELEASED (R155). -/
def senseReleased (s : State) : State := { s with time := { s.time with senseAsserted := false, senseLow := false } }

/-- The sense sampler reads one sample, `true` where the line is low. The second of two consecutive ones alike moves it,
from RELEASED when they are low and from ASSERTED when they are high; otherwise it holds the sample (R155). -/
def senseSample (s : State) (low : Bool) : State :=
  if low = s.time.senseLow ∧ low ≠ s.time.senseAsserted then
    if low then socReset s else senseReleased s
  else { s with time := { s.time with senseLow := low } }

/-- The sense sampler reads samples, the oldest first (R155). -/
def readSense (samples : List Bool) (s : State) : State := samples.foldl senseSample s

/-! ### The tick (R150 to R154) -/

/-- The uptime count that the next tick brings (R151). -/
def nextCount (s : State) : Count := s.time.uptime + 1

/-- The count and the phase advance: a tick ends the last period of its phase, and the next phase begins (R150, R151).
DESIGN CHOICE, log 12: periods within a phase are left out; safe. -/
def advanceTime (s : State) : State :=
  { s with time := { s.time with uptime := nextCount s, phase := s.time.phase + 1, prescaler := 0, periods := 0 } }

/-- The pulse timer at a tick: the tick that brings its count to 2 releases SOCRST (R158). -/
def Pulse.tick (p : Pulse) : Pulse :=
  match p with
  | .idle => .idle
  | .driving n => if 2 ≤ n + 1 then .idle else .driving (n + 1)

/-- The pulse timer counts the tick (R158). -/
def tickPulse (s : State) : State := { s with time := { s.time with pulse := s.time.pulse.tick } }

/-- Whether a count is that of a decay tick (R154). -/
def isDecayTick (now : Count) : Bool := now.toNat % 100 == 0

/-- Whether some credential has a pending delay (R147). -/
def anyPending (s : State) : Bool := (List.finRange 16).any fun id => hasPending (s.creds.get id)

/-- Lockouts end, penalties decay, and at the first tick pending delays become deadlines (R143, R145, R147). The count
is already the new one. DESIGN CHOICE, log 38: LOCKOUT_STARTED is raised for a delay that still stands at that tick;
unsafe when every re-imposed lockout has gone before it. -/
def tickCredentials (s : State) : State :=
  raiseIf (s.time.firstTick && anyPending s) .lockoutStarted
    { s with creds := s.creds.map (tickCredential s.time.uptime s.time.firstTick (isDecayTick s.time.uptime)) }

/-- Grants whose deadline is reached end (R131). -/
def tickGrants (s : State) : State :=
  { s with stations := s.stations.map (StationRec.dropGrant fun g => g.deadline == s.time.uptime) }

/-- A RECEIVING stream whose idle deadline is reached fails (R77). -/
def tickStream (s : State) : State :=
  match s.stream with
  | .receiving _ _ _ _ deadline => if deadline = s.time.uptime then failStream .timeout s else s
  | _ => s

/-- The trial timer whose deadline is reached expires and asks for a pulse, or under the hold stays RUNNING past it
(R100, R101). -/
def tickTimer (s : State) : State :=
  match s.timer with
  | .running deadline _ =>
    if deadline ≠ s.time.uptime then s
    else if s.hold then { s with timer := .running deadline true }
    else { s with timer := .expired, time := { s.time with pulse := s.time.pulse.request } }
  | _ => s

/-- The line interface's gap timeout (R184). -/
def tickGap (s : State) : State :=
  if s.line = .ignoring then s else if s.gap then { s with gap := false } else lineIdle s

/-- Periods of the prescaled clock in a phase (R150). -/
def phasePeriods (phase : Fin 10) : Nat := [26, 25, 26, 25, 26, 25, 26, 26, 25, 26].getD phase.val 0

/-- The verdict on the samples of a phase (R156). -/
def judge (samples : List Bool) : PhaseVerdict :=
  if samples.all fun pressed => pressed then .low
  else if samples.all fun pressed => !pressed then .high
  else .mixed

/-- The samples that the sampler has gathered over the phase that the next tick ends, 25 or 26 of them, and its verdict
on them (R156). -/
def phaseVerdict (samples : PhaseSamples) (s : State) : PhaseVerdict :=
  judge (samples.button.list.take (phasePeriods s.time.phase))

/-- What the sense sampler reads before the tick; it does not run in start-up (R155). -/
def beforeTick (samples : PhaseSamples) (s : State) : State :=
  if s.power = .on then readSense samples.sense s else s

/-- The button sampler acts on the verdict of a phase; the held count reaching the threshold hands on the hold event
(R156, R157). -/
def tickButton (v : PhaseVerdict) (s : State) : State :=
  match s.time.button, v with
  | .released, .low =>
    { s with time := { s.time with button := .holding, held := 1, threshold := s.settings.buttonHold } }
  | .holding, .low =>
    if s.time.threshold ≤ s.time.held + 1 then
      queueButtonReset { s with time := { s.time with button := .fired, held := s.time.held + 1 } }
    else { s with time := { s.time with held := s.time.held + 1 } }
  | .holding, .high => { s with time := { s.time with button := .released, held := 0 } }
  | .fired, .high => { s with time := { s.time with button := .released, held := 0 } }
  | .released, .high => s
  | .fired, .low => s
  | _, .mixed => s

/-- The first tick after start-up has come; the phase it ends was not a whole one and is not judged (R147, R156). -/
def closePhase (v : PhaseVerdict) (s : State) : State :=
  if s.time.firstTick then { s with time := { s.time with firstTick := false } } else tickButton v s

/-- One decisecond tick of a running part (R153). DESIGN CHOICE and DEDUCED, log 2 and 23: the order of the receivers;
unsafe for the length of a pulse. -/
def tick (v : PhaseVerdict) (s : State) : State :=
  closePhase v (tickGap (tickTimer (tickStream (tickGrants (tickCredentials (tickPulse (advanceTime s)))))))

/-- A tick, as the part's power has it: in start-up only the time base moves (R159). DEDUCED, log 34; safe. -/
def tickEvent (v : PhaseVerdict) (s : State) : Host.Outcome State Fault Refusal :=
  match s.power with
  | .on => .next (recomputeAttn (tick v s))
  | .startUp _ => .next (advanceTime s)
  | .off => .next s

/-- A row that names what a tick brings: it is that whole tick when the tick brings it, and no tick otherwise. DESIGN
CHOICE, log 2 and 3; safe. -/
def tickWhen (due : State → Bool) (v : PhaseVerdict) (s : State) : Host.Outcome State Fault Refusal :=
  whenOn (fun s => if due s then tick v s else s) s

/-- Whether the next tick ends a credential's lockout (R143). -/
def lockoutDue (id : CredId) (s : State) : Bool :=
  match s.creds.get id with
  | .held r => r.lockout == .deadline (nextCount s)
  | _ => false

/-- Whether the next tick ends a station's grant (R131). -/
def grantDue (st : Station) (s : State) : Bool := (s.stations.get st).grant.any fun g => g.deadline == nextCount s

/-- Whether the next tick reaches the idle deadline (R77). -/
def idleDue (s : State) : Bool :=
  match s.stream with
  | .receiving _ _ _ _ deadline => deadline == nextCount s
  | _ => false

/-- Whether the next tick expires the trial timer (R100). -/
def timerDue (s : State) : Bool :=
  match s.timer with
  | .running deadline _ => deadline == nextCount s && !s.hold
  | _ => false

/-- Whether the next tick gives up a partial frame or a bare selection (R184). -/
def gapDue (s : State) : Bool := s.line != .ignoring && !s.gap

/-- Whether the next tick ends the pulse (R158). -/
def pulseDue (s : State) : Bool := s.time.pulse != .idle && s.time.pulse.tick == .idle

/-- Whether a low decisecond ending at the next tick brings the hold event (R157). -/
def holdDue (s : State) : Bool :=
  !s.time.firstTick && s.time.button == .holding && decide (s.time.threshold ≤ s.time.held + 1)

def execDecisecondTick (samples : PhaseSamples) (s : State) : Host.Outcome State Fault Refusal :=
  tickEvent (phaseVerdict samples s) (beforeTick samples s)

def execDecayTick (samples : PhaseSamples) (s : State) : Host.Outcome State Fault Refusal :=
  tickWhen (fun s => isDecayTick (nextCount s)) (phaseVerdict samples s) (beforeTick samples s)

def execLockoutEnd (id : CredId) (samples : PhaseSamples) (s : State) : Host.Outcome State Fault Refusal :=
  tickWhen (lockoutDue id) (phaseVerdict samples s) (beforeTick samples s)

def execGrantExpiry (st : Station) (samples : PhaseSamples) (s : State) : Host.Outcome State Fault Refusal :=
  tickWhen (grantDue st) (phaseVerdict samples s) (beforeTick samples s)

def execIdleDeadlineExpiry (samples : PhaseSamples) (s : State) : Host.Outcome State Fault Refusal :=
  tickWhen idleDue (phaseVerdict samples s) (beforeTick samples s)

def execTrialTimerExpiry (samples : PhaseSamples) (s : State) : Host.Outcome State Fault Refusal :=
  tickWhen timerDue (phaseVerdict samples s) (beforeTick samples s)

def execGapTimeout (samples : PhaseSamples) (s : State) : Host.Outcome State Fault Refusal :=
  tickWhen gapDue (phaseVerdict samples s) (beforeTick samples s)

def execSocrstPulseEnd (samples : PhaseSamples) (s : State) : Host.Outcome State Fault Refusal :=
  tickWhen pulseDue (phaseVerdict samples s) (beforeTick samples s)

/-- The samples of the phase that ends are all low, the only verdict that brings the hold event (R157). -/
def execButtonHoldEvent (s : State) : Host.Outcome State Fault Refusal := tickWhen holdDue .low s

/-- Two consecutive low samples: a sensed SoC reset in RELEASED (R155). -/
def execSocResetSensed (s : State) : Host.Outcome State Fault Refusal := whenOn (readSense [true, true]) s

/-- Two consecutive high samples: the move back to RELEASED in ASSERTED (R155). -/
def execSocrstSenseReleased (s : State) : Host.Outcome State Fault Refusal := whenOn (readSense [false, false]) s

end Sys2Proof.Machine
end

