-- ==== Sys2Proof/Machine/StartUp.lean ====
section
/-! DEFINITION. Losing power, the start-up sequence of a part reset, and its end (R176, R203, R204). -/

namespace Sys2Proof.Machine

open Sys2Proof

/-! ### Losing power (R176) -/

/-- The store that a loss of power leaves: the record of the write under way holds its old or its new contents. -/
def storeAfterLoss (landed : Bool) (s : State) : Store :=
  match underWay s with
  | some step => if landed then step.land s else s.store
  | none => s.store

/-- The part without power: all working state is gone. DESIGN CHOICE, log 11; safe. -/
def losePower (landed : Bool) (s : State) : State := State.blank s.pending .off (storeAfterLoss landed s) s.entropy

def execPowerLost (landed : Bool) (s : State) : Host.Outcome State Fault Refusal :=
  .next (if s.power = .off then s else losePower landed s)

/-! ### Reading the store (R203, step 2) -/

/-- Whether the store holds a record. -/
def Store.has (store : Store) (id : RecordId) : Bool :=
  match id with
  | .revocationList => true
  | .keySlot slot => (store.keys.get slot).isSome
  | .credential id => (store.creds.get id).isSome
  | .classRecord _ => true
  | .partResetCount => true
  | .certificate => true
  | .settings => true
  | .ownerResetMark => store.resetMark

/-- A loaded credential: its working penalty and streak take their stored copies (R134). -/
def loadCredential (c : Option StoredCred) : Credential :=
  match c with
  | some c => .held { contents := c.contents, penalty := c.penalty, streak := c.streak, lockout := .absent }
  | none => .empty

/-- A loaded key slot (R29). -/
def loadKey (k : Option KeyRecord) : KeySlot :=
  match k with
  | some k => .active k
  | none => .empty

/-- Reads and checks each stored record: one that passes is loaded, and one that fails raises NV_INTEGRITY and is
treated as its owning rule states (R203, step 2). `bad` names the records that fail. DEDUCED, log 40: each stays in the
store as it is; unsafe for its stored copy. -/
def loadStore (bad : List RecordId) (s : State) : State :=
  raiseIf (bad.any s.store.has) .nvIntegrity
    { s with
      revoked := if bad.contains .revocationList then [] else s.store.revocation
      keys := .ofFn fun slot => if bad.contains (.keySlot slot) then .empty else loadKey (s.store.keys.get slot)
      creds := .ofFn fun id =>
        if bad.contains (.credential id) then .empty else loadCredential (s.store.creds.get id)
      classes := .ofFn fun c => if bad.contains (.classRecord c) then none else some (s.store.classes.get c)
      partResets := if bad.contains .partResetCount then 0 else s.store.partResets
      certificate := if bad.contains .certificate then none else some s.store.certificate
      settings := if bad.contains .settings then .default else s.store.settings }

/-! ### The steps of start-up (R203, steps 3 to 7) -/

/-- A start-up under way: the state, the store writes made so far, whether one has failed, and whether power has been
lost in one (R204). -/
structure StartingUp where
  state : State
  writes : Nat
  stopped : Bool
  dead : Bool

/-- One step of start-up. After a failed write no later step of the finishing work is made (R204). DEDUCED, log 35;
unsafe in FAULT mode. -/
def startUpStep (trouble : StartUpTrouble) (b : StartingUp) (step : JobStep) : StartingUp :=
  if b.dead || b.stopped then b
  else if !step.writes b.state then { b with state := step.complete b.state }
  else
    let done : StartingUp := { b with state := step.complete b.state, writes := b.writes + 1 }
    match trouble with
    | .none => done
    | .writeFails n landed =>
      if n = b.writes then
        { b with state := raiseCond .nvWriteFailed (step.fail landed b.state), stopped := true }
      else done
    | .powerLost n landed =>
      if n = b.writes then
        { b with
          state := { b.state with store := if landed then step.land b.state else b.state.store }
          dead := true }
      else done

/-- The steps of a list, each with what it brings with it. -/
def startUpSteps (trouble : StartUpTrouble) (steps : List JobStep) (b : StartingUp) : StartingUp :=
  steps.foldl (fun b step => (step :: step.follow b.state).foldl (startUpStep trouble) b) b

/-- A slot whose key's fingerprint is in the revocation list is set EMPTY (R29). -/
def KeySlot.unlessRevoked (revoked : List (Bytes 32)) (k : KeySlot) : KeySlot :=
  match k with
  | .active r => if revoked.contains r.fingerprint then .empty else .active r
  | k => k

/-- The slots whose keys are revoked (R29). -/
def revokedSlots (s : State) : List Slot :=
  (List.finRange 64).filter fun slot => (activeKey? slot s).any fun k => s.revoked.contains k.fingerprint

/-- Step 3: the revoked slots are set EMPTY, and their records removed (R29). -/
def finishRevocations (trouble : StartUpTrouble) (b : StartingUp) : StartingUp :=
  startUpSteps trouble ((revokedSlots b.state).map .removeRevoked)
    { b with state := { b.state with keys := b.state.keys.map (KeySlot.unlessRevoked b.state.revoked) } }

/-- Step 4: a standing owner reset mark is finished (R200). -/
def finishOwnerReset (marked : Bool) (trouble : StartUpTrouble) (b : StartingUp) : StartingUp :=
  if marked then startUpSteps trouble (eraseSteps true) b else b

/-- Step 5: the start is counted, unless the count's record has failed its check or stands at its limit (R52). -/
def countTheStart (good : Bool) (trouble : StartUpTrouble) (b : StartingUp) : StartingUp :=
  if good && decide (b.state.partResets < Config.resetCap) then startUpSteps trouble [.countStart] b else b

/-- The steps that finish a class's deferred actions (R97). -/
def deferredSteps (c : ClassNo) (s : State) : List JobStep :=
  match s.classes.get c with
  | some r =>
    if r.state = .steady ∧ r.deferred ≠ [] then r.deferred.map (fun a => .action c a) ++ [.clearDeferred c] else []
  | none => []

/-- Step 6: interrupted activations and confirms are finished (R97). -/
def finishDeferred (trouble : StartUpTrouble) (b : StartingUp) : StartingUp :=
  (List.finRange 4).foldl (fun b c => startUpSteps trouble (deferredSteps c b.state) b) b

/-- Step 7: the single trial accounting, with the condition of a failed attempt, and whether the trial timer is to be
started (R103, R105). -/
def accountTrial (trouble : StartUpTrouble) (b : StartingUp) : StartingUp × Bool :=
  match trialClass b.state with
  | none => (b, false)
  | some (c, r) =>
    let raises : List JobStep := if r.state.attemptFailed then [.raise .trialAttemptFailed] else []
    let after := startUpSteps trouble ((accountSteps c r).1 ++ raises) b
    (after, (accountSteps c r).2 && !after.stopped)

/-- Step 8: the lockout that a credential's stored penalty gives is imposed again (R147). -/
def Credential.reimpose (c : Credential) : Credential :=
  match c with
  | .held r => .held { r with lockout := pendingLockout r.penalty }
  | c => c

/-- Step 8 for every credential (R147). -/
def reimposeLockouts (s : State) : State := { s with creds := s.creds.map Credential.reimpose }

/-- Steps 2 to 8 of start-up, from a part with no working state (R203). DEDUCED, log 25; safe. -/
def startUp (bad : List RecordId) (trouble : StartUpTrouble) (s : State) : State :=
  let loaded := loadStore bad s
  let b := finishRevocations trouble { state := loaded, writes := 0, stopped := false, dead := false }
  let b := finishOwnerReset (s.store.resetMark && !bad.contains .ownerResetMark) trouble b
  let b := countTheStart (!bad.contains .partResetCount) trouble b
  let b := finishDeferred trouble b
  let (b, timerDue) := accountTrial trouble b
  if b.dead then State.blank s.pending .off b.state.store s.entropy
  else { reimposeLockouts b.state with power := .startUp timerDue }

/-- A part reset, by power-on or by RESET_N: what ran is lost as in a loss of power, and start-up makes its steps
(R179, R203). DEDUCED, log 29; safe. -/
def partReset (input : StartUpInput) (s : State) : State :=
  let store := if s.power = .off then s.store else storeAfterLoss input.landed s
  startUp input.bad input.trouble (State.blank s.pending (.startUp false) store s.entropy)

def execPartReset (input : StartUpInput) (s : State) : Host.Outcome State Fault Refusal := .next (partReset input s)

/-! ### The end of start-up (R203, steps 9 and 10) -/

/-- The trial timer starts when the accounting of start-up asks for it (R105). -/
def startIf (due : Bool) (s : State) : State := if due then startTrialTimer s else s

/-- The stations open, the samplers take their states, and the part is in FAULT mode when a FAULT condition is raised
(R155, R156, R161, R203). -/
def openPart (senseLow : Bool) (s : State) : State :=
  { s with
    power := .on
    stations := .ofFn StationRec.atBoot
    fault := raised s Condition.nvWriteFailed.index || raised s Condition.nvIntegrity.index
    time := { s.time with senseAsserted := senseLow, senseLow, button := .released, held := 0, firstTick := true } }

def execStartUpEnd (senseLow : Bool) (s : State) : Host.Outcome State Fault Refusal :=
  match s.power with
  | .startUp due => .next (recomputeAttn (startIf due (openPart senseLow s)))
  | .on => .next s
  | .off => .next s

end Sys2Proof.Machine
end

