-- ==== Sys2Proof/Machine/Dispatch.lean ====
section
/-! DEFINITION. The meaning of every command: one arm for each row of the table. -/

namespace Sys2Proof.Machine

open Sys2Proof

def exec (i : Instr) (s : State) : Host.Outcome State Fault Refusal :=
  match i with
  | .fetch st flags body => Sys2Proof.Machine.execFetch st flags body s
  | .abort st flags body => Sys2Proof.Machine.execAbort st flags body s
  | .status st flags body => Sys2Proof.Machine.execStatus st flags body s
  | .conditions st flags body => Sys2Proof.Machine.execConditions st flags body s
  | .clearConditions st flags body => Sys2Proof.Machine.execClearConditions st flags body s
  | .setNoticeMask st flags body => Sys2Proof.Machine.execSetNoticeMask st flags body s
  | .closeStage st flags body => Sys2Proof.Machine.execCloseStage st flags body s
  | .settingsRead st flags body => Sys2Proof.Machine.execSettingsRead st flags body s
  | .settingsWrite st flags body => Sys2Proof.Machine.execSettingsWrite st flags body s
  | .ownerReset st flags body => Sys2Proof.Machine.execOwnerReset st flags body s
  | .keyGenerate st flags body => Sys2Proof.Machine.execKeyGenerate st flags body s
  | .keyImport st flags body => Sys2Proof.Machine.execKeyImport st flags body s
  | .keySign st flags body => Sys2Proof.Machine.execKeySign st flags body s
  | .keyVerify st flags body => Sys2Proof.Machine.execKeyVerify st flags body s
  | .keyDerive st flags body => Sys2Proof.Machine.execKeyDerive st flags body s
  | .keyErase st flags body => Sys2Proof.Machine.execKeyErase st flags body s
  | .keyInfo st flags body => Sys2Proof.Machine.execKeyInfo st flags body s
  | .keyPublic st flags body => Sys2Proof.Machine.execKeyPublic st flags body s
  | .chainExtend st flags body => Sys2Proof.Machine.execChainExtend st flags body s
  | .chainFreeze st flags body => Sys2Proof.Machine.execChainFreeze st flags body s
  | .chainRead st flags body => Sys2Proof.Machine.execChainRead st flags body s
  | .logRead st flags body => Sys2Proof.Machine.execLogRead st flags body s
  | .quote st flags body => Sys2Proof.Machine.execQuote st flags body s
  | .identityRead st flags body => Sys2Proof.Machine.execIdentityRead st flags body s
  | .updateOpen st flags body => Sys2Proof.Machine.execUpdateOpen st flags body s
  | .updateData st flags body => Sys2Proof.Machine.execUpdateData st flags body s
  | .updateAbort st flags body => Sys2Proof.Machine.execUpdateAbort st flags body s
  | .targetPrepare st flags body => Sys2Proof.Machine.execTargetPrepare st flags body s
  | .targetList st flags body => Sys2Proof.Machine.execTargetList st flags body s
  | .targetDiscard st flags body => Sys2Proof.Machine.execTargetDiscard st flags body s
  | .targetActivate st flags body => Sys2Proof.Machine.execTargetActivate st flags body s
  | .bootQuery st flags body => Sys2Proof.Machine.execBootQuery st flags body s
  | .bootConfirm st flags body => Sys2Proof.Machine.execBootConfirm st flags body s
  | .floorRead st flags body => Sys2Proof.Machine.execFloorRead st flags body s
  | .credSet st flags body => Sys2Proof.Machine.execCredSet st flags body s
  | .credVerify st flags body => Sys2Proof.Machine.execCredVerify st flags body s
  | .credRelease st flags body => Sys2Proof.Machine.execCredRelease st flags body s
  | .credClear st flags body => Sys2Proof.Machine.execCredClear st flags body s
  | .credInfo st flags body => Sys2Proof.Machine.execCredInfo st flags body s
  | .grantDrop st flags body => Sys2Proof.Machine.execGrantDrop st flags body s
  | .unknownRequestFrame st code flags body => Sys2Proof.Machine.execUnknownRequestFrame st code flags body s
  | .keyGenerateJobStart => Sys2Proof.Machine.execKeyGenerateJobStart s
  | .keyGenerateJobEnd => Sys2Proof.Machine.execKeyGenerateJobEnd s
  | .keyImportJobStart => Sys2Proof.Machine.execKeyImportJobStart s
  | .keyImportJobEnd => Sys2Proof.Machine.execKeyImportJobEnd s
  | .keyDeriveJobStart => Sys2Proof.Machine.execKeyDeriveJobStart s
  | .keyDeriveJobEnd => Sys2Proof.Machine.execKeyDeriveJobEnd s
  | .keySignJobStart => Sys2Proof.Machine.execKeySignJobStart s
  | .keySignJobEnd => Sys2Proof.Machine.execKeySignJobEnd s
  | .keyVerifyJobStart => Sys2Proof.Machine.execKeyVerifyJobStart s
  | .keyVerifyJobEnd => Sys2Proof.Machine.execKeyVerifyJobEnd s
  | .keyEraseJobStart => Sys2Proof.Machine.execKeyEraseJobStart s
  | .keyEraseJobEnd => Sys2Proof.Machine.execKeyEraseJobEnd s
  | .chainExtendJobStart => Sys2Proof.Machine.execChainExtendJobStart s
  | .chainExtendJobEnd => Sys2Proof.Machine.execChainExtendJobEnd s
  | .quoteJobStart => Sys2Proof.Machine.execQuoteJobStart s
  | .quoteJobEnd => Sys2Proof.Machine.execQuoteJobEnd s
  | .updateOpenJobStart => Sys2Proof.Machine.execUpdateOpenJobStart s
  | .updateOpenJobEnd => Sys2Proof.Machine.execUpdateOpenJobEnd s
  | .updateDataJobStart => Sys2Proof.Machine.execUpdateDataJobStart s
  | .updateDataJobEnd => Sys2Proof.Machine.execUpdateDataJobEnd s
  | .targetActivateJobStart => Sys2Proof.Machine.execTargetActivateJobStart s
  | .targetActivateJobEnd => Sys2Proof.Machine.execTargetActivateJobEnd s
  | .bootConfirmJobStart => Sys2Proof.Machine.execBootConfirmJobStart s
  | .bootConfirmJobEnd => Sys2Proof.Machine.execBootConfirmJobEnd s
  | .credSetJobStart => Sys2Proof.Machine.execCredSetJobStart s
  | .credSetJobEnd => Sys2Proof.Machine.execCredSetJobEnd s
  | .credVerifyJobStart => Sys2Proof.Machine.execCredVerifyJobStart s
  | .credVerifyChargeWritten => Sys2Proof.Machine.execCredVerifyChargeWritten s
  | .credVerifyJobEnd => Sys2Proof.Machine.execCredVerifyJobEnd s
  | .credReleaseJobStart => Sys2Proof.Machine.execCredReleaseJobStart s
  | .credReleaseJobEnd => Sys2Proof.Machine.execCredReleaseJobEnd s
  | .credClearJobStart => Sys2Proof.Machine.execCredClearJobStart s
  | .credClearJobEnd => Sys2Proof.Machine.execCredClearJobEnd s
  | .settingsWriteJobStart => Sys2Proof.Machine.execSettingsWriteJobStart s
  | .settingsWriteJobEnd => Sys2Proof.Machine.execSettingsWriteJobEnd s
  | .trialAccountJobStart => Sys2Proof.Machine.execTrialAccountJobStart s
  | .trialAccountJobEnd => Sys2Proof.Machine.execTrialAccountJobEnd s
  | .ownerResetJobStart => Sys2Proof.Machine.execOwnerResetJobStart s
  | .ownerResetJobEnd => Sys2Proof.Machine.execOwnerResetJobEnd s
  | .storeWriteComplete => Sys2Proof.Machine.execStoreWriteComplete s
  | .storeWriteFailed landed => Sys2Proof.Machine.execStoreWriteFailed landed s
  | .decisecondTick button => Sys2Proof.Machine.execDecisecondTick button s
  | .decayTick button => Sys2Proof.Machine.execDecayTick button s
  | .lockoutEnd id button => Sys2Proof.Machine.execLockoutEnd id button s
  | .grantExpiry st button => Sys2Proof.Machine.execGrantExpiry st button s
  | .idleDeadlineExpiry button => Sys2Proof.Machine.execIdleDeadlineExpiry button s
  | .trialTimerExpiry button => Sys2Proof.Machine.execTrialTimerExpiry button s
  | .gapTimeout button => Sys2Proof.Machine.execGapTimeout button s
  | .socrstPulseEnd button => Sys2Proof.Machine.execSocrstPulseEnd button s
  | .buttonHoldEvent => Sys2Proof.Machine.execButtonHoldEvent s
  | .socResetSensed => Sys2Proof.Machine.execSocResetSensed s
  | .partReset input => Sys2Proof.Machine.execPartReset input s
  | .addressCharacter value => Sys2Proof.Machine.execAddressCharacter value s
  | .dataCharacter value => Sys2Proof.Machine.execDataCharacter value s
  | .badCharacter kind => Sys2Proof.Machine.execBadCharacter kind s
  | .txItemEnd => Sys2Proof.Machine.execTxItemEnd s
  | .socrstSenseReleased => Sys2Proof.Machine.execSocrstSenseReleased s
  | .powerLost landed => Sys2Proof.Machine.execPowerLost landed s
  | .startUpEnd senseLow => Sys2Proof.Machine.execStartUpEnd senseLow s

end Sys2Proof.Machine
end

