-- ==== Sys2Proof/Machine/Step.lean ====
section
/-! DEFINITION. One step: the command at the front of the queue is carried out; with none, the part idles. -/

namespace Sys2Proof.Machine

open Sys2Proof

/-- The state with another queue of waiting commands. -/
def State.withPending (s : State) (pending : List Instr) : State := { s with pending }

/-- Takes the command at the front of the queue; on an empty queue the part idles. DESIGN CHOICE, log 4 and 27; safe.
-/
def step (s : State) : Host.Outcome State Fault Refusal :=
  match s.pending with
  | [] => .next s
  | c :: rest => exec c (s.withPending rest)

/-- The state with the command that a word of the table spells at the front of its queue; no row gives bits, so no
word spells one. -/
def State.withFetchWord (s : State) (nbits w : Nat) : State :=
  match decodeTableWord nbits w with
  | some c => s.withPending (c :: s.pending)
  | none => s

end Sys2Proof.Machine
end

