-- ==== Sys2Proof/WellFormed.lean ====
section
/-! DEFINITION. Which commands can arrive: a body no longer than the line interface takes (R183), and an unknown
request frame that carries a code the part does not know (R206). -/

namespace Sys2Proof

/-- The body of a frame command, where the command is one. -/
def Instr.frameBody? : Instr → Option (List Byte)
  | .fetch _ _ body => some body
  | .abort _ _ body => some body
  | .status _ _ body => some body
  | .conditions _ _ body => some body
  | .clearConditions _ _ body => some body
  | .setNoticeMask _ _ body => some body
  | .closeStage _ _ body => some body
  | .settingsRead _ _ body => some body
  | .settingsWrite _ _ body => some body
  | .ownerReset _ _ body => some body
  | .keyGenerate _ _ body => some body
  | .keyImport _ _ body => some body
  | .keySign _ _ body => some body
  | .keyVerify _ _ body => some body
  | .keyDerive _ _ body => some body
  | .keyErase _ _ body => some body
  | .keyInfo _ _ body => some body
  | .keyPublic _ _ body => some body
  | .chainExtend _ _ body => some body
  | .chainFreeze _ _ body => some body
  | .chainRead _ _ body => some body
  | .logRead _ _ body => some body
  | .quote _ _ body => some body
  | .identityRead _ _ body => some body
  | .updateOpen _ _ body => some body
  | .updateData _ _ body => some body
  | .updateAbort _ _ body => some body
  | .targetPrepare _ _ body => some body
  | .targetActivate _ _ body => some body
  | .targetDiscard _ _ body => some body
  | .targetList _ _ body => some body
  | .bootQuery _ _ body => some body
  | .bootConfirm _ _ body => some body
  | .floorRead _ _ body => some body
  | .credSet _ _ body => some body
  | .credVerify _ _ body => some body
  | .credRelease _ _ body => some body
  | .credClear _ _ body => some body
  | .credInfo _ _ body => some body
  | .grantDrop _ _ body => some body
  | .unknownRequestFrame _ _ _ body => some body
  | .keyGenerateJobStart => none
  | .keyGenerateJobEnd => none
  | .keyImportJobStart => none
  | .keyImportJobEnd => none
  | .keyDeriveJobStart => none
  | .keyDeriveJobEnd => none
  | .keySignJobStart => none
  | .keySignJobEnd => none
  | .keyVerifyJobStart => none
  | .keyVerifyJobEnd => none
  | .keyEraseJobStart => none
  | .keyEraseJobEnd => none
  | .chainExtendJobStart => none
  | .chainExtendJobEnd => none
  | .quoteJobStart => none
  | .quoteJobEnd => none
  | .updateOpenJobStart => none
  | .updateOpenJobEnd => none
  | .updateDataJobStart => none
  | .updateDataJobEnd => none
  | .targetActivateJobStart => none
  | .targetActivateJobEnd => none
  | .bootConfirmJobStart => none
  | .bootConfirmJobEnd => none
  | .credSetJobStart => none
  | .credSetJobEnd => none
  | .credVerifyJobStart => none
  | .credVerifyChargeWritten => none
  | .credVerifyJobEnd => none
  | .credReleaseJobStart => none
  | .credReleaseJobEnd => none
  | .credClearJobStart => none
  | .credClearJobEnd => none
  | .settingsWriteJobStart => none
  | .settingsWriteJobEnd => none
  | .trialAccountJobStart => none
  | .trialAccountJobEnd => none
  | .ownerResetJobStart => none
  | .ownerResetJobEnd => none
  | .storeWriteComplete => none
  | .storeWriteFailed _ => none
  | .decisecondTick _ => none
  | .decayTick _ => none
  | .lockoutEnd _ _ => none
  | .grantExpiry _ _ => none
  | .idleDeadlineExpiry _ => none
  | .trialTimerExpiry _ => none
  | .gapTimeout _ => none
  | .socrstPulseEnd _ => none
  | .buttonHoldEvent => none
  | .socResetSensed => none
  | .partReset _ => none
  | .addressCharacter _ => none
  | .dataCharacter _ => none
  | .badCharacter _ => none
  | .txItemEnd => none
  | .socrstSenseReleased => none
  | .powerLost _ => none
  | .startUpEnd _ => none

/-- The body of a frame is at most 1,100 bytes: a longer one is refused as it arrives (R183, R186). -/
def Instr.bodyFits (c : Instr) : Bool :=
  match c.frameBody? with
  | some body => decide (body.length ≤ Config.bodyCap)
  | none => true

/-- The code of an unknown request frame is none that the part knows (R206). -/
def Instr.codeUnknown (c : Instr) : Bool :=
  match c with
  | .unknownRequestFrame _ code _ _ => (ReqCode.ofByte code).isNone
  | _ => true

/-- The command can arrive as it stands. -/
def Instr.wellFormed (c : Instr) : Bool := c.bodyFits && c.codeUnknown

end Sys2Proof
end

