-- ==== Sys2Proof/Safety.lean ====
section
/-! DEFINITION. What claims are said in: when a request is taken and a job may start or end, what the state is after
it, and the laws that the spec says the part keeps. -/

namespace Sys2Proof.Machine

open Sys2Proof

/-! ### Requests -/

/-- A frame of the station reaches the order of checks: the part runs, the transmitter has room, and the station is
OPEN with no request in hand and an empty reply slot (R164, R187). -/
abbrev MaySend (st : Station) (s : State) : Prop :=
  s.power = .on ∧ s.txNext = none ∧ (s.stations.get st).state = .opened ∧ (s.stations.get st).slot = none
    ∧ requestState st s = .idle

/-- A frame of the station with good flags reaches check 2, and the part is not in FAULT mode (R165). -/
abbrev Ready (st : Station) (flags : Byte) (s : State) : Prop := MaySend st s ∧ flagsOk flags = true ∧ s.fault = false

/-- The body of a KEY_GENERATE, or of a KEY_IMPORT up to its material (R206). -/
def creatingBody (slot kind usage mask options binding chain : Byte) (value : Bytes 32) : List Byte :=
  [slot, kind, usage, mask, options, binding, chain] ++ value.list

/-- What the use checks at take answer when one of them fails: the slot that byte `b` names, the usage `bit`, the
station mask (R10). -/
def UseRefused (b : Byte) (bit : Nat) (st : Station) (s : State) (r : Result) : Prop :=
  (64 ≤ b.toNat ∧ r = .badArgument)
    ∨ ∃ slot : Slot, b = byte slot ∧
      (((∀ k, s.keys.get slot ≠ .active k) ∧ r = .slotEmpty)
        ∨ ∃ k, s.keys.get slot = .active k
          ∧ ((hasBit k.usage bit = false ∧ r = .keyUsage)
            ∨ (hasBit k.usage bit = true ∧ hasBit k.mask st = false ∧ r = .notPermitted)))

/-- The use checks at take pass for the key in a slot (R10). -/
abbrev MayUse (slot : Slot) (bit : Nat) (st : Station) (k : KeyRecord) (s : State) : Prop :=
  s.keys.get slot = .active k ∧ hasBit k.usage bit = true ∧ hasBit k.mask st = true

/-- The state after a request that is answered at take: the receipt TAKEN, the reply in the station's slot, ATTN
recomputed. `s` is the state with the request's own changes. -/
def answered (st : Station) (r : Result) (c : ReqCode) (body : List Byte) (flags : Byte) (s : State) : State :=
  recomputeAttn (giveReceipt .taken (placeReply st r c.toByte body (hasBit flags 0) s))

/-- The state after an engine request has been taken: the receipt TAKEN, the job at the end of the queue. `s` is the
state with the request's own changes. -/
def queued (st : Station) (w : Work) (flags : Byte) (s : State) : State :=
  recomputeAttn (giveReceipt .taken (enqueue st (hasBit flags 0) w s))

/-! ### Jobs -/

/-- A station job. -/
abbrev stationJob (st : Station) (quiet : Bool) (w : Work) : Job := .station { station := st, quiet, work := w }

/-- The engine's next event is the start of the job at the front of the queue (R174). -/
abbrev MayStart (j : Job) (rest : List Job) (s : State) : Prop :=
  s.power = .on ∧ s.fault = false ∧ s.running = none ∧ s.queue = j :: rest

/-- The running job, with nothing gone by. -/
abbrev fresh (j : Job) (todo : List JobStep) (d : JobData) (outcomes : List ActionOutcome) : Running :=
  { job := j, crossed := false, dropped := false, todo, data := d, outcomes }

/-- The state after a job has started and passed its checks. -/
def started (j : Job) (rest : List Job) (todo : List JobStep) (d : JobData) (s : State) : State :=
  recomputeAttn { s with queue := rest, running := some (fresh j todo d []) }

/-- The state after a station's job has started and been refused: its reply is placed. `s` is the state with what the
refusal undoes. -/
def turnedDown (st : Station) (r : Result) (c : ReqCode) (body : List Byte) (quiet : Bool) (rest : List Job)
    (s : State) : State :=
  recomputeAttn (placeReply st r c.toByte body quiet { s with queue := rest, running := none })

/-- The state after a station's job has ended: the engine is free and the reply is placed. `s` is the state with the
job's own effects. -/
def ended (st : Station) (r : Result) (c : ReqCode) (body : List Byte) (quiet : Bool) (s : State) : State :=
  recomputeAttn (placeReply st r c.toByte body quiet { s with running := none })

/-- The slot holds the key with the noted fingerprint, and the key's bound chain holds its bound value (R11, R14). -/
abbrev KeyFit (slot : Slot) (noted : Bytes 32) (k : KeyRecord) (s : State) : Prop :=
  s.keys.get slot = .active k ∧ k.fingerprint = noted
    ∧ ∀ b, k.binding = some b → (s.chains.get b.chain).value = b.value

/-- What a job that uses a key answers when the key fails its checks at job start (R11, R14). -/
def KeyUnfit (slot : Slot) (noted : Bytes 32) (s : State) (r : Result) : Prop :=
  ((∀ k, s.keys.get slot = .active k → k.fingerprint ≠ noted)
      ∧ ((noted ∈ s.revoked ∧ r = .revoked) ∨ (noted ∉ s.revoked ∧ r = .slotEmpty)))
    ∨ ∃ k b, s.keys.get slot = .active k ∧ k.fingerprint = noted ∧ k.binding = some b
        ∧ (s.chains.get b.chain).value ≠ b.value ∧ r = .bindingMismatch

/-! ### Deferred actions -/

/-- A deferred action applies, for an image that the slot `signer` has signed (R98). -/
def ActionApplies (a : Action) (signer : Slot) (s : State) : Prop :=
  match a with
  | .revoke n => ∃ (slot : Slot) (k : KeyRecord), slot.val = n ∧ n < 6 ∧ s.keys.get slot = .active k ∧ slot ≠ signer
      ∧ s.revoked.length < 32
      ∧ ∃ (x : Slot) (j : KeyRecord), x ≠ slot ∧ x.val < 6 ∧ s.keys.get x = .active j ∧ hasBit j.usage 3 = true
  | .install n key => ∃ slot : Slot, slot.val = n ∧ n < 6 ∧ s.keys.get slot = .empty ∧ digest key.list ∉ s.revoked
      ∧ ∀ (x : Slot) (j : KeyRecord), s.keys.get x = .active j → j.fingerprint ≠ digest key.list

/-- What an action that has applied leaves of the key table, the revocation list and its conditions, in working state
and in the store (R6, R8, R99). -/
def ActionDone (a : Action) (s t : State) : Prop :=
  t.conditions.get 4 = s.conditions.get 4 ∧
  match a with
  | .revoke n => ∀ (slot : Slot) (k : KeyRecord), slot.val = n → s.keys.get slot = .active k →
      t.keys = s.keys.set slot .empty ∧ t.store.keys = s.store.keys.set slot none
        ∧ t.revoked = s.revoked ++ [k.fingerprint] ∧ t.store.revocation = s.revoked ++ [k.fingerprint]
        ∧ t.conditions.get 3 = some s.time.uptime
        ∧ ∀ (i : TargetNo) (x : Target), t.targets.get i = some x → x.signer ≠ slot
  | .install n key => ∀ slot : Slot, slot.val = n →
      let vendor : KeyRecord :=
        { material := .verifying key, origin := .update, persistence := .persistent, usage := 8, mask := 7,
          binding := none, ownerHeld := false, fingerprint := digest key.list, label := [] }
      t.keys = s.keys.set slot (.active vendor) ∧ t.store.keys = s.store.keys.set slot (some vendor)
        ∧ t.revoked = s.revoked ∧ t.store.revocation = s.store.revocation
        ∧ t.conditions.get 3 = s.conditions.get 3

/-- What a skipped action leaves: the key table and the revocation list as they were, ACTION_SKIPPED raised (R99). -/
def ActionSkipped (s t : State) : Prop :=
  t.keys = s.keys ∧ t.store.keys = s.store.keys ∧ t.revoked = s.revoked ∧ t.store.revocation = s.store.revocation
    ∧ t.conditions.get 3 = s.conditions.get 3 ∧ t.conditions.get 4 = some s.time.uptime

/-! ### The sweep -/

/-- What the sweep for a revoked or erased slot leaves of a stream (R83). -/
def Stream.afterSlot (slot : Slot) (x : Stream) : Stream :=
  match x with
  | .receiving m limit n _ _ => if m.signer = slot then .failed m.raw limit n .revoked else x
  | .absorbing m limit n _ => if m.signer = slot then .failed m.raw limit n .revoked else x
  | .verified m limit n => if m.signer = slot then .failed m.raw limit n .revoked else x
  | other => other

/-- What the sweep for a class's floor leaves of a stream (R82). -/
def Stream.afterFloor (c : ClassNo) (floor : Nat) (x : Stream) : Stream :=
  match x with
  | .receiving m limit n _ _ => if m.cls = c ∧ m.version < floor then .failed m.raw limit n .rollback else x
  | .absorbing m limit n _ => if m.cls = c ∧ m.version < floor then .failed m.raw limit n .rollback else x
  | .verified m limit n => if m.cls = c ∧ m.version < floor then .failed m.raw limit n .rollback else x
  | other => other

/-! ### The part's own extensions -/

/-- The part has extended a chain with a marker record: its value, its count up to 65,535, its flags and the log are
as the extension leaves them, and no other chain has changed (R34, R35, R38, R41). -/
def PartExtended (c : ChainNo) (marker : List Byte) (s t : State) : Prop :=
  let measurement := digest marker
  let old := s.chains.get c
  t.chains.get c =
      { value := digest (old.value.list ++ measurement.list), count := min (old.count + 1) 65535, frozen := old.frozen
        logIncomplete := old.logIncomplete || decide (128 ≤ s.log.length) }
    ∧ (∀ x, x ≠ c → t.chains.get x = s.chains.get x)
    ∧ t.log = if s.log.length < 128 then
        s.log ++ [{ chain := c, measurement, tag := marker, station := none, uptime := s.time.uptime }] else s.log

/-! ### Start-up -/

/-- A part without power, whose start can be counted (R52, R203). -/
abbrev MayStartUp (s : State) : Prop := s.power = .off ∧ s.store.partResets < 4294967295

/-- The class record is STEADY and holds no deferred action: start-up has nothing to finish for it (R97, R105). -/
abbrev ClassRecord.AtRest (r : ClassRecord) : Prop := r.state = .steady ∧ r.deferred = []

/-- A stored key record that start-up keeps: one whose fingerprint the revocation list does not hold (R29). -/
def keptKey (slot : Slot) (s : State) : Option KeyRecord :=
  (s.store.keys.get slot).filter fun k => !s.store.revocation.contains k.fingerprint

/-- What the steps of start-up leave that every part takes, before the end of start-up: the store loaded, revoked slots
removed, the start counted and lockouts imposed again; nothing else is to finish (R29, R52, R134, R147, R203). -/
def upFrom (s : State) : State :=
  { State.blank s.pending (.startUp false)
      { s.store with partResets := s.store.partResets + 1, keys := .ofFn fun slot => keptKey slot s } s.entropy with
    keys := .ofFn fun slot => (keptKey slot s).elim .empty .active
    revoked := s.store.revocation
    creds := .ofFn fun id => match s.store.creds.get id with
      | none => .empty
      | some c => .held
        { contents := c.contents, penalty := c.penalty, streak := c.streak,
          lockout := if lockoutDelay c.penalty = 0 then .absent else .pending (lockoutDelay c.penalty) }
    classes := .ofFn fun c => some (s.store.classes.get c)
    partResets := s.store.partResets + 1
    certificate := some s.store.certificate
    settings := s.store.settings }

/-- Commands carried out one after the other. -/
def execAll : List Instr → State → Host.Outcome State Fault Refusal
  | [], s => .next s
  | c :: rest, s =>
    match exec c s with
    | .next t => execAll rest t
    | .fault r => .fault r
    | .refused r => .refused r

/-! ### The laws -/

/-- ATTN stands at the level that its rule gives (R171). -/
abbrev AttnLaw (s : State) : Prop := s.attn = attnLevel s

/-- The value that replaying a chain's log entries from zero gives (R40). -/
def replay (c : ChainNo) (log : List LogEntry) : Bytes 32 :=
  (log.filter fun e => e.chain == c).foldl (fun v e => extendedValue v e.measurement) (.replicate 32 0)

/-- The replay law (R40): a chain whose log-incomplete flag is clear replays to its value, and its extend count is the
number of its entries, so that a chain with a saturated count has its flag set. With it goes what a running extension
has to do with it: it has no step left, and the value it has computed extends the chain's present value. -/
def EvidenceLaw (s : State) : Prop :=
  s.log.length ≤ Config.logCap
    ∧ (∀ c : ChainNo, (s.chains.get c).logIncomplete = false →
        (s.chains.get c).value = replay c s.log
          ∧ (s.chains.get c).count = s.log.countP fun e => e.chain == c)
    ∧ ∀ r st quiet c m tag v, s.running = some r → r.job = stationJob st quiet (.chainExtend c m tag) →
        r.data = .chainValue v → r.crossed = false → r.todo = [] ∧ v = extendedValue (s.chains.get c).value m

/-- The law of the engine: each station has at most one request in hand, and then an empty reply slot; at most one
internal job of a kind waits; in FAULT mode, and while the part does not run, no job waits or runs (R164, R173, R177,
R179). -/
def EngineLaw (s : State) : Prop :=
  (∀ st : Station, s.queue.countP (fun j => j.holder == some st)
      + (if s.running.bind Running.holder = some st then 1 else 0) ≤ 1)
    ∧ (∀ st : Station, requestState st s ≠ .idle → (s.stations.get st).slot = none)
    ∧ s.queue.countP (fun j => j == .trialAccount) ≤ 1
    ∧ s.queue.countP Job.isOwnerReset ≤ 1
    ∧ (s.fault = true → s.queue = [] ∧ s.running = none)
    ∧ (s.power ≠ .on → s.queue = [] ∧ s.running = none)

/-- A lockout's remaining delay lies within 1..36,000 ds (R141, R152). -/
def Lockout.within (l : Lockout) (now : Count) : Prop :=
  match l with
  | .absent => True
  | .deadline d => 1 ≤ (d - now).toNat ∧ (d - now).toNat ≤ Config.lockoutCap
  | .pending delay => 1 ≤ delay ∧ delay ≤ Config.lockoutCap

/-- The law of the governor: penalties within 0..1,023, streaks within 0..255, remaining delays within 1..36,000 ds, no
stored penalty below the working one, and no deadline while the part does not run (R138, R143, R145, R147). -/
def GovernorLaw (s : State) : Prop :=
  (∀ id r, s.creds.get id = .held r →
      r.penalty ≤ Config.penaltyCap ∧ r.streak ≤ Config.streakCap ∧ r.lockout.within s.time.uptime
        ∧ (s.power ≠ .on → ∀ d, r.lockout ≠ .deadline d)
        ∧ ∀ c, s.store.creds.get id = some c → r.penalty ≤ c.penalty)
    ∧ ∀ id c, s.store.creds.get id = some c → c.penalty ≤ Config.penaltyCap ∧ c.streak ≤ Config.streakCap

/-- The law of the key table: no ACTIVE key is revoked, and two ACTIVE slots share no fingerprint, unless both keys are
the factory's, whose bytes are free values. With it goes what a running creating job has to do with it: its key's
fingerprint is free, and it has no other step left than its record's write (R4). -/
def KeyLaw (s : State) : Prop :=
  (∀ slot k, s.keys.get slot = .active k → k.fingerprint ∉ s.revoked)
    ∧ (∀ a b j k, s.keys.get a = .active j → s.keys.get b = .active k → a ≠ b →
        ¬(j.origin = .factory ∧ k.origin = .factory) → j.fingerprint ≠ k.fingerprint)
    ∧ ∀ r k, s.running = some r → r.data = .key k →
        fingerprintFree k.fingerprint s = true ∧ ∀ x ∈ r.todo, ∃ slot, x = .keyRecord slot

/-- No two factory keys share a fingerprint. It is of the factory's bytes, which are free values (log 9): the part does
not see to it, and no command makes another factory key. -/
def FactoryKeysDiffer (s : State) : Prop :=
  ∀ a b j k, s.keys.get a = .active j → s.keys.get b = .active k → a ≠ b →
    j.origin = .factory → k.origin = .factory → j.fingerprint ≠ k.fingerprint

/-- The revocation list, and its stored copy, hold at most 32 fingerprints (R7). -/
def RevocationLaw (s : State) : Prop :=
  s.revoked.length ≤ Config.revocationCap ∧ s.store.revocation.length ≤ Config.revocationCap

/-! ### Kinds of commands -/

/-- Whether a command is a request frame. -/
def isFrame (c : Instr) : Bool := c.frameBody?.isSome

/-- The station a frame is for. -/
def frameStation : Instr → Option Station
  | .fetch st _ _ | .abort st _ _ | .status st _ _ | .conditions st _ _ | .clearConditions st _ _
  | .setNoticeMask st _ _ | .closeStage st _ _ | .settingsRead st _ _ | .settingsWrite st _ _ | .ownerReset st _ _
  | .keyGenerate st _ _ | .keyImport st _ _ | .keySign st _ _ | .keyVerify st _ _ | .keyDerive st _ _
  | .keyErase st _ _ | .keyInfo st _ _ | .keyPublic st _ _ | .chainExtend st _ _ | .chainFreeze st _ _
  | .chainRead st _ _ | .logRead st _ _ | .quote st _ _ | .identityRead st _ _ | .updateOpen st _ _
  | .updateData st _ _ | .updateAbort st _ _ | .targetPrepare st _ _ | .targetActivate st _ _ | .targetDiscard st _ _
  | .targetList st _ _ | .bootQuery st _ _ | .bootConfirm st _ _ | .floorRead st _ _ | .credSet st _ _
  | .credVerify st _ _ | .credRelease st _ _ | .credClear st _ _ | .credInfo st _ _ | .grantDrop st _ _
  | .unknownRequestFrame st _ _ _ => some st
  | _ => none

/-- Whether a command ends a job. -/
def isJobEnd : Instr → Bool
  | .keyGenerateJobEnd | .keyImportJobEnd | .keyDeriveJobEnd | .keySignJobEnd | .keyVerifyJobEnd | .keyEraseJobEnd
  | .chainExtendJobEnd | .quoteJobEnd | .updateOpenJobEnd | .updateDataJobEnd | .targetActivateJobEnd
  | .bootConfirmJobEnd | .credSetJobEnd | .credVerifyJobEnd | .credReleaseJobEnd | .credClearJobEnd
  | .settingsWriteJobEnd | .trialAccountJobEnd | .ownerResetJobEnd => true
  | _ => false

/-- Whether a command may write the store: a job's end, the outcome of a store write, a loss of power or a part reset
(R176). -/
def mayWrite (c : Instr) : Bool :=
  isJobEnd c || match c with
    | .storeWriteComplete | .storeWriteFailed _ | .credVerifyChargeWritten | .powerLost _ | .partReset _ => true
    | _ => false

/-- What a command has the sense sampler read of SOCRST_SENSE, `true` where it is low (R155). -/
def senseSamples : Instr → List Bool
  | .socResetSensed => [true, true]
  | .socrstSenseReleased => [false, false]
  | .decisecondTick p | .decayTick p | .lockoutEnd _ p | .grantExpiry _ p | .idleDeadlineExpiry p
  | .trialTimerExpiry p | .gapTimeout p | .socrstPulseEnd p => p.sense
  | _ => []

/-- Whether samples bring a sampler in a state and with a last sample from RELEASED to ASSERTED (R155). -/
def movesToAsserted (asserted last : Bool) : List Bool → Bool
  | [] => false
  | low :: rest => if low = last ∧ low ≠ asserted then low || movesToAsserted low low rest
      else movesToAsserted asserted low rest

/-- Whether a SoC reset is sensed at a command (R155). -/
def sensesReset (c : Instr) (s : State) : Bool :=
  s.power == .on && movesToAsserted s.time.senseAsserted s.time.senseLow (senseSamples c)

/-- Whether a command is a part reset. -/
def isPartReset : Instr → Bool
  | .partReset _ => true
  | _ => false

/-- Whether a command takes the part's power away, for good or for a reset. -/
def endsPower : Instr → Bool
  | .partReset _ => true
  | .powerLost _ => true
  | _ => false

end Sys2Proof.Machine
end

