-- ==== Sys2Proof/Certificates/Slice0/Obligations.lean ====
section
/-! DEFINITION. The statements for the provers. -/

open Sys2Proof Sys2Proof.Machine

/-! ### The queue of commands and the part after reset -/

/-- One step takes the command at the front of the queue and carries it out with the queue's rest; with no command
waiting the part idles. The queue of commands, that a step takes its front and that an empty one idles are the model's
choices (log entries 4 and 27); the engine's queue of jobs in section 9.8 is only the like of it. -/
def Obligations.StepTakesFrontCommand : Prop :=
  (∀ (c : Instr) (rest : List Instr) (s : State), step (s.withPending (c :: rest)) = exec c (s.withPending rest))
    ∧ ∀ s : State, s.pending = [] → step s = .next s

/-- What the part holds right after reset, group by group; the factory's keys in slots 0 to 3 as the table of R5 gives
them, every other slot EMPTY; and a shipped part without power that is reset, with nothing going wrong, is this part
once start-up has ended. That the state after reset is the end of the first start-up of a shipped part is the model's
choice (log entry 10). -/
def Obligations.ResetLeavesShippedPart : Prop :=
  ((∀ st, State.reset.stations.get st
        = { state := if st = 0 then .opened else .waiting, slot := none, masked := false, grant := none })
      ∧ State.reset.globalMask = false ∧ State.reset.queue = [] ∧ State.reset.running = none
      ∧ State.reset.fault = false ∧ State.reset.attn = false ∧ State.reset.line = .ignoring
      ∧ (∀ c, State.reset.chains.get c
          = { value := .replicate 32 0, count := 0, frozen := false, logIncomplete := false })
      ∧ State.reset.log = [] ∧ State.reset.revoked = [] ∧ State.reset.time.uptime = 0
      ∧ State.reset.partResets = 1 ∧ State.reset.socResets = 0
      ∧ State.reset.stream = .closed ∧ (∀ i, State.reset.targets.get i = none)
      ∧ State.reset.timer = .stopped ∧ State.reset.hold = false
      ∧ (∀ id, State.reset.creds.get id = .empty) ∧ (∀ k, State.reset.conditions.get k = none)
      ∧ State.reset.settings = { addressBase := 96, trialWindow := 6000, grantWindow := 3000, buttonHold := 100,
                                 enables := 0x07FE }
      ∧ (∀ c, ∃ r, State.reset.classes.get c = some r ∧ r.floor = 1 ∧ r.active = .a ∧ r.state = .steady
          ∧ r.imageB = none ∧ ∃ i, r.imageA = some i ∧ i.version = 1 ∧ i.stale = false)
      ∧ ∀ slot : Slot, 4 ≤ slot.val → State.reset.keys.get slot = .empty)
    ∧ (∀ slot : Slot, if 4 ≤ slot.val then State.reset.keys.get slot = .empty else
        ∃ k, State.reset.keys.get slot = .active k ∧ k.origin = .factory ∧ k.persistence = .persistent
          ∧ k.binding = none ∧ k.ownerHeld = false ∧ k.label = [] ∧ k.fingerprint = k.material.fingerprint
          ∧ (slot = 0 → k.material.kind = .signing ∧ k.usage = 0x02 ∧ k.mask = 0x0F)
          ∧ (slot = 1 → k.material.kind = .signing ∧ k.usage = 0x01 ∧ k.mask = 0x0C)
          ∧ (slot = 2 ∨ slot = 3 → k.material.kind = .verifying ∧ k.usage = 0x08 ∧ k.mask = 0x07))
    ∧ (execAll [.partReset { landed := false, bad := [], trouble := .none }, .startUpEnd false]
        (State.blank [] .off Store.shipped 0) = .next State.reset)

/-- No command changes the queue of waiting commands; the queue is the model's own (log entries 4 and 27). -/
def Obligations.ExecLeavesQueue : Prop :=
  ∀ (c : Instr) (s t : State), exec c s = .next t → t.pending = s.pending

/-! ### Receipts and the order of checks -/

/-- A frame met by NOT_OPEN, BUSY or HELD changes nothing but the line interface and the transmitter: the first line
of the receipt stage that applies decides. An UPDATE_ABORT that is not whole, or not station 2's, or finds no stream
job in hand, is met by BUSY like any other frame (R79, R164). -/
def Obligations.RefusedFramesLeaveNoTrace : Prop :=
  ∀ (st : Station) (code flags : Byte) (body : List Byte) (s : State),
    s.power = .on → s.txNext = none → body.length ≤ Config.bodyCap →
    ((s.stations.get st).state = .waiting ∨ (s.stations.get st).state = .closed ∧ code ≠ 1 ∧ code ≠ 3 →
        exec (Instr.ofFrame st code flags body) s = .next (recomputeAttn (giveReceipt .notOpen (lineIdle s))))
      ∧ ((s.stations.get st).state = .opened → code ≠ 1 → code ≠ 2 → code ≠ 50 → requestState st s ≠ .idle →
        exec (Instr.ofFrame st code flags body) s = .next (recomputeAttn (giveReceipt .busy (lineIdle s))))
      ∧ ((s.stations.get st).state = .opened → requestState st s ≠ .idle →
        (flags &&& 0xFE ≠ 0 ∨ body ≠ [] ∨ st ≠ 2
          ∨ (∀ q w, stationJob 2 q w ∈ s.queue → w ≠ .updateOpen ∧ ∀ chunk, w ≠ .updateData chunk)
            ∧ (∀ r q w, s.running = some r → r.job = stationJob 2 q w →
                w ≠ .updateOpen ∧ ∀ chunk, w ≠ .updateData chunk)) →
        exec (Instr.ofFrame st 50 flags body) s = .next (recomputeAttn (giveReceipt .busy (lineIdle s))))
      ∧ ((s.stations.get st).state = .opened → code ≠ 1 → code ≠ 2 → requestState st s = .idle →
        (s.stations.get st).slot ≠ none →
        exec (Instr.ofFrame st code flags body) s = .next (recomputeAttn (giveReceipt .held (lineIdle s))))

/-- Checks 1 to 6 of a frame whose receipt is TAKEN: the first that fails places its refusal, which echoes the code,
keeps QUIET and changes nothing else (R165). A frame of an unknown code, as the table's row has it, is answered
UNKNOWN_REQUEST with the code echoed (R165). -/
def Obligations.OrderOfChecks : Prop :=
  (∀ (st : Station) (code flags : Byte) (body : List Byte) (s : State),
      MaySend st s → body.length ≤ Config.bodyCap → code ≠ 1 → code ≠ 2 →
      let refused (r : Result) : Prop := exec (Instr.ofFrame st code flags body) s
        = .next (recomputeAttn (giveReceipt .taken (placeReply st r code [] (hasBit flags 0) (lineIdle s))))
      (flags &&& 0xFE ≠ 0 → refused .reservedBits)
        ∧ (flags &&& 0xFE = 0 → ReqCode.ofByte code = none → refused .unknownRequest)
        ∧ ∀ c, flags &&& 0xFE = 0 → ReqCode.ofByte code = some c →
          (lengthOk c body.length = false → refused .badLength)
            ∧ (lengthOk c body.length = true → permitted c st body = false → refused .notPermitted)
            ∧ (lengthOk c body.length = true → permitted c st body = true → s.fault = true →
                c ≠ .status → c ≠ .conditions → c ≠ .identityRead → refused .faulted)
            ∧ (lengthOk c body.length = true → permitted c st body = true → s.fault = false →
                needsGrant c st body s = true → (s.stations.get st).grant = none → refused .noGrant))
    ∧ (∀ (st : Station) (code flags : Byte) (body : List Byte) (s : State),
        Ready st flags s → body.length ≤ Config.bodyCap → ReqCode.ofByte code = none →
        exec (.unknownRequestFrame st code flags body) s
          = .next (recomputeAttn (giveReceipt .taken (placeReply st .unknownRequest code [] (hasBit flags 0) (lineIdle s)))))

/-- FETCH sends the reply of the station's slot and empties it, or NOTHING with the request state; a malformed FETCH
is answered with its refusal and leaves the slot (R168). A WAITING station gets NOT_OPEN. -/
def Obligations.FetchCollectsReply : Prop :=
  ∀ (st : Station) (flags : Byte) (body : List Byte) (s : State),
    s.power = .on → s.txNext = none → body.length ≤ Config.bodyCap →
    let sends (bytes : List Byte) (t : State) : Prop :=
      exec (.fetch st flags body) s = .next (recomputeAttn (handItem (.frame bytes) (lineIdle t)))
    ((s.stations.get st).state = .waiting →
        exec (.fetch st flags body) s = .next (recomputeAttn (giveReceipt .notOpen (lineIdle s))))
      ∧ ((s.stations.get st).state ≠ .waiting →
        (flags &&& 0xFE ≠ 0 → sends (replyFrame .reservedBits 1 []) s)
          ∧ (flags &&& 0xFE = 0 → body ≠ [] → sends (replyFrame .badLength 1 []) s)
          ∧ (flags &&& 0xFE = 0 → body = [] →
              (∀ r, (s.stations.get st).slot = some r →
                sends (replyFrame r.result r.code r.body)
                  { s with stations := s.stations.set st { s.stations.get st with slot := none } })
              ∧ ((s.stations.get st).slot = none → sends (replyFrame .nothing 1 [(requestState st s).toByte]) s)))

/-- ABORT of a running or absent request changes nothing but the receipt. ABORT of a waiting request that has nothing
to undo takes it out of the queue and places ABORTED; the other jobs keep their order (R172). ABORT of a waiting
request that has reserved something, wherever it waits and whatever job runs, gives it back: a creating request its
slot, a CRED_SET its id, a BOOT_CONFIRM its hold, a stream request its stream state (R9, R80, R101, R115). -/
def Obligations.AbortWithdrawsWaitingRequest : Prop :=
  (∀ (st : Station) (flags : Byte) (s : State),
      s.power = .on → s.txNext = none → flagsOk flags = true → (s.stations.get st).state = .opened →
      (requestState st s = .idle →
          exec (.abort st flags []) s = .next (recomputeAttn (giveReceipt .none (lineIdle s))))
        ∧ (requestState st s = .running →
          exec (.abort st flags []) s = .next (recomputeAttn (giveReceipt .running (lineIdle s))))
        ∧ ∀ before after quiet w, requestState st s = .waiting →
          s.queue = before ++ stationJob st quiet w :: after →
          (∀ j ∈ before ++ after, j.holder ≠ some st) →
          (w matches .keySign _ _ _ | .keyVerify _ _ _ _ | .keyErase _ _ | .chainExtend _ _ _ | .quote _ _ _ _
            | .targetActivate _ | .credVerify _ _ | .credRelease _ | .credClear _ | .settingsWrite _) →
          exec (.abort st flags []) s
            = .next (recomputeAttn (giveReceipt .removed (placeReply st .aborted w.code [] quiet
                (lineIdle { s with queue := before ++ after })))))
    ∧ (∀ (st : Station) (flags : Byte) (s : State) (quiet : Bool) (w : Work) (before after : List Job),
        s.power = .on → s.txNext = none → flagsOk flags = true → (s.stations.get st).state = .opened →
        requestState st s = .waiting → s.queue = before ++ stationJob st quiet w :: after →
        (∀ j ∈ before ++ after, j.holder ≠ some st) →
        ∃ t, exec (.abort st flags []) s = .next t ∧ t.queue = before ++ after ∧ t.running = s.running
          ∧ t.stations = s.stations.set st
              { s.stations.get st with
                slot := some { result := .aborted, code := w.code, body := [], notice := !quiet } }
          ∧ (∀ p kind, w = .keyGenerate p kind → s.keys.get p.slot = .reserved false → t.keys.get p.slot = .empty)
          ∧ (∀ p m b, w = .keyImport p m → s.keys.get p.slot = .reserved b → t.keys.get p.slot = .empty)
          ∧ (∀ parent fp d target usage mask label, w = .keyDerive parent fp d target usage mask label →
              s.keys.get target = .reserved false → t.keys.get target = .empty)
          ∧ (∀ p g, w = .credSet p false g → s.creds.get p.id = .reserved → t.creds.get p.id = .empty)
          ∧ (∀ c, w = .bootConfirm c → t.hold = false
              ∧ t.timer = (match s.timer with | .running _ true => .expired | other => other))
          ∧ (w = .updateOpen → t.stream = .closed)
          ∧ (∀ chunk m limit n absorbed, w = .updateData chunk → s.stream = .absorbing m limit n absorbed →
              t.stream = .receiving m limit n absorbed (s.time.uptime + 600))
          ∧ (∀ p, w = .settingsWrite p → t = { s with
              queue := before ++ after, stations := t.stations, line := .ignoring, gap := false, txNow := t.txNow
              txNext := t.txNext, attn := t.attn }))

/-! ### Immediate requests -/

/-- STATUS, CONDITIONS and IDENTITY_READ answer with their reports, in FAULT mode as at any other time; STATUS also from
a CLOSED station, byte by byte as R210 lays it out (R63, R169, R210). CONDITIONS gives each condition's raised field,
severity, the reporting enable of the stored settings and time, and ATTN (R194); that these are the failed record's bits
when the stored settings have failed their check is the model's choice (log entry 41). IDENTITY_READ gives a length of 0
without a certificate, and zeros for the key when slot 0 is not ACTIVE with a SIGNING key (R63, R210). -/
def Obligations.ReportsAreAnsweredInFaultMode : Prop :=
  (∀ (st : Station) (flags : Byte) (s : State),
    s.power = .on → s.txNext = none → (s.stations.get st).state ≠ .waiting → requestState st s = .idle →
    (s.stations.get st).slot = none → flagsOk flags = true →
    let station (x : Station) : Byte := match (s.stations.get x).state with | .waiting => 0 | .opened => 1 | .closed => 2
    let origin : Byte := match s.running with
      | none => 255
      | some r => match r.job with
        | .station j => if r.crossed then 32 else byte j.station
        | .trialAccount => 16
        | .ownerReset _ _ => 17
    let waiting : Nat := s.queue.countP fun j => match j with | .station _ => true | _ => false
    let internal : Nat := (if Job.trialAccount ∈ s.queue then 1 else 0)
      + (if s.queue.any (fun j => match j with | .ownerReset _ _ => true | _ => false) then 2 else 0)
    let claimed : Bool := match s.creds.get 0 with | .held _ => true | _ => false
    let stream : Byte × Nat := match s.stream with
      | .closed => (0, 0)
      | .checking _ _ => (1, 0)
      | .receiving _ _ n _ _ => (2, n)
      | .absorbing _ _ n _ => (3, n)
      | .verified _ _ n => (4, n)
      | .failed _ _ n _ => (5, n)
    exec (.status st flags []) s = .next (answered st .ok .status
      ([flagByte s.fault, station 0, station 1, station 2, station 3, 0, flagByte (s.stations.get st).masked,
          flagByte s.globalMask, flagByte (s.stations.get st).grant.isSome, origin, byte waiting, byte internal]
        ++ be32 s.time.uptime.toNat ++ be32 s.socResets ++ be32 s.partResets ++ [flagByte claimed, stream.1]
        ++ be32 stream.2 ++ [byte s.revoked.length,
          byte ((List.finRange 11).countP fun i => (s.conditions.get i).isSome), flagByte s.attn]) flags (lineIdle s)))
  ∧ ∀ (st : Station) (flags : Byte) (s : State), MaySend st s → flagsOk flags = true →
    exec (.conditions st flags []) s
        = .next (answered st .ok .conditions
            ((List.finRange 11).flatMap (fun i =>
                [flagByte (s.conditions.get i).isSome, byte (if i.val < 6 then 1 else if i.val < 9 then 2 else 3),
                  flagByte (s.store.settings.enables.getLsbD i.val)]
                ++ be32 ((s.conditions.get i).elim 0 BitVec.toNat))
              ++ [flagByte s.attn]) flags (lineIdle s))
      ∧ ∀ cert key : List Byte,
        ((∃ c, s.certificate = some c ∧ cert = be16 c.length ++ c) ∨ s.certificate = none ∧ cert = [0, 0]) →
        ((∃ k priv pub, s.keys.get 0 = .active k ∧ k.material = .signing priv pub
            ∧ key = 2 :: (pub.list ++ k.fingerprint.list))
          ∨ (∃ k, s.keys.get 0 = .active k ∧ (∀ priv pub, k.material ≠ .signing priv pub)
            ∧ key = 2 :: List.replicate 96 0)
          ∨ s.keys.get 0 = .empty ∧ key = 0 :: List.replicate 96 0) →
        exec (.identityRead st flags []) s = .next (answered st .ok .identityRead (cert ++ key) flags (lineIdle s))

/-- FLOOR_READ answers every OPEN station with the four floors in class order; any body is BAD_LENGTH (R111).
SETTINGS_READ gives the stored settings and then the address base in use; TARGET_LIST gives the eight entries (R89,
R201). BOOT_QUERY, from stations 0 and 1, waits for no accounting: TRIAL_BUSY while one waits or runs, else the
class's record. CRED_INFO, from stations 2 and 3, gives the credential's record, whether the part is claimed, and the
station's own grant (R110, R128). Entries and records are laid out byte by byte (R207, R210). -/
def Obligations.ListingRequestsReport : Prop :=
  (∀ (st : Station) (flags : Byte) (body : List Byte) (s : State),
      Ready st flags s → body.length ≤ Config.bodyCap →
      (body ≠ [] →
        exec (.floorRead st flags body) s = .next (answered st .badLength .floorRead [] flags (lineIdle s)))
      ∧ ∀ r0 r1 r2 r3, s.classes.get 0 = some r0 → s.classes.get 1 = some r1 → s.classes.get 2 = some r2 →
        s.classes.get 3 = some r3 → body = [] →
        exec (.floorRead st flags body) s
          = .next (answered st .ok .floorRead (be16 r0.floor ++ be16 r1.floor ++ be16 r2.floor ++ be16 r3.floor) flags
              (lineIdle s)))
    ∧ (∀ (st : Station) (flags : Byte) (s : State), Ready st flags s →
        let entry (i : TargetNo) : List Byte := match s.targets.get i with
          | none => [byte i, 0]
          | some t =>
            [byte i, 1, byte t.cls, t.bank.toByte, flagByte t.trial, byte t.signer] ++ be16 t.version ++ t.digest.list
              ++ byte t.label.length :: t.label
              ++ byte t.actions.length :: t.actions.flatMap fun a => match a with
                | .revoke slot => [1, byte slot]
                | .install slot _ => [2, byte slot]
        exec (.settingsRead st flags []) s
            = .next (answered st .ok .settingsRead
                (byte s.store.settings.addressBase :: be16 s.store.settings.trialWindow
                  ++ be16 s.store.settings.grantWindow ++ be16 s.store.settings.buttonHold
                  ++ be16 s.store.settings.enables.toNat ++ [byte s.settings.addressBase]) flags (lineIdle s))
          ∧ (st = 2 → exec (.targetList st flags []) s
            = .next (answered st .ok .targetList
                (entry 0 ++ entry 1 ++ entry 2 ++ entry 3 ++ entry 4 ++ entry 5 ++ entry 6 ++ entry 7) flags
                (lineIdle s)))
          ∧ (st ≠ 2 → exec (.targetList st flags []) s
            = .next (answered st .notPermitted .targetList [] flags (lineIdle s))))
    ∧ (∀ (st : Station) (flags b : Byte) (s : State), Ready st flags s →
        let boot (r : Result) (body : List Byte) : Prop :=
          exec (.bootQuery st flags [b]) s = .next (answered st r .bootQuery body flags (lineIdle s))
        let info (r : Result) (body : List Byte) : Prop :=
          exec (.credInfo st flags [b]) s = .next (answered st r .credInfo body flags (lineIdle s))
        let status (i : Option ImageRecord) : Byte := match i with | none => 0 | some i => if i.stale then 2 else 1
        let claimed : Bool := match s.creds.get 0 with | .held _ => true | _ => false
        (2 ≤ st.val → boot .notPermitted [])
          ∧ (st.val ≤ 1 → info .notPermitted [])
          ∧ (st.val ≤ 1 → 4 ≤ b.toNat → boot .badArgument [])
          ∧ (2 ≤ st.val → 16 ≤ b.toNat → info .badArgument [])
          ∧ (∀ c : ClassNo, st.val ≤ 1 → b = byte c →
              ((Job.trialAccount ∈ s.queue ∨ ∃ r, s.running = some r ∧ r.job = .trialAccount) → boot .trialBusy [])
              ∧ ∀ r, Job.trialAccount ∉ s.queue → (∀ x, s.running = some x → x.job ≠ .trialAccount) →
                s.classes.get c = some r →
                let parts : Byte × Bank × Nat := match r.state with
                  | .steady => (0, r.active, 0)
                  | .pending _ n => (1, r.active, n)
                  | .booting bank n => (2, bank, n)
                boot .ok (byte c :: parts.1 :: be16 r.floor ++ [parts.2.1.toByte, byte parts.2.2]
                  ++ (match (match parts.2.1 with | .a => r.imageA | .b => r.imageB) with
                    | some i => be16 i.version ++ i.digest.list ++ byte i.signer :: byte i.label.length :: i.label
                    | none => List.replicate 36 0)
                  ++ [status r.imageA, status r.imageB]))
          ∧ ∀ id : CredId, 2 ≤ st.val → b = byte id →
            info .ok ((match s.creds.get id with
                | .empty => byte id :: 0 :: List.replicate 10 0
                | .reserved => byte id :: 1 :: List.replicate 10 0
                | .held r =>
                  [byte id, 2, r.contents.kind.toByte, byte (r.contents.grants.toNat + 2 * r.contents.freeRelease.toNat),
                      r.contents.releaseMask, byte r.contents.value.length] ++ be16 r.penalty ++ [byte r.streak]
                    ++ be16 (match r.lockout with
                      | .absent => 0
                      | .deadline d => (d - s.time.uptime).toNat
                      | .pending delay => delay)
                    ++ byte r.contents.label.length :: r.contents.label)
              ++ [flagByte claimed]
              ++ (match (s.stations.get st).grant with
                | some g => 1 :: byte g.credential :: be16 (g.deadline - s.time.uptime).toNat
                | none => [0, 0, 0, 0])))

/-- KEY_INFO gives any OPEN station the descriptor of any slot: every field of an ACTIVE slot's record but its
material, the number and state alone of another. KEY_PUBLIC gives the public key and the fingerprint, and has its
three refusals (R27). -/
def Obligations.KeysAreReadByAnyStation : Prop :=
  ∀ (st : Station) (flags b : Byte) (s : State), Ready st flags s →
    let info (r : Result) (body : List Byte) : Prop :=
      exec (.keyInfo st flags [b]) s = .next (answered st r .keyInfo body flags (lineIdle s))
    let pub (r : Result) (body : List Byte) : Prop :=
      exec (.keyPublic st flags [b]) s = .next (answered st r .keyPublic body flags (lineIdle s))
    (64 ≤ b.toNat → info .badArgument [] ∧ pub .badArgument [])
      ∧ ∀ slot : Slot, b = byte slot →
        (s.keys.get slot = .empty → info .ok [b, 0] ∧ pub .slotEmpty [])
          ∧ (∀ o, s.keys.get slot = .reserved o → info .ok [b, 1] ∧ pub .slotEmpty [])
          ∧ ∀ k, s.keys.get slot = .active k →
            info .ok ([b, 2, k.material.kind.toByte, k.origin.toByte, k.persistence.toByte, k.usage, k.mask,
                flagByte k.ownerHeld]
              ++ k.binding.elim (List.replicate 34 0) (fun v => [1, byte v.chain] ++ v.value.list)
              ++ k.fingerprint.list ++ byte k.label.length :: k.label)
            ∧ (∀ v, k.material = .secret v → pub .keyUsage [])
            ∧ (∀ p, (k.material = .verifying p ∨ ∃ priv, k.material = .signing priv p) →
                pub .ok (p.list ++ k.fingerprint.list))

/-- CHAIN_READ refuses an empty run and one that leaves the chains 0 to 11, and otherwise gives the entries of the run
and the log's length (R44). LOG_READ refuses a start above 127 and a count of 0 or above 8, and otherwise gives the
log's length and up to `count` entries from the start, each with its index (R45). -/
def Obligations.ChainReadAndLogReadReport : Prop :=
  (∀ (st : Station) (flags first count : Byte) (s : State), Ready st flags s →
      ((count = 0 ∨ 11 < first.toNat ∨ 12 < first.toNat + count.toNat) →
        exec (.chainRead st flags [first, count]) s = .next (answered st .badArgument .chainRead [] flags (lineIdle s)))
      ∧ (0 < count.toNat → first.toNat ≤ 11 → first.toNat + count.toNat ≤ 12 →
        exec (.chainRead st flags [first, count]) s
          = .next (answered st .ok .chainRead
              ((((List.finRange 12).drop first.toNat).take count.toNat).flatMap (fun (c : ChainNo) =>
                  byte c :: (s.chains.get c).value.list ++ be16 (s.chains.get c).count
                    ++ [byte ((s.chains.get c).frozen.toNat + 2 * (s.chains.get c).logIncomplete.toNat)])
                ++ [byte s.log.length]) flags (lineIdle s))))
    ∧ (∀ (st : Station) (flags start count : Byte) (s : State), Ready st flags s →
        ((127 < start.toNat ∨ count = 0 ∨ 8 < count.toNat) →
          exec (.logRead st flags [start, count]) s = .next (answered st .badArgument .logRead [] flags (lineIdle s)))
        ∧ (start.toNat ≤ 127 → 0 < count.toNat → count.toNat ≤ 8 →
          exec (.logRead st flags [start, count]) s
            = .next (answered st .ok .logRead
                (byte s.log.length :: byte (min count.toNat (s.log.length - start.toNat))
                  :: ((s.log.drop start.toNat).take count.toNat).zipIdx.flatMap (fun e =>
                    [byte (start.toNat + e.2), byte e.1.chain, e.1.station.elim 255 (fun x => byte x)]
                      ++ be32 e.1.uptime.toNat ++ e.1.measurement.list ++ byte e.1.tag.length :: e.1.tag))
                flags (lineIdle s))))

/-- CLEAR_CONDITIONS clears the named NOTE and WARNING conditions and no other, and answers with the set still raised;
reserved bits are refused (R195). SET_NOTICE_MASK applies LEAVE, SET or CLEAR to the sender's own mask bit and, from
station 2, to the global mask, and answers with both; another action is BAD_ARGUMENT (R170). CLOSE_STAGE closes the
sender's stage and opens what follows it: station 1 after station 0, stations 2 and 3 after station 1; masks, grants
and the other stations' replies stay. Stations 2 and 3 may not send it (R161, R162). -/
def Obligations.StationRequestsChangeTheStationTable : Prop :=
  (∀ (st : Station) (flags hi lo : Byte) (s : State), Ready st flags s → 2 ≤ st.val →
      ((hi &&& 0xF8) ≠ 0 →
        exec (.clearConditions st flags [hi, lo]) s
          = .next (answered st .reservedBits .clearConditions [] flags (lineIdle s)))
      ∧ ((hi &&& 0xF8) = 0 → ∀ after : Tbl (Option Count) 11,
        (∀ i : Fin 11, after.get i
          = if i.val < 9 ∧ (hi ++ lo).getLsbD i.val = true then none else s.conditions.get i) →
        exec (.clearConditions st flags [hi, lo]) s
          = .next (answered st .ok .clearConditions (be16 (raisedSet { s with conditions := after })) flags
              (lineIdle { s with conditions := after }))))
    ∧ (∀ (st : Station) (flags own all : Byte) (s : State), Ready st flags s →
        let does (mask whole : Bool) : Prop :=
          exec (.setNoticeMask st flags [own, all]) s
            = .next (answered st .ok .setNoticeMask [flagByte mask, flagByte whole] flags
                (lineIdle { s with
                  stations := s.stations.set st { s.stations.get st with masked := mask }, globalMask := whole }))
        let refuses (r : Result) : Prop :=
          exec (.setNoticeMask st flags [own, all]) s = .next (answered st r .setNoticeMask [] flags (lineIdle s))
        (all ≠ 0 → st ≠ 2 → refuses .notPermitted)
          ∧ ((all = 0 ∨ st = 2) → (3 ≤ own.toNat ∨ 3 ≤ all.toNat) → refuses .badArgument)
          ∧ ((all = 0 ∨ st = 2) → own.toNat < 3 → all.toNat < 3 →
              does (if own = 0 then (s.stations.get st).masked else own == 1)
                (if all = 0 then s.globalMask else all == 1)))
    ∧ (∀ (st : Station) (flags : Byte) (s : State), Ready st flags s →
        (2 ≤ st.val →
          exec (.closeStage st flags []) s = .next (answered st .notPermitted .closeStage [] flags (lineIdle s)))
        ∧ (st.val < 2 → ∃ t, exec (.closeStage st flags []) s = .next t
          ∧ (∀ x : Station, (t.stations.get x).state =
              if x = st then .closed
              else if (st = 0 ∧ x = 1) ∨ (st = 1 ∧ 2 ≤ x.val) then .opened
              else (s.stations.get x).state)
          ∧ (t.stations.get st).slot = some
              { result := .ok, code := 7, body := (List.finRange 4).map fun x => (t.stations.get x).state.toByte,
                notice := !hasBit flags 0 }
          ∧ (∀ x, x ≠ st → (t.stations.get x).slot = (s.stations.get x).slot)
          ∧ (∀ x, (t.stations.get x).masked = (s.stations.get x).masked
            ∧ (t.stations.get x).grant = (s.stations.get x).grant)
          ∧ t = { s with stations := t.stations, attn := t.attn, line := .ignoring, gap := false, txNow := t.txNow,
                         txNext := t.txNext }))

/-- CHAIN_FREEZE by the station that holds the right sets the frozen flag, whether or not it was set, and answers with
the chain's record after it; nothing else of the chain, and no log entry, changes. No right, or no such chain, is
NOT_PERMITTED (R36). -/
def Obligations.ChainFreezeSetsTheFlag : Prop :=
  ∀ (st : Station) (flags b : Byte) (s : State), Ready st flags s →
    (chainRight st b.toNat = false →
      exec (.chainFreeze st flags [b]) s = .next (answered st .notPermitted .chainFreeze [] flags (lineIdle s)))
    ∧ ∀ c : ChainNo, b = byte c → chainRight st c = true →
      exec (.chainFreeze st flags [b]) s
        = .next (answered st .ok .chainFreeze
            (b :: (s.chains.get c).value.list ++ be16 (s.chains.get c).count
              ++ [byte (1 + 2 * (s.chains.get c).logIncomplete.toNat)])
            flags (lineIdle { s with chains := s.chains.set c { s.chains.get c with frozen := true } }))

/-- GRANT_DROP, from stations 2 and 3, ends the sender's own grant and no other, and answers with the granting id or
with none; it needs no grant, and any body is BAD_LENGTH (R132). -/
def Obligations.GrantDropEndsOwnGrant : Prop :=
  ∀ (st : Station) (flags : Byte) (body : List Byte) (s : State), Ready st flags s → body.length ≤ Config.bodyCap →
    (body ≠ [] → exec (.grantDrop st flags body) s = .next (answered st .badLength .grantDrop [] flags (lineIdle s)))
    ∧ (body = [] → st.val < 2 →
      exec (.grantDrop st flags body) s = .next (answered st .notPermitted .grantDrop [] flags (lineIdle s)))
    ∧ (body = [] → 2 ≤ st.val →
      (∀ g, (s.stations.get st).grant = some g →
        exec (.grantDrop st flags body) s
          = .next (answered st .ok .grantDrop [1, byte g.credential] flags
              (lineIdle { s with stations := s.stations.set st { s.stations.get st with grant := none } })))
      ∧ ((s.stations.get st).grant = none →
        exec (.grantDrop st flags body) s = .next (answered st .ok .grantDrop [0, 0] flags (lineIdle s))))

/-- UPDATE_ABORT without a stream job in hand closes the stream and answers with what the stream was. Over a waiting
stream job it takes the job out with the reply ABORTED; over a running one it drops the job's result (R78, R79). -/
def Obligations.UpdateAbortClosesStream : Prop :=
  ∀ (flags : Byte) (s : State), s.power = .on → s.txNext = none → (s.stations.get 2).state = .opened →
    flagsOk flags = true → s.fault = false →
    (requestState 2 s = .idle → (s.stations.get 2).slot = none →
      ∃ t, exec (.updateAbort 2 flags []) s
        = .next (answered 2 .ok .updateAbort (s.stream.toByte :: be32 s.stream.received ++ [t]) flags
            (lineIdle { s with stream := .closed }))
        ∧ t = (match s.stream with | .failed _ _ _ reason => reason.toByte | _ => 0))
    ∧ (∀ before after quiet w, requestState 2 s = .waiting →
      s.queue = before ++ stationJob 2 quiet w :: after → (∀ j ∈ before ++ after, j.holder ≠ some 2) →
      w.isStream = true →
      exec (.updateAbort 2 flags []) s
        = .next (recomputeAttn (giveReceipt .taken (placeReply 2 .aborted w.code [] quiet
            (lineIdle { s with queue := before ++ after, stream := .closed })))))
    ∧ ∀ r quiet w, s.running = some r → r.crossed = false → r.job = stationJob 2 quiet w → w.isStream = true →
      exec (.updateAbort 2 flags []) s
        = .next (recomputeAttn (giveReceipt .taken
            (lineIdle { s with running := some { r with dropped := true }, stream := .closed })))

/-- TARGET_PREPARE of a VERIFIED stream that passes its checks fills the lowest EMPTY entry and closes the stream; a
refused one leaves the stream, and the first check that fails gives the reply: STREAM_STATE, ROLLBACK, REVOKED,
BAD_ARGUMENT, TARGET_FULL. TARGET_DISCARD empties a PREPARED entry; an index above 7 is BAD_ARGUMENT (R81, R88, R89). -/
def Obligations.TargetsAreFilledAndDiscarded : Prop :=
  ∀ (flags : Byte) (s : State), Ready 2 flags s →
    (∀ m limit n (i : TargetNo) k r, s.stream = .verified m limit n → s.classes.get m.cls = some r →
      r.floor ≤ m.version → s.keys.get m.signer = .active k →
      (m.trial = true → m.cls ≠ 2 ∧ r.active ≠ m.bank) →
      s.targets.get i = none → (∀ j < i, s.targets.get j ≠ none) →
      let target : Target := { cls := m.cls, bank := m.bank, version := m.version, digest := m.imageDigest,
                               label := m.label, signer := m.signer, trial := m.trial, actions := m.actions }
      exec (.targetPrepare 2 flags []) s
        = .next (answered 2 .ok .targetPrepare (targetBytes i (some target)) flags
            (lineIdle { s with targets := s.targets.set i (some target), stream := .closed })))
    ∧ ((∀ m limit n, s.stream ≠ .verified m limit n) →
      exec (.targetPrepare 2 flags []) s
        = .next (answered 2 .streamState .targetPrepare (streamReason s.stream) flags (lineIdle s)))
    ∧ (∀ m limit n r, s.stream = .verified m limit n → s.classes.get m.cls = some r → m.version < r.floor →
      exec (.targetPrepare 2 flags []) s = .next (answered 2 .rollback .targetPrepare [4, 0] flags (lineIdle s)))
    ∧ (∀ m limit n r, s.stream = .verified m limit n → s.classes.get m.cls = some r → r.floor ≤ m.version →
      let refused (x : Result) : Prop :=
        exec (.targetPrepare 2 flags []) s = .next (answered 2 x .targetPrepare [4, 0] flags (lineIdle s))
      ((∀ k, s.keys.get m.signer ≠ .active k) → refused .revoked)
        ∧ ∀ k, s.keys.get m.signer = .active k →
          (m.trial = true → (m.cls = 2 ∨ r.active = m.bank) → refused .badArgument)
          ∧ ((m.trial = true → m.cls ≠ 2 ∧ r.active ≠ m.bank) → (∀ i : TargetNo, s.targets.get i ≠ none) →
            refused .targetFull))
    ∧ (∀ b : Byte, 8 ≤ b.toNat →
      exec (.targetDiscard 2 flags [b]) s = .next (answered 2 .badArgument .targetDiscard [] flags (lineIdle s)))
    ∧ (∀ (i : TargetNo) t, s.targets.get i = some t →
      exec (.targetDiscard 2 flags [byte i]) s
        = .next (answered 2 .ok .targetDiscard (targetBytes i (some t)) flags
            (lineIdle { s with targets := s.targets.set i none })))
    ∧ ∀ i : TargetNo, s.targets.get i = none →
      exec (.targetDiscard 2 flags [byte i]) s = .next (answered 2 .targetEmpty .targetDiscard [] flags (lineIdle s))

/-! ### Engine requests, as they are taken -/

/-- The use checks at take of KEY_SIGN, KEY_VERIFY, QUOTE and KEY_DERIVE (its parent), in their order: the first that
fails gives the reply; when all pass, the fingerprint is noted with the request, which becomes a job, whatever the
key's binding (R10). -/
def Obligations.UseChecksAtTake : Prop :=
  ∀ (st : Station) (flags b : Byte) (d : Bytes 32) (sig : Bytes 64) (s : State), Ready st flags s →
    (∀ r, UseRefused b 1 st s r →
      exec (.keySign st flags (b :: d.list)) s = .next (answered st r .keySign [] flags (lineIdle s)))
    ∧ (∀ (slot : Slot) k, b = byte slot → MayUse slot 1 st k s →
      exec (.keySign st flags (b :: d.list)) s = .next (queued st (.keySign slot k.fingerprint d) flags (lineIdle s)))
    ∧ (∀ r, UseRefused b 2 st s r →
      exec (.keyVerify st flags (b :: (d.list ++ sig.list))) s
        = .next (answered st r .keyVerify [] flags (lineIdle s)))
    ∧ (∀ (slot : Slot) k, b = byte slot → MayUse slot 2 st k s →
      exec (.keyVerify st flags (b :: (d.list ++ sig.list))) s
        = .next (queued st (.keyVerify slot k.fingerprint d sig) flags (lineIdle s)))
    ∧ (∀ hi lo nonce, 2 ≤ st.val → hi &&& 0xF0 = 0 → 8 ≤ nonce.length → nonce.length ≤ 32 →
      (∀ r, UseRefused b 0 st s r →
        exec (.quote st flags (b :: hi :: lo :: nonce)) s = .next (answered st r .quote [] flags (lineIdle s)))
      ∧ ∀ (slot : Slot) k, b = byte slot → MayUse slot 0 st k s →
        exec (.quote st flags (b :: hi :: lo :: nonce)) s
          = .next (queued st (.quote slot k.fingerprint (hi ++ lo) nonce) flags (lineIdle s)))
    ∧ ∀ t usage mask derivation label, usage &&& 0xC0 = 0 → mask &&& 0xF0 = 0 → 1 ≤ derivation.length →
      derivation.length ≤ 32 → label.length ≤ 16 →
      (∀ r, UseRefused b 5 st s r →
        exec (.keyDerive st flags (b :: t :: usage :: mask :: byte derivation.length :: (derivation ++ label))) s
          = .next (answered st r .keyDerive [] flags (lineIdle s)))
      ∧ ∀ (slot target : Slot) k, b = byte slot → t = byte target → MayUse slot 5 st k s → usage ≠ 0 →
        usage &&& ~~~k.usage = 0 → mask &&& k.mask ≠ 0 → 6 ≤ target.val → s.keys.get target = .empty →
        exec (.keyDerive st flags (b :: t :: usage :: mask :: byte derivation.length :: (derivation ++ label))) s
          = .next (queued st (.keyDerive slot k.fingerprint derivation target usage (mask &&& k.mask) label) flags
              (lineIdle { s with keys := s.keys.set target (.reserved false) }))

/-- KEY_GENERATE and KEY_IMPORT that pass every check at take, of every kind and usage they allow, reserve the general
slot they name and become jobs; with the OWNER option, or for an owner update key, the station holds a grant (R9, R15,
R16, R17, R19). -/
def Obligations.CreatingRequestsReserve : Prop :=
  ∀ (st : Station) (flags mask options chain : Byte) (value : Bytes 32) (label : List Byte) (slot : Slot) (s : State),
    Ready st flags s → 6 ≤ slot.val → s.keys.get slot = .empty → mask ≠ 0 → mask &&& 0xF0 = 0 →
    options &&& 0xFC = 0 → label.length ≤ 16 →
    let params (usage : Byte) (ownerHeld : Bool) (binding : BindingOption) : NewKey :=
      { slot, usage, mask, persistence := if hasBit options 0 then .epoch else .persistent, ownerHeld, binding, label }
    let bindingForm (code : Byte) (binding : BindingOption) : Prop :=
      code = 0 ∧ binding = .unbound
        ∨ ∃ c : ChainNo, chain = byte c ∧ (code = 1 ∧ binding = .given { chain := c, value }
          ∨ code = 2 ∧ binding = .current c)
    (∀ (code : Byte) (binding : BindingOption) (usage : Byte) (kind : KeyKind), bindingForm code binding →
      (kind = .signing ∧ (usage = 1 ∨ usage = 2 ∨ usage = 3) ∨ kind = .secret ∧ usage = 0x20) →
      (hasBit options 1 = true → (s.stations.get st).grant ≠ none) →
      exec (.keyGenerate st flags
          (creatingBody (byte slot) kind.toByte usage mask options code chain value ++ label)) s
        = .next (queued st (.keyGenerate (params usage (hasBit options 1) binding) kind) flags
            (lineIdle { s with keys := s.keys.set slot (.reserved false) }))
      ∧ ∀ (v : Bytes 32), kind = .secret →
        exec (.keyImport st flags
            (creatingBody (byte slot) 3 usage mask options code chain value ++ 32 :: (v.list ++ label))) s
          = .next (queued st (.keyImport (params usage (hasBit options 1) binding) (.secret v)) flags
              (lineIdle { s with keys := s.keys.set slot (.reserved false) })))
    ∧ (∀ (code : Byte) (binding : BindingOption) (pub : Bytes 64), bindingForm code binding →
      (hasBit options 1 = true → (s.stations.get st).grant ≠ none) →
      exec (.keyImport st flags
          (creatingBody (byte slot) 2 0x04 mask options code chain value ++ 64 :: (pub.list ++ label))) s
        = .next (queued st (.keyImport (params 0x04 (hasBit options 1) binding) (.verifying pub)) flags
            (lineIdle { s with keys := s.keys.set slot (.reserved false) })))
    ∧ ∀ (pub : Bytes 64), hasBit options 0 = false → (s.stations.get st).grant ≠ none → ownerUpdateCount s < 2 →
      exec (.keyImport st flags
          (creatingBody (byte slot) 2 0x10 mask options 0 chain value ++ 64 :: (pub.list ++ label))) s
        = .next (queued st (.keyImport (params 0x10 true .unbound) (.verifying pub)) flags
            (lineIdle { s with keys := s.keys.set slot (.reserved true) }))

/-- A creating request (KEY_GENERATE, KEY_IMPORT, KEY_DERIVE) or a KEY_ERASE that names a vendor slot is
NOT_PERMITTED, and one that names a slot above 63 is BAD_ARGUMENT; a creating request that names a slot that is not
EMPTY is SLOT_OCCUPIED (R5, R9, R25). KEY_ERASE of an EPOCH key erases it at once and hands it to the sweep, which
empties the targets it signed and fails the stream it signed; of a PERSISTENT key it becomes a job and the slot stays
ACTIVE (R25). -/
def Obligations.ErasingAndVendorSlots : Prop :=
  (∀ (st : Station) (flags b mask chain : Byte) (value : Bytes 32) (label : List Byte) (s : State),
      Ready st flags s → mask ≠ 0 → mask &&& 0xF0 = 0 → label.length ≤ 16 →
      let creating (r : Result) : Prop :=
        exec (.keyGenerate st flags (creatingBody b 1 2 mask 0 0 chain value ++ label)) s
            = .next (answered st r .keyGenerate [] flags (lineIdle s))
          ∧ (∀ v : Bytes 32,
            exec (.keyImport st flags (creatingBody b 3 0x20 mask 0 0 chain value ++ 32 :: (v.list ++ label))) s
              = .next (answered st r .keyImport [] flags (lineIdle s)))
          ∧ ∀ (parent : Slot) (k : KeyRecord) (derivation : List Byte), MayUse parent 5 st k s → mask &&& k.mask ≠ 0 →
            1 ≤ derivation.length → derivation.length ≤ 32 →
            exec (.keyDerive st flags
                (byte parent :: b :: 0x20 :: mask :: byte derivation.length :: (derivation ++ label))) s
              = .next (answered st r .keyDerive [] flags (lineIdle s))
      let erase (r : Result) : Prop :=
        exec (.keyErase st flags [b]) s = .next (answered st r .keyErase [] flags (lineIdle s))
      (64 ≤ b.toNat → creating .badArgument ∧ erase .badArgument)
        ∧ (b.toNat < 6 → creating .notPermitted)
        ∧ (b.toNat < 6 → (∀ slot : Slot, b = byte slot → ∀ k, s.keys.get slot = .active k → k.ownerHeld = false) →
            erase .notPermitted)
        ∧ ∀ slot : Slot, b = byte slot → 6 ≤ slot.val →
          (s.keys.get slot ≠ .empty → creating .slotOccupied)
            ∧ ((∀ k, s.keys.get slot ≠ .active k) → erase .slotEmpty))
    ∧ (∀ (st : Station) (flags : Byte) (slot : Slot) (k : KeyRecord) (s : State), Ready st flags s → 6 ≤ slot.val →
        s.keys.get slot = .active k → hasBit k.mask st = true →
        (k.ownerHeld = true → (s.stations.get st).grant ≠ none) →
        (k.persistence = .persistent →
          exec (.keyErase st flags [byte slot]) s = .next (queued st (.keyErase slot k.fingerprint) flags (lineIdle s)))
        ∧ (k.persistence = .epoch → ∃ t, exec (.keyErase st flags [byte slot]) s = .next t
          ∧ t.keys = s.keys.set slot .empty
          ∧ t.stations = s.stations.set st
              { s.stations.get st with slot := some { result := .ok, code := 21, body := [], notice := !hasBit flags 0 } }
          ∧ (∀ i, t.targets.get i = (s.targets.get i).filter fun x => decide (x.signer ≠ slot))
          ∧ t.stream = (match s.stream with
              | .receiving m limit n _ _ => if m.signer = slot then .failed m.raw limit n .revoked else s.stream
              | .absorbing m limit n _ => if m.signer = slot then .failed m.raw limit n .revoked else s.stream
              | .verified m limit n => if m.signer = slot then .failed m.raw limit n .revoked else s.stream
              | other => other)
          ∧ (t.stream = s.stream → t.conditions = s.conditions)
          ∧ (t.stream ≠ s.stream → t.conditions = s.conditions.set 2 (some s.time.uptime))
          ∧ t = { s with keys := t.keys, targets := t.targets, stream := t.stream, conditions := t.conditions,
                         stations := t.stations, attn := t.attn, line := .ignoring, gap := false, txNow := t.txNow,
                         txNext := t.txNext }))

/-- CHAIN_EXTEND: a body out of length is BAD_LENGTH, a chain without the station's right NOT_PERMITTED, a frozen
chain CHAIN_FROZEN; otherwise the request becomes a job and the chain and the log stay as they are (R33). The
stations' rights to extend and to freeze chains: 0 and 1 for station 0, 2 to 5 for station 1, 6 to 9 for station 2,
none for station 3, and none to any other chain number (R32). -/
def Obligations.ChainExtendIsTaken : Prop :=
  (∀ (st : Station) (flags b : Byte) (m : Bytes 32) (tag body : List Byte) (c : ChainNo) (s : State),
      Ready st flags s →
      (body.length < 33 ∨ 49 < body.length ∧ body.length ≤ Config.bodyCap →
        exec (.chainExtend st flags body) s = .next (answered st .badLength .chainExtend [] flags (lineIdle s)))
      ∧ (tag.length ≤ 16 → chainRight st b.toNat = false →
        exec (.chainExtend st flags (b :: (m.list ++ tag))) s
          = .next (answered st .notPermitted .chainExtend [] flags (lineIdle s)))
      ∧ (tag.length ≤ 16 → chainRight st c = true → (s.chains.get c).frozen = true →
        exec (.chainExtend st flags (byte c :: (m.list ++ tag))) s
          = .next (answered st .chainFrozen .chainExtend [] flags (lineIdle s)))
      ∧ (tag.length ≤ 16 → chainRight st c = true → (s.chains.get c).frozen = false →
        exec (.chainExtend st flags (byte c :: (m.list ++ tag))) s
          = .next (queued st (.chainExtend c m tag) flags (lineIdle s))))
    ∧ (∀ (st : Station) (n : Nat), chainRight st n = true ↔
        (st = 0 ∧ n ≤ 1) ∨ (st = 1 ∧ 2 ≤ n ∧ n ≤ 5) ∨ (st = 2 ∧ 6 ≤ n ∧ n ≤ 9))

/-- UPDATE_OPEN replaces a CLOSED, FAILED or VERIFIED stream with one in CHECKING, its chunk limit from the code, and
is refused STREAM_STATE otherwise (R68). UPDATE_DATA of a chunk that fits moves a RECEIVING stream to ABSORBING and
becomes a job; one that does not fit fails the stream with BAD_LENGTH and raises UPDATE_REJECTED; in any other stream
state it is refused and the stream stays (R73). -/
def Obligations.StreamRequestsAreTaken : Prop :=
  (∀ (flags code : Byte) (raw : List Byte) (s : State), Ready 2 flags s → 1 ≤ raw.length → raw.length ≤ 512 →
      (((s.stream = .closed ∨ (∃ x l n r, s.stream = .failed x l n r) ∨ ∃ m l n, s.stream = .verified m l n) →
        exec (.updateOpen 2 flags (code :: raw)) s
          = .next (queued 2 .updateOpen flags
              (lineIdle { s with stream := .checking raw (if code = 1 then 512 else if code = 2 then 1024 else 256) })))
      ∧ (∀ m l n a d, s.stream = .receiving m l n a d →
        exec (.updateOpen 2 flags (code :: raw)) s
          = .next (answered 2 .streamState .updateOpen [2, 0] flags (lineIdle s)))
      ∧ ((∃ x l, s.stream = .checking x l) ∨ (∃ m l n a, s.stream = .absorbing m l n a) →
        exec (.updateOpen 2 flags (code :: raw)) s
          = .next (answered 2 .streamState .updateOpen [s.stream.toByte, 0] flags (lineIdle s)))))
    ∧ (∀ (flags : Byte) (chunk : List Byte) (s : State), Ready 2 flags s → 1 ≤ chunk.length → chunk.length ≤ 1100 →
        (∀ m limit n absorbed deadline, s.stream = .receiving m limit n absorbed deadline →
          (chunk.length ≤ limit → n + chunk.length ≤ m.imageLength →
            exec (.updateData 2 flags chunk) s
              = .next (queued 2 (.updateData chunk) flags (lineIdle { s with stream := .absorbing m limit n absorbed })))
          ∧ ((limit < chunk.length ∨ m.imageLength < n + chunk.length) →
            exec (.updateData 2 flags chunk) s
              = .next (answered 2 .badLength .updateData [5, 18] flags
                  (lineIdle { s with stream := .failed m.raw limit n .badLength,
                                     conditions := s.conditions.set 2 (some s.time.uptime) }))))
        ∧ ((∀ m l n a d, s.stream ≠ .receiving m l n a d) →
          exec (.updateData 2 flags chunk) s
            = .next (answered 2 .streamState .updateData (streamReason s.stream) flags (lineIdle s))))

/-- TARGET_ACTIVATE of a PREPARED entry becomes a job and leaves the entry; BOOT_CONFIRM of a class in TRIAL_BOOTING
with the timer RUNNING sets the confirm hold and becomes a job; with their refusals (R93, R106). -/
def Obligations.ActivateAndConfirmAreTaken : Prop :=
  ∀ (flags b : Byte) (s : State), Ready 2 flags s →
    let activate (r : Result) : Prop :=
      exec (.targetActivate 2 flags [b]) s = .next (answered 2 r .targetActivate [] flags (lineIdle s))
    let confirm (r : Result) : Prop :=
      exec (.bootConfirm 2 flags [b]) s = .next (answered 2 r .bootConfirm [] flags (lineIdle s))
    (8 ≤ b.toNat → activate .badArgument) ∧ (4 ≤ b.toNat → confirm .badArgument)
      ∧ (∀ i : TargetNo, b = byte i →
        (s.targets.get i = none → activate .targetEmpty)
          ∧ (s.targets.get i ≠ none →
            exec (.targetActivate 2 flags [b]) s = .next (queued 2 (.targetActivate i) flags (lineIdle s))))
      ∧ ∀ (c : ClassNo) r, b = byte c → s.classes.get c = some r →
        ((∀ bank n, r.state ≠ .booting bank n) → confirm .streamState)
          ∧ ∀ bank n, r.state = .booting bank n →
            (s.timer = .stopped → confirm .trialBusy) ∧ (s.timer = .expired → confirm .tooLate)
              ∧ ∀ d reached, s.timer = .running d reached →
                exec (.bootConfirm 2 flags [b]) s
                  = .next (queued 2 (.bootConfirm c) flags (lineIdle { s with hold := true }))

/-- A CRED_SET of an EMPTY id that passes its checks reserves the id; the claim, of credential 0 while it is EMPTY,
needs no grant. One of a SET id is a change and reserves nothing. A RESERVED id is SLOT_OCCUPIED (R118, R120).
CRED_VERIFY, CRED_RELEASE and CRED_CLEAR that pass their checks become jobs and change nothing else; with their
refusals. A lockout is not tested at take (R121, R126, R127). -/
def Obligations.CredentialRequestsAreTaken : Prop :=
  (∀ (st : Station) (flags rights mask : Byte) (kind : CredKind) (id : CredId) (label secret : List Byte) (s : State),
      Ready st flags s → 2 ≤ st.val → label.length ≤ 24 → 1 ≤ secret.length → secret.length ≤ 64 →
      (kind = .verifier ∧ mask = 0 ∧ (rights = 0 ∧ id ≠ 0 ∨ rights = 1)
        ∨ kind = .secret ∧ (mask = 4 ∨ mask = 8 ∨ mask = 12) ∧ (rights = 0 ∨ rights = 2) ∧ id ≠ 0) →
      let body : List Byte := [byte id, kind.toByte, rights, mask, byte label.length] ++ label ++ secret
      let params : CredParams :=
        { id, kind, label, grants := hasBit rights 0, freeRelease := hasBit rights 1, releaseMask := mask, secret }
      (s.creds.get id = .empty → (id ≠ 0 → (s.stations.get st).grant ≠ none) →
        exec (.credSet st flags body) s
          = .next (queued st (.credSet params false (id != 0)) flags
              (lineIdle { s with creds := s.creds.set id .reserved })))
      ∧ (∀ r, s.creds.get id = .held r → (s.stations.get st).grant ≠ none →
        exec (.credSet st flags body) s = .next (queued st (.credSet params true true) flags (lineIdle s)))
      ∧ (s.creds.get id = .reserved → (id ≠ 0 → (s.stations.get st).grant ≠ none) →
        exec (.credSet st flags body) s = .next (answered st .slotOccupied .credSet [] flags (lineIdle s))))
    ∧ (∀ (st : Station) (flags b : Byte) (candidate : List Byte) (s : State), Ready st flags s → 2 ≤ st.val →
        1 ≤ candidate.length → candidate.length ≤ 64 →
        let verify (r : Result) : Prop :=
          exec (.credVerify st flags (b :: candidate)) s = .next (answered st r .credVerify [] flags (lineIdle s))
        let release (r : Result) : Prop :=
          exec (.credRelease st flags [b]) s = .next (answered st r .credRelease [] flags (lineIdle s))
        let clear (r : Result) : Prop :=
          exec (.credClear st flags [b]) s = .next (answered st r .credClear [] flags (lineIdle s))
        let granted : Prop := (s.stations.get st).grant ≠ none
        (16 ≤ b.toNat → verify .badArgument ∧ release .badArgument ∧ (granted → clear .badArgument))
          ∧ (¬granted → clear .noGrant)
          ∧ ∀ id : CredId, b = byte id →
            ((∀ r, s.creds.get id ≠ .held r) →
              verify .slotEmpty ∧ release .slotEmpty ∧ (granted → id ≠ 0 → clear .slotEmpty))
            ∧ (granted → id = 0 → clear .notPermitted)
            ∧ ∀ r, s.creds.get id = .held r →
              exec (.credVerify st flags (b :: candidate)) s
                  = .next (queued st (.credVerify id candidate) flags (lineIdle s))
                ∧ (r.contents.kind = .verifier → release .badArgument)
                ∧ (r.contents.kind = .secret → r.contents.freeRelease = false → ¬granted → release .noGrant)
                ∧ (r.contents.kind = .secret → (r.contents.freeRelease = true ∨ granted) →
                  (hasBit r.contents.releaseMask st = false → release .notPermitted)
                  ∧ (hasBit r.contents.releaseMask st = true →
                    exec (.credRelease st flags [b]) s = .next (queued st (.credRelease id) flags (lineIdle s))))
                ∧ (granted → id ≠ 0 →
                  exec (.credClear st flags [b]) s = .next (queued st (.credClear id) flags (lineIdle s))))

/-- SETTINGS_WRITE from station 0, and from station 2 with a grant, becomes a job; reserved bits and an empty
selection are refused (R202). OWNER_RESET from station 2 with a grant attaches itself to a waiting OWNER_RESET_JOB, or
joins the queue as a new one. Its ABORT detaches it: the job goes with it, or stays for a button hold (R175, R197). -/
def Obligations.OwnerRequestsAreTaken : Prop :=
  (∀ (st : Station) (flags selection base tHi tLo gHi gLo bHi bLo eHi eLo : Byte) (s : State), Ready st flags s →
      st = 0 ∨ st = 2 ∧ (s.stations.get st).grant ≠ none →
      let body : List Byte := [selection, base, tHi, tLo, gHi, gLo, bHi, bLo, eHi, eLo]
      (selection &&& 0xE0 ≠ 0 ∨ eHi &&& 0xF8 ≠ 0 →
        exec (.settingsWrite st flags body) s = .next (answered st .reservedBits .settingsWrite [] flags (lineIdle s)))
      ∧ (selection = 0 → eHi &&& 0xF8 = 0 →
        exec (.settingsWrite st flags body) s = .next (answered st .badArgument .settingsWrite [] flags (lineIdle s)))
      ∧ (selection ≠ 0 → selection &&& 0xE0 = 0 → eHi &&& 0xF8 = 0 →
        exec (.settingsWrite st flags body) s
          = .next (queued st
              (.settingsWrite
                { selection, addressBase := base.toNat, trialWindow := tHi.toNat * 256 + tLo.toNat,
                  grantWindow := gHi.toNat * 256 + gLo.toNat, buttonHold := bHi.toNat * 256 + bLo.toNat,
                  enables := eHi ++ eLo }) flags (lineIdle s))))
    ∧ (∀ (flags : Byte) (s : State), Ready 2 flags s → (s.stations.get 2).grant ≠ none →
        ((∀ a b, Job.ownerReset a b ∉ s.queue) →
          exec (.ownerReset 2 flags []) s
            = .next (recomputeAttn (giveReceipt .taken
                (lineIdle { s with queue := s.queue ++ [.ownerReset (some (hasBit flags 0)) false] }))))
        ∧ (∀ before after attached button, s.queue = before ++ .ownerReset attached button :: after →
          (∀ a b, Job.ownerReset a b ∉ before ++ after) →
          exec (.ownerReset 2 flags []) s
            = .next (recomputeAttn (giveReceipt .taken
                (lineIdle { s with queue := before ++ .ownerReset (some (hasBit flags 0)) button :: after }))))
        ∧ ∀ before after quiet button (t : State), t.power = .on → t.txNext = none →
          (t.stations.get 2).state = .opened → (∀ r, t.running = some r → r.holder ≠ some 2) →
          t.queue = before ++ .ownerReset (some quiet) button :: after → (∀ j ∈ before ++ after, j.holder ≠ some 2) →
          exec (.abort 2 flags []) t
            = .next (recomputeAttn (giveReceipt .removed (placeReply 2 .aborted 10 [] quiet (lineIdle { t with
                queue := before ++ (if button then [.ownerReset none true] else []) ++ after })))))

/-! ### The jobs of the key table and the attestation unit -/

/-- A job that uses a key ends at once, without using any material, when the slot no longer holds the noted
fingerprint (REVOKED or SLOT_EMPTY) or the bound chain does not hold the bound value (BINDING_MISMATCH); a derivation
gives its target slot back (R11, R14). A KEY_SIGN job signs the digest with the slot's private key; a KEY_VERIFY job
checks the signature with the slot's public key. Both read the material at their start, and change nothing but the
reply (R12, R23, R24). -/
def Obligations.KeyUsingJobsCheckAndAnswer : Prop :=
  (∀ (st : Station) (q : Bool) (slot : Slot) (fp : Bytes 32) (rest : List Job) (r : Result) (s : State),
      KeyUnfit slot fp s r →
      (∀ d, MayStart (stationJob st q (.keySign slot fp d)) rest s →
        exec .keySignJobStart s = .next (turnedDown st r .keySign [] q rest s))
      ∧ (∀ d sig, MayStart (stationJob st q (.keyVerify slot fp d sig)) rest s →
        exec .keyVerifyJobStart s = .next (turnedDown st r .keyVerify [] q rest s))
      ∧ (∀ selection nonce, MayStart (stationJob st q (.quote slot fp selection nonce)) rest s →
        exec .quoteJobStart s = .next (turnedDown st r .quote [] q rest s))
      ∧ ∀ d target usage mask label o,
        MayStart (stationJob st q (.keyDerive slot fp d target usage mask label)) rest s →
        s.keys.get target = .reserved o →
        exec .keyDeriveJobStart s
          = .next (turnedDown st r .keyDerive [] q rest { s with keys := s.keys.set target .empty }))
    ∧ (∀ (st : Station) (q : Bool) (slot : Slot) (fp d : Bytes 32) (sig : Bytes 64) (rest : List Job) (k : KeyRecord)
        (s : State),
        (∀ priv pub, MayStart (stationJob st q (.keySign slot fp d)) rest s → KeyFit slot fp k s →
          k.material = .signing priv pub →
          exec .keySignJobStart s
            = .next (started (stationJob st q (.keySign slot fp d)) rest [] (.signature (sign priv d)) s))
        ∧ (∀ out, s.power = .on → s.running = some (fresh (stationJob st q (.keySign slot fp d)) [] (.signature out) []) →
          exec .keySignJobEnd s = .next (ended st .ok .keySign out.list q s))
        ∧ (∀ pub, MayStart (stationJob st q (.keyVerify slot fp d sig)) rest s → KeyFit slot fp k s →
          k.material = .verifying pub →
          exec .keyVerifyJobStart s
            = .next (started (stationJob st q (.keyVerify slot fp d sig)) rest []
                (.verdict (Config.signatureValid pub d sig)) s))
        ∧ ∀ valid, s.power = .on →
          s.running = some (fresh (stationJob st q (.keyVerify slot fp d sig)) [] (.verdict valid) []) →
          exec .keyVerifyJobEnd s = .next (ended st (if valid then .ok else .signatureInvalid) .keyVerify [] q s))

/-- A QUOTE job builds its statement from the snapshot at its start and signs the statement's digest; the statement's
layout is that of R209. Its end places the statement and the signature and changes nothing else (R56, R61). -/
def Obligations.QuoteJobSignsSnapshot : Prop :=
  ∀ (st : Station) (q : Bool) (slot : Slot) (fp : Bytes 32) (selection : BitVec 16) (nonce bytes : List Byte)
    (rest : List Job) (s : State),
    (∀ k priv pub r0 r1 r2 r3, MayStart (stationJob st q (.quote slot fp selection nonce)) rest s →
      KeyFit slot fp k s → k.material = .signing priv pub →
      s.classes.get 0 = some r0 → s.classes.get 1 = some r1 → s.classes.get 2 = some r2 →
      s.classes.get 3 = some r3 →
      let entry (r : ClassRecord) : List Byte :=
        be16 r.floor ++ [r.active.toByte] ++ be16 (((r.image r.active).map ImageRecord.version).getD 0)
          ++ [r.state.toByte]
      let isSet (c : Credential) : Bool := match c with | .held _ => true | _ => false
      let locked (c : Credential) : Bool := match c with
        | .held r => (match r.lockout with
          | .absent => false
          | .deadline d => decide (d ≠ s.time.uptime)
          | .pending _ => true)
        | _ => false
      let claimed : Bool := isSet (s.creds.get 0)
      let statement : List Byte :=
        [1, byte nonce.length] ++ nonce ++ [byte slot] ++ fp.list ++ be16 selection.toNat
          ++ be32 s.time.uptime.toNat ++ be32 s.socResets ++ be32 s.partResets
          ++ (entry r0 ++ entry r1 ++ entry r2 ++ entry r3)
          ++ [flagByte claimed, byte ((List.finRange 16).countP fun id => isSet (s.creds.get id)),
              byte ((List.finRange 16).countP fun id => locked (s.creds.get id))]
          ++ be16 ((List.finRange 11).map fun i => if (s.conditions.get i).isSome then 2 ^ i.val else 0).sum
          ++ ((List.finRange 12).filter fun c => selection.getLsbD c.val).flatMap fun (c : ChainNo) =>
              byte c :: (s.chains.get c).value.list ++ be16 (s.chains.get c).count
                ++ [byte ((s.chains.get c).frozen.toNat + 2 * (s.chains.get c).logIncomplete.toNat)]
      exec .quoteJobStart s
        = .next (started (stationJob st q (.quote slot fp selection nonce)) rest []
            (.statement (statement ++ (sign priv (digest statement)).list)) s))
    ∧ (s.power = .on → s.running = some (fresh (stationJob st q (.quote slot fp selection nonce)) [] (.statement bytes) [])
      → exec .quoteJobEnd s = .next (ended st .ok .quote bytes q s))

/-- A KEY_GENERATE job draws fresh material until its fingerprint is neither revoked nor held, resolves its binding,
and goes on to its record's write when the key is PERSISTENT; without the grant its OWNER option needs, it ends with
NO_GRANT and the slot is EMPTY again (R13, R15, R18). A KEY_IMPORT job is turned down without its grant, for a revoked
fingerprint and for one that is held, and its slot is EMPTY again; else it goes on to its record's write when the key
is PERSISTENT (R15, R20). That at most 97 draws are made at the start, and that draws are counted by the model's own
field `entropy`, are the model's choices (log entry 8). -/
def Obligations.GenerateAndImportJobsStart : Prop :=
  (∀ (st : Station) (q : Bool) (p : NewKey) (kind : KeyKind) (rest : List Job) (s : State),
      MayStart (stationJob st q (.keyGenerate p kind)) rest s → kind ≠ .verifying →
      (p.ownerHeld = true → (s.stations.get st).grant = none → ∀ o, s.keys.get p.slot = .reserved o →
        exec .keyGenerateJobStart s
          = .next (turnedDown st .noGrant .keyGenerate [] q rest { s with keys := s.keys.set p.slot .empty }))
      ∧ ∀ n < 97, (p.ownerHeld = true → (s.stations.get st).grant ≠ none) →
        (∀ i < n, fingerprintFree (drawMaterial kind (s.entropy + i)).fingerprint s = false) →
        fingerprintFree (drawMaterial kind (s.entropy + n)).fingerprint s = true →
        let material := drawMaterial kind (s.entropy + n)
        let k : KeyRecord :=
          { material, origin := .generated, persistence := p.persistence, usage := p.usage, mask := p.mask,
            binding := (match p.binding with
              | .unbound => none
              | .given b => some b
              | .current c => some { chain := c, value := (s.chains.get c).value }),
            ownerHeld := p.ownerHeld, fingerprint := material.fingerprint, label := p.label }
        exec .keyGenerateJobStart s
          = .next (started (stationJob st q (.keyGenerate p kind)) rest
              (if p.persistence = .persistent then [.keyRecord p.slot] else []) (.key k)
              { s with entropy := s.entropy + n + 1 }))
    ∧ (∀ (st : Station) (q o : Bool) (p : NewKey) (m : Material) (rest : List Job) (s : State),
        MayStart (stationJob st q (.keyImport p m)) rest s → s.keys.get p.slot = .reserved o →
        let refused (r : Result) : Prop := exec .keyImportJobStart s
          = .next (turnedDown st r .keyImport [] q rest { s with keys := s.keys.set p.slot .empty })
        let granted : Prop := p.ownerHeld = true → (s.stations.get st).grant ≠ none
        let held : Prop := ∃ slot k, s.keys.get slot = .active k ∧ k.fingerprint = m.fingerprint
        (¬granted → refused .noGrant)
          ∧ (granted → m.fingerprint ∈ s.revoked → refused .revoked)
          ∧ (granted → m.fingerprint ∉ s.revoked → held → refused .slotOccupied)
          ∧ (granted → m.fingerprint ∉ s.revoked → ¬held →
            exec .keyImportJobStart s
              = .next (started (stationJob st q (.keyImport p m)) rest
                  (if p.persistence = .persistent then [.keyRecord p.slot] else [])
                  (.key { material := m, origin := .imported, persistence := p.persistence, usage := p.usage,
                          mask := p.mask,
                          binding := (match p.binding with
                            | .unbound => none
                            | .given b => some b
                            | .current c => some { chain := c, value := (s.chains.get c).value }),
                          ownerHeld := p.ownerHeld, fingerprint := m.fingerprint, label := p.label }) s)))

/-- A KEY_DERIVE job whose parent passes its checks derives the child, an EPOCH secret with the parent's binding and
owner-held flag; a child whose fingerprint is revoked or held is turned down (R21, R22). The three creating jobs end
with OK: the slot is ACTIVE with the job's record, which is in the store when the key is PERSISTENT, and the reply
carries the descriptor and for a generated key the public key, zeros for a SECRET key (R205; log entry 18). After a
SoC reset an EPOCH key is erased at once and no reply is placed (R2, R18, R28). -/
def Obligations.DeriveJobAndCreatingEnds : Prop :=
  (∀ (st : Station) (q o : Bool) (parent : Slot) (fp v : Bytes 32) (d : List Byte) (target : Slot) (usage mask : Byte)
      (label : List Byte) (rest : List Job) (k : KeyRecord) (s : State),
      MayStart (stationJob st q (.keyDerive parent fp d target usage mask label)) rest s → KeyFit parent fp k s →
      k.material = .secret v → s.keys.get target = .reserved o →
      let child : Material := .secret (derive v d)
      let refused (r : Result) : Prop := exec .keyDeriveJobStart s
        = .next (turnedDown st r .keyDerive [] q rest { s with keys := s.keys.set target .empty })
      let held : Prop := ∃ slot j, s.keys.get slot = .active j ∧ j.fingerprint = child.fingerprint
      (child.fingerprint ∈ s.revoked → refused .revoked)
        ∧ (child.fingerprint ∉ s.revoked → held → refused .slotOccupied)
        ∧ (child.fingerprint ∉ s.revoked → ¬held →
          exec .keyDeriveJobStart s
            = .next (started (stationJob st q (.keyDerive parent fp d target usage mask label)) rest []
                (.key { material := child, origin := .derived, persistence := .epoch, usage, mask,
                        binding := k.binding, ownerHeld := k.ownerHeld, fingerprint := child.fingerprint, label }) s)))
    ∧ (∀ (st : Station) (q : Bool) (slot : Slot) (w : Work) (c : ReqCode) (end_ : Instr) (k : KeyRecord) (todo : List JobStep)
        (s : State),
        ((∃ p kind, w = .keyGenerate p kind ∧ p.slot = slot ∧ c = .keyGenerate ∧ end_ = .keyGenerateJobEnd)
          ∨ (∃ p m, w = .keyImport p m ∧ p.slot = slot ∧ c = .keyImport ∧ end_ = .keyImportJobEnd)
          ∨ ∃ parent fp d u m l, w = .keyDerive parent fp d slot u m l ∧ c = .keyDerive ∧ end_ = .keyDeriveJobEnd) →
        s.power = .on → (todo = [] ∨ todo = [.keyRecord slot]) →
        let store : Store := if todo = [] then s.store else { s.store with keys := s.store.keys.set slot (some k) }
        let active : State := { s with store, keys := s.keys.set slot (.active k) }
        (∀ reply, s.running = some (fresh (stationJob st q w) todo (.key k) []) →
          (reply = keyDescriptor slot (.active k) ++
            (if k.origin = .generated then match k.material with
              | .signing _ pub => pub.list
              | .verifying pub => pub.list
              | .secret _ => List.replicate 64 0
            else [])) →
          exec end_ s = .next (ended st .ok c reply q active))
        ∧ (s.running = some { fresh (stationJob st q w) todo (.key k) [] with crossed := true } →
          exec end_ s = .next (recomputeAttn { (if k.persistence = .epoch then
            { s with store, keys := s.keys.set slot .empty } else active) with running := none })))

/-- A KEY_ERASE job finds its key gone (SLOT_EMPTY) or its grant gone (NO_GRANT), or removes the record and, when it
ends, leaves the slot EMPTY and hands it to the sweep: targets that the slot signed are emptied, a stream that it
signed is FAILED with REVOKED and UPDATE_REJECTED is raised (R26, R83, R109). -/
def Obligations.EraseJobErases : Prop :=
  ∀ (st : Station) (q : Bool) (slot : Slot) (fp : Bytes 32) (rest : List Job) (s : State),
    (MayStart (stationJob st q (.keyErase slot fp)) rest s →
      ((∀ k, s.keys.get slot = .active k → k.fingerprint ≠ fp) →
        exec .keyEraseJobStart s = .next (turnedDown st .slotEmpty .keyErase [] q rest s))
      ∧ ∀ k, s.keys.get slot = .active k → k.fingerprint = fp →
        (k.ownerHeld = true → (s.stations.get st).grant = none →
          exec .keyEraseJobStart s = .next (turnedDown st .noGrant .keyErase [] q rest s))
        ∧ ((k.ownerHeld = true → (s.stations.get st).grant ≠ none) →
          exec .keyEraseJobStart s
            = .next (started (stationJob st q (.keyErase slot fp)) rest [.keyRemove slot] .blank s)))
    ∧ (s.power = .on →
      s.running = some (fresh (stationJob st q (.keyErase slot fp)) [.keyRemove slot] .blank []) →
      ∃ t, exec .keyEraseJobEnd s = .next t ∧ t.keys = s.keys.set slot .empty
        ∧ t.store = { s.store with keys := s.store.keys.set slot none } ∧ t.running = none
        ∧ t.stations = s.stations.set st
            { s.stations.get st with slot := some { result := .ok, code := 21, body := [], notice := !q } }
        ∧ (∀ i, t.targets.get i = (s.targets.get i).filter fun x => decide (x.signer ≠ slot))
        ∧ t.stream = s.stream.afterSlot slot
        ∧ (t.stream = s.stream → t.conditions = s.conditions)
        ∧ (t.stream ≠ s.stream → t.conditions = s.conditions.set 2 (some s.time.uptime))
        ∧ t = { s with keys := t.keys, store := t.store, running := none, stations := t.stations,
                       targets := t.targets, stream := t.stream, conditions := t.conditions, attn := t.attn })

/-! ### The jobs of the evidence unit, the stream and the boot directory -/

/-- A CHAIN_EXTEND job computes the digest of the chain's value and the measurement at its start. Its end writes the
value, counts it up to 65,535, and appends a log entry, or, when the log is full, sets the log-incomplete flag and
raises LOG_INCOMPLETE; a job that a SoC reset has made void does none of this (R34, R35, R38). The bytes of the OK
reply, with the log index after a presence byte as R205 encodes an optional field, are the model's layout (log entry
18). -/
def Obligations.ExtendJobExtendsChain : Prop :=
  ∀ (st : Station) (q : Bool) (c : ChainNo) (m v : Bytes 32) (tag : List Byte) (rest : List Job) (s : State),
    (MayStart (stationJob st q (.chainExtend c m tag)) rest s →
      ((s.chains.get c).frozen = true →
        exec .chainExtendJobStart s = .next (turnedDown st .chainFrozen .chainExtend [] q rest s))
      ∧ ((s.chains.get c).frozen = false →
        exec .chainExtendJobStart s
          = .next (started (stationJob st q (.chainExtend c m tag)) rest []
              (.chainValue (digest ((s.chains.get c).value.list ++ m.list))) s)))
    ∧ (s.power = .on → s.running = some (fresh (stationJob st q (.chainExtend c m tag)) [] (.chainValue v) []) →
      let count := min ((s.chains.get c).count + 1) 65535
      (s.log.length < 128 →
        exec .chainExtendJobEnd s
          = .next (ended st .ok .chainExtend (byte c :: v.list ++ be16 count ++ [1, byte s.log.length]) q
              { s with
                chains := s.chains.set c { s.chains.get c with value := v, count }
                log := s.log ++ [{ chain := c, measurement := m, tag, station := some st, uptime := s.time.uptime }] }))
      ∧ (128 ≤ s.log.length →
        exec .chainExtendJobEnd s
          = .next (ended st .ok .chainExtend (byte c :: v.list ++ be16 count ++ [0, 0]) q
              { s with
                chains := s.chains.set c { s.chains.get c with value := v, count, logIncomplete := true }
                conditions := s.conditions.set 1 (some s.time.uptime) })))
    ∧ ∀ d, s.power = .on →
      s.running = some { fresh (stationJob st q (.chainExtend c m tag)) [] (.chainValue d) [] with crossed := true } →
      exec .chainExtendJobEnd s = .next (recomputeAttn { s with running := none })

/-- A manifest job checks the manifest at its start and moves the stream at its end: to RECEIVING with its deadline 600
ds ahead, or to FAILED with the failing check's result and UPDATE_REJECTED raised. A job whose result is dropped leaves
the stream and answers ABORTED; one that a SoC reset has crossed leaves the stream and places no reply (R72, R79, R85,
R178). The checks of a manifest that parses, in their order: signer, signature, rollback, bank; one with no actions then
passes, and one that an owner update key signed may hold none; of one that a vendor update key signed, each action is
tested in its order and then all of them together, the first failing test giving the result; a manifest that does not
parse is BAD_ARGUMENT (R67, R69, R70, R71). The chunk limit's two bytes in the reply are the model's layout (log entry
18), and so is the order of tests that overlap (log entry 17). -/
def Obligations.ManifestJobMovesStream : Prop :=
  (∀ (q : Bool) (raw : List Byte) (limit : Nat) (m : Manifest) (r : Result) (rest : List Job) (s : State),
      (MayStart (stationJob 2 q .updateOpen) rest s → s.stream = .checking raw limit →
        exec .updateOpenJobStart s
          = .next (started (stationJob 2 q .updateOpen) rest []
              (match checkManifest raw s with | .ok x => .manifestOk x | .error e => .manifestBad e) s))
      ∧ (s.power = .on → s.stream = .checking raw limit →
        (s.running = some (fresh (stationJob 2 q .updateOpen) [] (.manifestOk m) []) →
          exec .updateOpenJobEnd s
            = .next (ended 2 .ok .updateOpen
                ([byte m.cls, m.bank.toByte] ++ be16 m.version ++ be32 m.imageLength
                  ++ [byte (m.trial.toNat + 2 * m.autoPrepare.toNat)] ++ be16 limit ++ [2]) q
                { s with stream := .receiving m limit 0 [] (s.time.uptime + 600) }))
        ∧ (s.running = some (fresh (stationJob 2 q .updateOpen) [] (.manifestBad r) []) →
          exec .updateOpenJobEnd s
            = .next (ended 2 r .updateOpen [5, r.toByte] q
                { s with stream := .failed raw limit 0 r, conditions := s.conditions.set 2 (some s.time.uptime) })))
      ∧ ∀ d, s.power = .on →
        let job : Running := fresh (stationJob 2 q .updateOpen) [] d []
        (s.running = some { job with dropped := true } →
          exec .updateOpenJobEnd s = .next (ended 2 .aborted .updateOpen [] q s))
        ∧ ∀ dropped, s.running = some { job with dropped, crossed := true } →
          exec .updateOpenJobEnd s = .next (recomputeAttn { s with running := none }))
    ∧ (∀ (raw : List Byte) (m : Manifest) (s : State), Manifest.parse raw = some m →
        ((∀ k, s.keys.get m.signer = .active k → hasBit k.usage 3 = false ∧ (m.cls = 3 → hasBit k.usage 4 = false)) →
            checkManifest raw s = .error .keyUsage)
          ∧ ∀ k pub r, s.keys.get m.signer = .active k → k.material = .verifying pub →
            (hasBit k.usage 3 = true ∨ m.cls = 3 ∧ hasBit k.usage 4 = true) → s.classes.get m.cls = some r →
            checkManifest raw s =
              if Config.signatureValid pub (digest (raw.take (raw.length - 64))) m.signature = false then
                .error .signatureInvalid
              else if m.version < r.floor then .error .rollback
              else if m.cls = 2 ∧ (m.bank = .b ∨ m.trial = true) then .error .badArgument
              else if m.actions = [] then .ok m
              else if hasBit k.usage 3 = false then .error .badArgument
              else (checkActions true m s).map fun _ => m)
    ∧ (∀ (raw : List Byte) (s : State), Manifest.parse raw = none → checkManifest raw s = .error .badArgument)
    ∧ (∀ (raw : List Byte) (m : Manifest) (k : KeyRecord) (pub : Bytes 64) (r : ClassRecord) (s : State),
        Manifest.parse raw = some m → s.keys.get m.signer = .active k → k.material = .verifying pub →
        hasBit k.usage 3 = true → s.classes.get m.cls = some r → r.floor ≤ m.version →
        (m.cls = 2 → m.bank = .a ∧ m.trial = false) →
        let answers (x : Except Result Manifest) : Prop := checkManifest raw s =
          if Config.signatureValid pub (digest (raw.take (raw.length - 64))) m.signature = false then
            .error .signatureInvalid
          else x
        let alone (n : Nat) : Prop := n < 6 ∧ m.actions.countP (fun b => b.slot == n) = 1
        let empty (n : Nat) : Prop := ∃ slot : Slot, slot.val = n ∧ s.keys.get slot = .empty
        let installs (key : Bytes 64) (a : Action) : Bool := match a with
          | .revoke _ => false
          | .install _ other => digest other.list == digest key.list
        let good (a : Action) : Prop := match a with
          | .revoke n => alone n ∧ ∃ (slot : Slot) (j : KeyRecord),
              slot.val = n ∧ s.keys.get slot = .active j ∧ slot ≠ m.signer
          | .install n key => alone n ∧ empty n ∧ digest key.list ∉ s.revoked
              ∧ (∀ (x : Slot) (j : KeyRecord), s.keys.get x = .active j → j.fingerprint ≠ digest key.list)
              ∧ m.actions.countP (installs key) = 1
        let survives : Prop := (∃ n key, Action.install n key ∈ m.actions)
          ∨ ∃ (x : Slot) (j : KeyRecord), x.val < 6 ∧ s.keys.get x = .active j ∧ hasBit j.usage 3 = true
              ∧ Action.revoke x.val ∉ m.actions
        let revokes : Nat := m.actions.countP fun a => match a with | .revoke _ => true | .install _ _ => false
        ((∀ a ∈ m.actions, good a) → m.actions ≠ [] →
          (¬survives → answers (.error .badArgument))
            ∧ (survives → 32 < s.revoked.length + revokes → answers (.error .tableFull))
            ∧ (survives → s.revoked.length + revokes ≤ 32 → answers (.ok m)))
        ∧ ∀ before after a, m.actions = before ++ a :: after → (∀ b ∈ before, good b) → ¬good a →
          ((∃ n key, a = .install n key ∧ alone n ∧ empty n ∧ digest key.list ∈ s.revoked) →
              answers (.error .revoked))
            ∧ (¬(∃ n key, a = .install n key ∧ alone n ∧ empty n ∧ digest key.list ∈ s.revoked) →
              answers (.error .badArgument)))

/-- A manifest written out by the layout of R209 parses to the fields it was written from; with any byte more after
its fields, or cut short anywhere, it does not parse. -/
def Obligations.ManifestLayoutParses : Prop :=
  ∀ (cls : ClassNo) (bank : Bank) (trial auto : Bool) (version imageLength : Nat) (imageDigest : Bytes 32)
    (signer : Slot) (label : List Byte) (actions : List Action) (signature : Bytes 64) (extra : List Byte),
    version < 65536 → 1 ≤ imageLength → imageLength ≤ 67108864 → label.length ≤ 16 → actions.length ≤ 3 →
    (∀ a ∈ actions, a.slot < 256) →
    let raw : List Byte :=
      [1, byte cls, bank.toByte, byte (trial.toNat + 2 * auto.toNat)] ++ be16 version ++ be32 imageLength
        ++ imageDigest.list ++ [byte signer, byte label.length] ++ label ++ [byte actions.length]
        ++ (actions.flatMap fun a => match a with
            | .revoke slot => [1, byte slot]
            | .install slot key => [2, byte slot] ++ key.list)
        ++ signature.list
    Manifest.parse raw = some { raw, cls, bank, trial, autoPrepare := auto, version, imageLength, imageDigest, signer,
                                label, actions, signature }
      ∧ (extra ≠ [] → Manifest.parse (raw ++ extra) = none)
      ∧ ∀ n < raw.length, Manifest.parse (raw.take n) = none

/-- A chunk job checks at its start that the stream is ABSORBING; at its end its chunk is absorbed and counted, as the
worked example of section 4.10 has it (log entry 21). Its end returns the stream to RECEIVING, or, when the image is
complete, makes it VERIFIED on a match of the digest and FAILED on a mismatch; a dropped result moves nothing, and one
that a SoC reset has crossed moves nothing and places no reply. A stream that a sweep has failed is answered
STREAM_STATE (R74, R75, R79, R84, R85, R178). AUTO_PREPARE: the final chunk job that finds a match prepares the target
as a step of its own, in the lowest EMPTY entry, and closes the stream; refused, with ROLLBACK, REVOKED, BAD_ARGUMENT or
TARGET_FULL, the stream stays VERIFIED and the reply is OK with the refusal's code (R76, R88). The layout of an
AUTO_PREPARE's reply is the model's (log entry 18). -/
def Obligations.ChunkJobAbsorbs : Prop :=
  (∀ (q : Bool) (chunk absorbed : List Byte) (m : Manifest) (limit n : Nat) (rest : List Job) (s : State),
      (MayStart (stationJob 2 q (.updateData chunk)) rest s →
        (s.stream = .absorbing m limit n absorbed →
          exec .updateDataJobStart s = .next (started (stationJob 2 q (.updateData chunk)) rest [] .blank s))
        ∧ (∀ raw r, s.stream = .failed raw limit n r →
          exec .updateDataJobStart s = .next (turnedDown 2 .streamState .updateData [5, r.toByte] q rest s)))
      ∧ (s.power = .on → s.stream = .absorbing m limit n absorbed →
        s.running = some (fresh (stationJob 2 q (.updateData chunk)) [] .blank []) →
        let received := n + chunk.length
        let image := absorbed ++ chunk
        (received < m.imageLength →
          exec .updateDataJobEnd s
            = .next (ended 2 .ok .updateData (2 :: be32 received) q
                { s with stream := .receiving m limit received image (s.time.uptime + 600) }))
        ∧ (m.imageLength ≤ received → digest image = m.imageDigest → m.autoPrepare = false →
          exec .updateDataJobEnd s
            = .next (ended 2 .ok .updateData (4 :: be32 received) q { s with stream := .verified m limit received }))
        ∧ (m.imageLength ≤ received → digest image ≠ m.imageDigest →
          exec .updateDataJobEnd s
            = .next (ended 2 .digestMismatch .updateData [5, 66] q
                { s with stream := .failed m.raw limit received .digestMismatch,
                         conditions := s.conditions.set 2 (some s.time.uptime) })))
      ∧ ∀ d, s.power = .on →
        let job : Running := fresh (stationJob 2 q (.updateData chunk)) [] d []
        (s.running = some { job with dropped := true } →
          exec .updateDataJobEnd s = .next (ended 2 .aborted .updateData [] q s))
        ∧ ∀ dropped, s.running = some { job with dropped, crossed := true } →
          exec .updateDataJobEnd s = .next (recomputeAttn { s with running := none }))
    ∧ (∀ (q : Bool) (chunk absorbed : List Byte) (m : Manifest) (limit n : Nat) (r : ClassRecord) (s : State),
        s.power = .on → s.stream = .absorbing m limit n absorbed → m.autoPrepare = true →
        s.running = some (fresh (stationJob 2 q (.updateData chunk)) [] .blank []) →
        m.imageLength ≤ n + chunk.length → digest (absorbed ++ chunk) = m.imageDigest →
        s.classes.get m.cls = some r →
        let refused (code : Byte) : Prop := exec .updateDataJobEnd s
          = .next (ended 2 .ok .updateData [4, code] q { s with stream := .verified m limit (n + chunk.length) })
        let placeable : Prop := m.trial = true → m.cls ≠ 2 ∧ r.active ≠ m.bank
        (m.version < r.floor → refused 65)
          ∧ (r.floor ≤ m.version → (∀ k, s.keys.get m.signer ≠ .active k) → refused 35)
          ∧ ∀ k, r.floor ≤ m.version → s.keys.get m.signer = .active k →
            (¬placeable → refused 21)
            ∧ (placeable → (∀ i : TargetNo, s.targets.get i ≠ none) → refused 68)
            ∧ (placeable → ∀ i : TargetNo, s.targets.get i = none → (∀ j < i, s.targets.get j ≠ none) →
              exec .updateDataJobEnd s
                = .next (ended 2 .ok .updateData [0, byte i] q
                    { s with
                      stream := .closed
                      targets := s.targets.set i (some
                        { cls := m.cls, bank := m.bank, version := m.version, digest := m.imageDigest, label := m.label,
                          signer := m.signer, trial := m.trial, actions := m.actions }) })))

/-- The checks at the start of a TARGET_ACTIVATE job, in their order: TARGET_EMPTY, TRIAL_BUSY, ROLLBACK, REVOKED; a
trial needs every class STEADY, a permanent activation its own (R94). A job that passes them begins its class record's
write. A trial activation, from its start to its end: the class is TRIAL_PENDING with 3 attempts and the target's image
in the trial bank, its active bank and floor as before; no chain is extended and the timer does not start (R96). -/
def Obligations.ActivateJobChecksAndTrials : Prop :=
  (∀ (q : Bool) (i : TargetNo) (rest : List Job) (s : State),
      MayStart (stationJob 2 q (.targetActivate i)) rest s →
      let refused (r : Result) : Prop :=
        exec .targetActivateJobStart s = .next (turnedDown 2 r .targetActivate [] q rest s)
      (s.targets.get i = none → refused .targetEmpty)
        ∧ ∀ t r, s.targets.get i = some t → s.classes.get t.cls = some r →
          let free : Prop :=
            r.state = .steady
              ∧ (t.trial = true → ∀ c : ClassNo, ∃ x, s.classes.get c = some x ∧ x.state = .steady)
          (¬free → refused .trialBusy)
            ∧ (free → t.version < r.floor → refused .rollback)
            ∧ (free → r.floor ≤ t.version → (∀ k, s.keys.get t.signer ≠ .active k) → refused .revoked)
            ∧ ∀ k, free → r.floor ≤ t.version → s.keys.get t.signer = .active k →
              exec .targetActivateJobStart s
                = .next (started (stationJob 2 q (.targetActivate i)) rest
                    (if t.trial then [.activateTrial t, .emptyTarget i]
                     else .activate t :: t.actions.map (fun a => .action t.cls a)
                       ++ [.clearDeferred t.cls, .sweepClass t.cls (decide (r.active ≠ t.bank)),
                           .marker { kind := .activate, cls := t.cls, version := t.version }, .emptyTarget i])
                    (.image t) s))
    ∧ (∀ (q : Bool) (i : TargetNo) (t : Target) (k : KeyRecord) (rest : List Job) (r : ClassRecord) (s : State),
        MayStart (stationJob 2 q (.targetActivate i)) rest s → s.targets.get i = some t → t.trial = true →
        (∀ c : ClassNo, ∃ x, s.classes.get c = some x ∧ x.state = .steady) → s.classes.get t.cls = some r →
        r.floor ≤ t.version → s.keys.get t.signer = .active k →
        let image : Option ImageRecord := some { version := t.version, digest := t.digest, label := t.label,
                                                 signer := t.signer, stale := false }
        let record : ClassRecord :=
          { floor := r.floor, active := r.active, state := .pending t.bank 3, deferred := t.actions,
            imageA := if t.bank = .a then image else r.imageA, imageB := if t.bank = .b then image else r.imageB }
        execAll [.targetActivateJobStart, .targetActivateJobEnd] s
          = .next (ended 2 .ok .targetActivate ([byte t.cls, t.bank.toByte] ++ be16 t.version ++ [1]) q
              { s with
                queue := rest
                classes := s.classes.set t.cls (some record)
                store := { s.store with classes := s.store.classes.set t.cls record }
                targets := s.targets.set i none }))

/-- A permanent activation without actions, from its start to its end: the class takes the target's image, bank and
floor and marks the other bank stale when it falls below the floor; the store agrees; the target is gone, and the sweep
empties the targets and fails with ROLLBACK the stream of the class that fall below the floor, and empties the trials of
the new active bank; chain 10 alone is extended, with the ACTIVATE marker: value, count, flags and log entry; the reply
carries class, bank, version and floor; nothing else changes (R35, R38, R41, R82, R95, R108, R109). -/
def Obligations.PermanentActivationRaisesFloor : Prop :=
  ∀ (q : Bool) (i : TargetNo) (t : Target) (r : ClassRecord) (k : KeyRecord) (rest : List Job) (s : State),
    MayStart (stationJob 2 q (.targetActivate i)) rest s → s.targets.get i = some t → t.trial = false →
    t.actions = [] → s.classes.get t.cls = some r → r.state = .steady → r.floor ≤ t.version →
    s.keys.get t.signer = .active k →
    ∃ u record, execAll [.targetActivateJobStart, .targetActivateJobEnd] s = .next u
      ∧ u.classes.get t.cls = some record ∧ u.store.classes.get t.cls = record
      ∧ record.active = t.bank ∧ record.floor = t.version ∧ record.state = .steady ∧ record.deferred = []
      ∧ record.image t.bank = some { version := t.version, digest := t.digest, label := t.label, signer := t.signer,
                                     stale := false }
      ∧ (∀ other : Bank, other ≠ t.bank → record.image other
          = (r.image other).map fun x => { x with stale := x.stale || decide (x.version < t.version) })
      ∧ (∀ c, c ≠ t.cls → u.classes.get c = s.classes.get c ∧ u.store.classes.get c = s.store.classes.get c)
      ∧ u.targets.get i = none
      ∧ (∀ j x, j ≠ i → s.targets.get j = some x → x.cls = t.cls →
          (x.version < t.version ∨ r.active ≠ t.bank ∧ x.trial = true ∧ x.bank = t.bank) → u.targets.get j = none)
      ∧ (∀ j x, j ≠ i → s.targets.get j = some x →
          (x.cls ≠ t.cls ∨ t.version ≤ x.version ∧ (r.active = t.bank ∨ x.trial = false ∨ x.bank ≠ t.bank)) →
          u.targets.get j = some x)
      ∧ (∀ j, s.targets.get j = none → u.targets.get j = none)
      ∧ u.stream = s.stream.afterFloor t.cls t.version
      ∧ (∀ x, u.conditions.get x =
          if x = 2 ∧ u.stream ≠ s.stream ∨ x = 1 ∧ 128 ≤ s.log.length then some s.time.uptime else s.conditions.get x)
      ∧ PartExtended 10 ([1, byte t.cls] ++ be16 t.version) s u
      ∧ u.stations = s.stations.set 2
          { s.stations.get 2 with
            slot := some { result := .ok, code := 52, notice := !q,
                           body := [byte t.cls, t.bank.toByte] ++ be16 t.version ++ be16 t.version } }
      ∧ u = { s with
              queue := rest, running := none, stations := u.stations, classes := u.classes, targets := u.targets,
              stream := u.stream, chains := u.chains, log := u.log, conditions := u.conditions, attn := u.attn
              store := { s.store with classes := u.store.classes } }

/-- A confirm without deferred actions, from its start to its end: the trial bank is active, the floor rises to the
trial version, the class is STEADY, the timer is stopped and the hold clear even past the deadline, the sweep empties
the targets and fails with ROLLBACK the stream of the class that fall below the floor, and empties the trials of the new
active bank, and chain 10 alone is extended, with the CONFIRM marker: value, count, flags and log entry; nothing else
changes. Without the hold, or out of TRIAL_BOOTING, it ends with STREAM_STATE, the hold is cleared, and a timer past its
deadline expires (R35, R38, R41, R82, R101, R107, R108, R109). -/
def Obligations.ConfirmMakesTrialPermanent : Prop :=
  ∀ (q : Bool) (c : ClassNo) (r : ClassRecord) (rest : List Job) (s : State),
    MayStart (stationJob 2 q (.bootConfirm c)) rest s → s.classes.get c = some r →
    ((s.hold = false ∨ ∀ bank n, r.state ≠ .booting bank n) →
      let overdue : Bool := match s.timer with | .running _ reached => reached | _ => false
      exec .bootConfirmJobStart s = .next (turnedDown 2 .streamState .bootConfirm [] q rest
        { s with
          hold := false
          timer := if overdue then .expired else s.timer
          time := { s.time with pulse := if overdue ∧ s.time.pulse = .idle then .driving 0 else s.time.pulse } }))
    ∧ ∀ bank n image, r.state = .booting bank n → s.hold = true → r.image bank = some image → r.deferred = [] →
      ∃ u record, execAll [.bootConfirmJobStart, .bootConfirmJobEnd] s = .next u
        ∧ u.classes.get c = some record ∧ u.store.classes.get c = record
        ∧ record.active = bank ∧ record.floor = max r.floor image.version ∧ record.state = .steady
        ∧ record.deferred = []
        ∧ (bank ≠ r.active → record.image bank = some image
            ∧ record.image r.active
              = (r.image r.active).map fun x =>
                  { x with stale := x.stale || decide (x.version < max r.floor image.version) })
        ∧ (∀ x, x ≠ c → u.classes.get x = s.classes.get x ∧ u.store.classes.get x = s.store.classes.get x)
        ∧ u.timer = .stopped ∧ u.hold = false ∧ u.time = s.time
        ∧ (let floor := max r.floor image.version
           (∀ j, u.targets.get j = (s.targets.get j).filter fun x => !(decide (x.cls = c)
              && (decide (x.version < floor) || decide (bank ≠ r.active) && x.trial && decide (x.bank = bank))))
            ∧ u.stream = s.stream.afterFloor c floor)
        ∧ (∀ x, u.conditions.get x =
            if x = 2 ∧ u.stream ≠ s.stream ∨ x = 1 ∧ 128 ≤ s.log.length then some s.time.uptime
            else s.conditions.get x)
        ∧ PartExtended 10 ([2, byte c] ++ be16 image.version) s u
        ∧ u.stations = s.stations.set 2 { s.stations.get 2 with slot := (u.stations.get 2).slot }
        ∧ (bank ≠ r.active → (u.stations.get 2).slot = some
            { result := .ok, code := 56, notice := !q,
              body := [byte c, bank.toByte] ++ be16 image.version ++ be16 (max r.floor image.version) })
        ∧ u = { s with
                queue := rest, running := none, stations := u.stations, classes := u.classes, targets := u.targets,
                stream := u.stream, chains := u.chains, log := u.log, conditions := u.conditions, attn := u.attn
                timer := .stopped, hold := false, store := { s.store with classes := u.store.classes } }

/-- One deferred action, as a step of a job: a REVOKE that applies appends the fingerprint to the list, empties the slot
and hands it to the sweep; an INSTALL_VENDOR_KEY that applies writes the vendor record; an action that does not apply is
skipped and raises ACTION_SKIPPED, and the key table stays as it is. The list's write completes before the write that
removes the slot's record (R6, R8, R83, R98, R99, R109). A permanent activation and a confirm apply their actions and
carry an outcome for each in the reply, and extend chain 10 with their marker: of one action, APPLIED or SKIPPED as its
conditions hold. Start-up finishes an action that a loss of power has left, and makes no marker (R95, R97, R107). The
slot is EMPTY from the list's write on by log entry 20, the writes of a job complete one at a time by log entry 5, and
the outcomes' layout is log entry 18's. -/
def Obligations.DeferredActionsApplyOrSkip : Prop :=
  ∀ (c : ClassNo) (slot : Slot) (key : Bytes 64) (r : ClassRecord) (i : ImageRecord) (s : State),
    s.classes.get c = some r → r.image r.active = some i →
    let survives : Prop := ∃ x j, x ≠ slot ∧ x.val < 6 ∧ s.keys.get x = .active j ∧ hasBit j.usage 3 = true
    let revoke : JobStep := .action c (.revoke slot)
    let install : JobStep := .action c (.install slot key)
    let fp : Bytes 32 := digest key.list
    let held : Prop := ∃ x j, s.keys.get x = .active j ∧ j.fingerprint = fp
    let vendor : KeyRecord :=
      { material := .verifying key, origin := .update, persistence := .persistent, usage := 8, mask := 7,
        binding := none, ownerHeld := false, fingerprint := fp, label := [] }
    (∀ k, slot.val < 6 → s.keys.get slot = .active k → i.signer ≠ slot → s.revoked.length < 32 → survives →
      (revoke.finish s).revoked = s.revoked ++ [k.fingerprint]
        ∧ (revoke.finish s).store.revocation = s.revoked ++ [k.fingerprint]
        ∧ (revoke.finish s).store.keys = s.store.keys.set slot none
        ∧ (revoke.finish s).keys = s.keys.set slot .empty
        ∧ (revoke.finish s).conditions.get 3 = some s.time.uptime
        ∧ (∀ j, (revoke.finish s).targets.get j = (s.targets.get j).filter fun x => decide (x.signer ≠ slot))
        ∧ (revoke.finish s).stream = s.stream.afterSlot slot
        ∧ ((revoke.finish s).conditions.get 2
            = if (revoke.finish s).stream ≠ s.stream then some s.time.uptime else s.conditions.get 2)
        ∧ ∀ x todo, s.power = .on → s.running = some x → x.todo = revoke :: todo →
          ∃ t u, exec .storeWriteComplete s = .next t
            ∧ t = { s with
                    store := { s.store with revocation := s.revoked ++ [k.fingerprint] }
                    revoked := s.revoked ++ [k.fingerprint], keys := s.keys.set slot .empty, attn := t.attn
                    running := some { x with todo := .revokeSlot slot :: todo, outcomes := x.outcomes ++ [.applied] } }
            ∧ exec .storeWriteComplete t = .next u
            ∧ u.store = { t.store with keys := s.store.keys.set slot none }
            ∧ u.conditions.get 3 = some s.time.uptime)
    ∧ ((6 ≤ slot.val ∨ (∀ k, s.keys.get slot ≠ .active k) ∨ i.signer = slot ∨ 32 ≤ s.revoked.length ∨ ¬survives) →
      (revoke.finish s).keys = s.keys ∧ (revoke.finish s).revoked = s.revoked ∧ (revoke.finish s).store = s.store
        ∧ (revoke.finish s).conditions.get 4 = some s.time.uptime)
    ∧ (slot.val < 6 → s.keys.get slot = .empty → fp ∉ s.revoked → ¬held →
      (install.finish s).keys = s.keys.set slot (.active vendor)
        ∧ (install.finish s).store = { s.store with keys := s.store.keys.set slot (some vendor) }
        ∧ (install.finish s).conditions = s.conditions)
    ∧ ((6 ≤ slot.val ∨ s.keys.get slot ≠ .empty ∨ fp ∈ s.revoked ∨ held) →
      (install.finish s).keys = s.keys ∧ (install.finish s).revoked = s.revoked ∧ (install.finish s).store = s.store
        ∧ (install.finish s).conditions.get 4 = some s.time.uptime)
    ∧ (∀ (q : Bool) (index : TargetNo) (t : Target) (k : KeyRecord) (rest : List Job),
        MayStart (stationJob 2 q (.targetActivate index)) rest s → s.targets.get index = some t → t.trial = false →
        t.cls = c → r.state = .steady → r.floor ≤ t.version → s.keys.get t.signer = .active k →
        ∃ u outcomes, execAll [.targetActivateJobStart, .targetActivateJobEnd] s = .next u
          ∧ u.stations = s.stations.set 2
              { s.stations.get 2 with
                slot := some { result := .ok, code := 52, notice := !q,
                               body := [byte c, t.bank.toByte] ++ be16 t.version ++ be16 t.version ++ outcomes } }
          ∧ PartExtended 10 ([1, byte c] ++ be16 t.version) s u
          ∧ outcomes.length = t.actions.length ∧ (∀ o ∈ outcomes, o = 1 ∨ o = 2) ∧ u.running = none
          ∧ (∃ record, u.classes.get c = some record ∧ record.deferred = [] ∧ u.store.classes.get c = record)
          ∧ (∀ x, x ≠ c → u.classes.get x = s.classes.get x ∧ u.store.classes.get x = s.store.classes.get x)
          ∧ (∀ k, k = 0 ∨ 5 ≤ k.val → u.conditions.get k = s.conditions.get k)
          ∧ u = { s with
                  queue := rest, running := none, stations := u.stations, keys := u.keys, revoked := u.revoked
                  chains := u.chains, log := u.log, stream := u.stream, targets := u.targets, classes := u.classes
                  conditions := u.conditions, attn := u.attn
                  store := { s.store with revocation := u.store.revocation, keys := u.store.keys,
                                          classes := u.store.classes } }
          ∧ ∀ a, t.actions = [a] →
            (ActionApplies a t.signer s → outcomes = [1] ∧ ActionDone a s u)
              ∧ (¬ActionApplies a t.signer s → outcomes = [2] ∧ ActionSkipped s u))
    ∧ (∀ (q : Bool) (bank : Bank) (n : Nat) (image : ImageRecord) (rest : List Job),
        MayStart (stationJob 2 q (.bootConfirm c)) rest s → r.state = .booting bank n → s.hold = true →
        r.image bank = some image → bank ≠ r.active →
        ∃ u outcomes, execAll [.bootConfirmJobStart, .bootConfirmJobEnd] s = .next u
          ∧ u.stations = s.stations.set 2
              { s.stations.get 2 with
                slot := some { result := .ok, code := 56, notice := !q,
                               body := [byte c, bank.toByte] ++ be16 image.version
                                 ++ be16 (max r.floor image.version) ++ outcomes } }
          ∧ PartExtended 10 ([2, byte c] ++ be16 image.version) s u
          ∧ outcomes.length = r.deferred.length ∧ (∀ o ∈ outcomes, o = 1 ∨ o = 2) ∧ u.running = none
          ∧ (∃ record, u.classes.get c = some record ∧ record.deferred = [] ∧ u.store.classes.get c = record)
          ∧ (∀ x, x ≠ c → u.classes.get x = s.classes.get x ∧ u.store.classes.get x = s.store.classes.get x)
          ∧ (∀ k, k = 0 ∨ 5 ≤ k.val → u.conditions.get k = s.conditions.get k)
          ∧ u = { s with
                  queue := rest, running := none, stations := u.stations, keys := u.keys, revoked := u.revoked
                  chains := u.chains, log := u.log, stream := u.stream, targets := u.targets, classes := u.classes
                  conditions := u.conditions, attn := u.attn, timer := .stopped, hold := false
                  store := { s.store with revocation := u.store.revocation, keys := u.store.keys,
                                          classes := u.store.classes } }
          ∧ ∀ a, r.deferred = [a] →
            (ActionApplies a image.signer s → outcomes = [1] ∧ ActionDone a s u)
              ∧ (¬ActionApplies a image.signer s → outcomes = [2] ∧ ActionSkipped s u))
    ∧ ∀ (landed : Bool) (a : Action) (x : State), MayStartUp x → x.store.resetMark = false →
        x.store.classes.get c = r → r.state = .steady → r.deferred = [a] →
        (∀ other, other ≠ c → (x.store.classes.get other).AtRest) →
        ∃ t, exec (.partReset { landed, bad := [], trouble := .none }) x = .next t
          ∧ (ActionApplies a i.signer (upFrom x) → ActionDone a (upFrom x) t)
          ∧ (¬ActionApplies a i.signer (upFrom x) → ActionSkipped (upFrom x) t)
          ∧ t.classes.get c = some { r with deferred := [] } ∧ t.store.classes.get c = { r with deferred := [] }
          ∧ (∀ other, other ≠ c →
              t.classes.get other = some (x.store.classes.get other)
              ∧ t.store.classes.get other = x.store.classes.get other)
          ∧ (∀ k, k ≠ 3 → k ≠ 4 → t.conditions.get k = none)
          ∧ t = { upFrom x with
                  keys := t.keys, revoked := t.revoked, classes := t.classes, conditions := t.conditions
                  store := { (upFrom x).store with keys := t.store.keys, revocation := t.store.revocation,
                                                   classes := t.store.classes } }

/-- A TRIAL_ACCOUNT job by the state it finds, at its start, at its end and over both: without a trial it ends with no
write; from TRIAL_PENDING the class becomes TRIAL_BOOTING with 2 left and the timer is started; with 1 or 2 left it has
one attempt less, the timer is started and TRIAL_ATTEMPT_FAILED is raised; with none left the trial is reverted, which
extends chain 10 with the REVERT marker, raises TRIAL_REVERTED and starts no timer; nothing else changes (R41, R103,
R104). The timer runs to one trial window ahead, its hold clear (R100). A job that a SoC reset has crossed makes its
write and starts no timer (R103). The class record's write comes first; the timer's start and the condition come at the
job's end (log entry 5). Start-up makes the same accounting once, and leaves the timer to be started at its end (R105);
that it is then started by START_UP_END is the model's reading (log entry 25). An accounting write that fails in
start-up, whatever it was to count or revert, raises NV_WRITE_FAILED, leaves the class as it was loaded, and starts no
timer (R204); what ends the finishing work after a failed write is log entry 35's reading. -/
def Obligations.TrialAccountingCountsBoots : Prop :=
  ∀ (c : ClassNo) (r : ClassRecord),
    let reverted (bank : Bank) (image : ImageRecord) (x u : State) : Prop := ∃ record : ClassRecord,
      record.state = .steady ∧ record.deferred = [] ∧ record.active = r.active ∧ record.floor = r.floor
        ∧ record.image bank = some { image with stale := true }
        ∧ (∀ other : Bank, other ≠ bank → record.image other = r.image other)
        ∧ PartExtended 10 ([3, byte c] ++ be16 image.version) x u
        ∧ (∀ k, u.conditions.get k =
            if k = 6 ∨ k = 1 ∧ 128 ≤ x.log.length then some x.time.uptime else x.conditions.get k)
        ∧ u = { x with
                classes := x.classes.set c (some record), chains := u.chains, log := u.log
                conditions := u.conditions, attn := u.attn
                store := { x.store with classes := x.store.classes.set c record } }
    let revertSteps (image : ImageRecord) : List JobStep :=
      [.revert c, .marker { kind := .revert, cls := c, version := image.version }, .raise .trialReverted]
    (∀ (rest : List Job) (s : State), MayStart .trialAccount rest s →
      let does : List Instr := [.trialAccountJobStart, .trialAccountJobEnd]
      let counted (state : ClassState) (raise : Bool) : Prop :=
        exec .trialAccountJobStart s = .next (started .trialAccount rest [.account c] (.accounted c raise) s)
        ∧ execAll does s = .next (recomputeAttn
          { s with
            queue := rest
            classes := s.classes.set c (some { r with state })
            store := { s.store with classes := s.store.classes.set c { r with state } }
            conditions := if raise then s.conditions.set 5 (some s.time.uptime) else s.conditions
            timer := .running (s.time.uptime + BitVec.ofNat 32 s.settings.trialWindow) false
            hold := false })
        ∧ execAll [.trialAccountJobStart, .storeWriteComplete] s = .next (recomputeAttn
          { s with
            queue := rest
            classes := s.classes.set c (some { r with state })
            store := { s.store with classes := s.store.classes.set c { r with state } }
            running := some (fresh .trialAccount [] (.accounted c raise) []) })
      ((∀ x y, s.classes.get x = some y → y.state = .steady) →
        exec .trialAccountJobStart s = .next (started .trialAccount rest [] .blank s)
          ∧ execAll does s = .next (recomputeAttn { s with queue := rest }))
      ∧ (s.classes.get c = some r → (∀ x y, x ≠ c → s.classes.get x = some y → y.state = .steady) →
        (∀ bank n, r.state = .pending bank n → counted (.booting bank 2) false)
        ∧ (∀ bank n, r.state = .booting bank (n + 1) → counted (.booting bank n) true)
        ∧ ∀ bank image, r.state = .booting bank 0 → r.image bank = some image →
          exec .trialAccountJobStart s = .next (started .trialAccount rest (revertSteps image) .blank s)
          ∧ ∃ u, execAll does s = .next u ∧ reverted bank image { s with queue := rest } u))
    ∧ (∀ (failed crossed : Bool) (x : State), x.power = .on →
      let job (todo : List JobStep) (d : JobData) : Running := { fresh .trialAccount todo d [] with crossed }
      let finished : State :=
        { x with
          running := none
          conditions := if failed then x.conditions.set 5 (some x.time.uptime) else x.conditions
          timer := if crossed then x.timer
            else .running (x.time.uptime + BitVec.ofNat 32 x.settings.trialWindow) false
          hold := if crossed then x.hold else false }
      let counted (state : ClassState) : Prop := exec .trialAccountJobEnd x = .next (recomputeAttn
        { finished with
          classes := x.classes.set c (some { r with state })
          store := { x.store with classes := x.store.classes.set c { r with state } } })
      (x.running = some (job [] .blank) →
        exec .trialAccountJobEnd x = .next (recomputeAttn { x with running := none }))
      ∧ (x.running = some (job [] (.accounted c failed)) →
        exec .trialAccountJobEnd x = .next (recomputeAttn finished))
      ∧ (x.classes.get c = some r →
        (x.running = some (job [.account c] (.accounted c failed)) →
          (∀ bank n, r.state = .pending bank n → counted (.booting bank 2))
            ∧ ∀ bank n, r.state = .booting bank (n + 1) → counted (.booting bank n))
        ∧ ∀ bank image, r.state = .booting bank 0 → r.image bank = some image →
          x.running = some (job (revertSteps image) .blank) →
          ∃ u, exec .trialAccountJobEnd x = .next u ∧ reverted bank image { x with running := none } u))
    ∧ ∀ (landed : Bool) (x : State), MayStartUp x → x.store.resetMark = false → x.store.classes.get c = r →
      r.state ≠ .steady → (∀ other, other ≠ c → (x.store.classes.get other).AtRest) →
      let starts (t : State) : Prop := exec (.partReset { landed, bad := [], trouble := .none }) x = .next t
      let counted (state : ClassState) (raise : Bool) : Prop := starts { upFrom x with
        power := .startUp true
        classes := (upFrom x).classes.set c (some { r with state })
        store := { (upFrom x).store with classes := x.store.classes.set c { r with state } }
        conditions := if raise then (upFrom x).conditions.set 5 (some 0) else (upFrom x).conditions }
      (∀ bank n, r.state = .pending bank n → counted (.booting bank 2) false)
      ∧ (∀ bank n, r.state = .booting bank (n + 1) → counted (.booting bank n) true)
      ∧ (∀ bank image, r.state = .booting bank 0 → r.image bank = some image →
        ∃ t, starts t ∧ t.attn = false ∧ reverted bank image (upFrom x) t)
      ∧ ((∀ slot k, x.store.keys.get slot = some k → k.fingerprint ∉ x.store.revocation) →
        ∀ new : Bool, ∃ record : ClassRecord,
          exec (.partReset { landed, bad := [], trouble := .writeFails 1 new }) x
            = .next { upFrom x with
                store := { (upFrom x).store with classes := x.store.classes.set c record }
                conditions := (upFrom x).conditions.set 9 (some 0) }
          ∧ (new = false → record = r) ∧ record.floor = r.floor ∧ record.active = r.active
          ∧ (new = true →
              (∀ bank n, r.state = .pending bank n → record = { r with state := .booting bank 2 })
              ∧ (∀ bank n, r.state = .booting bank (n + 1) → record = { r with state := .booting bank n })
              ∧ ∀ bank, r.state = .booting bank 0 → record.state = .steady ∧ record.deferred = []))

/-! ### The jobs of the credential table and the settings -/

/-- A CRED_SET job checks the grant and the SET state again, then writes the new record. When it ends, a new credential
starts with a penalty and streak of 0 and no lockout, the claim extends chain 11, and a change keeps the governor's
fields and ends the grants that the credential issued; nothing else changes; the reply is the credential's information
byte by byte (R119, R120, R128, R210). The salt is a free value drawn by the model's own counter (log entry 8). -/
def Obligations.CredSetJobStores : Prop :=
  ∀ (st : Station) (q change needed : Bool) (p : CredParams) (contents : CredContents) (rest : List Job) (s : State),
    let job : Job := stationJob st q (.credSet p change needed)
    (MayStart job rest s →
      (needed = true → (s.stations.get st).grant = none →
        exec .credSetJobStart s
          = .next (turnedDown st .noGrant .credSet [] q rest (if change then s else { s with
              creds := s.creds.set p.id (match s.creds.get p.id with | .reserved => .empty | other => other) })))
      ∧ ((needed = true → (s.stations.get st).grant ≠ none) → change = true → (∀ r, s.creds.get p.id ≠ .held r) →
        exec .credSetJobStart s = .next (turnedDown st .slotEmpty .credSet [] q rest s))
      ∧ ((needed = true → (s.stations.get st).grant ≠ none) → (change = true → ∃ r, s.creds.get p.id = .held r) →
        let salt := freshSalt s.entropy
        exec .credSetJobStart s
          = .next (started job rest [.credRecord p.id]
              (.credential
                { kind := p.kind, label := p.label, grants := p.grants, freeRelease := p.freeRelease,
                  releaseMask := p.releaseMask, salt, verifier := digest (salt.list ++ p.secret),
                  value := if p.kind = .secret then p.secret else [] })
              { s with entropy := s.entropy + 1 })))
    ∧ (s.power = .on → s.running = some (fresh job [.credRecord p.id] (.credential contents) []) →
      ∃ t, exec .credSetJobEnd s = .next t ∧ t.running = none
        ∧ (∀ x, t.stations.get x =
            { s.stations.get x with
              grant := (t.stations.get x).grant
              slot := if x = st then
                  some { result := .ok, code := 64, body := credentialInfo p.id st t, notice := !q }
                else (s.stations.get x).slot })
        ∧ (∀ r, t.creds.get p.id = .held r → credentialInfo p.id st t =
            [byte p.id, 2, r.contents.kind.toByte, byte (r.contents.grants.toNat + 2 * r.contents.freeRelease.toNat),
                r.contents.releaseMask, byte r.contents.value.length] ++ be16 r.penalty ++ [byte r.streak]
              ++ be16 (match r.lockout with
                | .absent => 0
                | .deadline d => (d - s.time.uptime).toNat
                | .pending delay => delay)
              ++ byte r.contents.label.length :: r.contents.label
              ++ [(match t.creds.get 0 with | .held _ => 1 | _ => 0 : Byte)]
              ++ (match (t.stations.get st).grant with
                | some g => 1 :: byte g.credential :: be16 (g.deadline - s.time.uptime).toNat
                | none => [0, 0, 0, 0]))
        ∧ (∀ r, change = true → s.creds.get p.id = .held r →
            t.creds = s.creds.set p.id (.held { r with contents })
            ∧ t.chains = s.chains ∧ t.log = s.log ∧ t.conditions = s.conditions
            ∧ t.store = { s.store with
                creds := s.store.creds.set p.id (some { contents, penalty := r.penalty, streak := r.streak }) }
            ∧ ∀ x, (t.stations.get x).grant = (s.stations.get x).grant.filter fun g => decide (g.credential ≠ p.id))
        ∧ (change = false → (∀ r, s.creds.get p.id ≠ .held r) →
            t.creds = s.creds.set p.id (.held { contents, penalty := 0, streak := 0, lockout := .absent })
            ∧ t.store = { s.store with creds := s.store.creds.set p.id (some { contents, penalty := 0, streak := 0 }) }
            ∧ (∀ x, (t.stations.get x).grant = (s.stations.get x).grant)
            ∧ (p.id ≠ 0 → t.chains = s.chains ∧ t.log = s.log ∧ t.conditions = s.conditions)
            ∧ (p.id = 0 → PartExtended 11 [5, 0, 0, 0] s t ∧ ∀ k, t.conditions.get k =
                if k = 1 ∧ 128 ≤ s.log.length then some s.time.uptime else s.conditions.get k))
        ∧ t = { s with
                running := none, creds := t.creds, store := t.store, stations := t.stations, chains := t.chains
                log := t.log, conditions := t.conditions, attn := t.attn })

/-- A CRED_VERIFY job answers SLOT_EMPTY, or LOCKED with the remaining delay while a lockout is in force and changes
no governor field; else it goes on to write its charge, and nothing is compared yet (R122). The charge's write
completes: the streak is raised by 1 up to 255, the penalty by 40 plus 8 times the smaller of the new streak and 10 up
to 1,023, in the store and in working state, the rise is noted, and then the candidate is compared (R122, R139). That
the charge is worked from the penalty as it stands when its write completes is log entry 22's reading, and that the
write is one command of its own log entry 5's. -/
def Obligations.VerifyJobChargesBeforeComparing : Prop :=
  (∀ (st : Station) (q : Bool) (id : CredId) (candidate : List Byte) (rest : List Job) (s : State),
      MayStart (stationJob st q (.credVerify id candidate)) rest s →
      ((∀ r, s.creds.get id ≠ .held r) →
        exec .credVerifyJobStart s = .next (turnedDown st .slotEmpty .credVerify [] q rest s))
      ∧ ∀ r, s.creds.get id = .held r →
        (∀ d, r.lockout = .deadline d → d ≠ s.time.uptime →
          exec .credVerifyJobStart s
            = .next (turnedDown st .locked .credVerify (be16 (d - s.time.uptime).toNat) q rest s))
        ∧ (∀ delay, r.lockout = .pending delay →
          exec .credVerifyJobStart s = .next (turnedDown st .locked .credVerify (be16 delay) q rest s))
        ∧ (r.lockout = .absent →
          exec .credVerifyJobStart s
            = .next (started (stationJob st q (.credVerify id candidate)) rest
                [.charge id, .compare id candidate, .success id] (.comparison 0 0 false) s)))
    ∧ (∀ (st : Station) (q : Bool) (id : CredId) (candidate : List Byte) (d : JobData) (r : CredRecord) (s : State),
        s.power = .on → s.creds.get id = .held r →
        s.running = some (fresh (stationJob st q (.credVerify id candidate)) [.charge id, .compare id candidate, .success id] d []) →
        let streak := min (r.streak + 1) 255
        let penalty := min (r.penalty + (40 + 8 * min streak 10)) 1023
        let matched := digest (r.contents.salt.list ++ candidate) == r.contents.verifier
        exec .credVerifyChargeWritten s
          = .next (recomputeAttn { s with
              store := { s.store with creds := s.store.creds.set id (some { contents := r.contents, penalty, streak }) }
              creds := s.creds.set id (.held { r with penalty, streak })
              running := some (fresh (stationJob st q (.credVerify id candidate)) (if matched then [.success id] else [])
                (.comparison penalty (penalty - r.penalty) matched) []) }))

/-- A CRED_VERIFY job ends. A mismatch starts the lockout of the charged penalty and raises LOCKOUT_STARTED when its
delay is not 0, also when a SoC reset has gone by, but then no reply is placed. A match writes the success, the charge's
own rise taken back and the rest halved, streak 0, and issues a grant when the credential holds GRANTS, unless a SoC
reset has gone by (R123, R124, R130, R142, R144). The bytes of the OK reply, the grant's deadline after a presence byte
as R205 encodes an optional field, are the model's layout (log entry 18). -/
def Obligations.VerifyJobLocksOrGrants : Prop :=
  ∀ (st : Station) (q : Bool) (id : CredId) (candidate : List Byte) (charged amount : Nat) (r : CredRecord)
    (s : State),
    s.power = .on → s.creds.get id = .held r →
    let job : Job := stationJob st q (.credVerify id candidate)
    let delay := lockoutDelay charged
    let penalty := (r.penalty - amount) / 2
    let stored : State := { s with
      store := { s.store with creds := s.store.creds.set id (some { contents := r.contents, penalty, streak := 0 }) }
      creds := s.creds.set id (.held { r with penalty, streak := 0 }) }
    let deadline := s.time.uptime + BitVec.ofNat 32 s.settings.grantWindow
    let failed : State := if delay = 0 then { s with creds := s.creds.set id (.held r) } else { s with
      creds := s.creds.set id (.held { r with lockout := .deadline (s.time.uptime + BitVec.ofNat 32 delay) })
      conditions := s.conditions.set 7 (some s.time.uptime) }
    (s.running = some (fresh job [] (.comparison charged amount false) []) →
      exec .credVerifyJobEnd s = .next (ended st .mismatch .credVerify (be16 delay) q failed))
    ∧ (s.running = some { fresh job [] (.comparison charged amount false) [] with crossed := true } →
      exec .credVerifyJobEnd s = .next (recomputeAttn { failed with running := none }))
    ∧ (s.running = some (fresh job [.success id] (.comparison charged amount true) []) →
      (r.contents.grants = false →
        exec .credVerifyJobEnd s = .next (ended st .ok .credVerify [0, 0, 0, 0, 0] q stored))
      ∧ (r.contents.grants = true →
        exec .credVerifyJobEnd s
          = .next (ended st .ok .credVerify (1 :: be32 deadline.toNat) q
              (let granted : StationRec := { s.stations.get st with grant := some ⟨id, deadline⟩ }
               { stored with stations := s.stations.set st granted }))))
    ∧ (s.running = some { fresh job [.success id] (.comparison charged amount true) [] with crossed := true } →
      exec .credVerifyJobEnd s = .next (recomputeAttn { stored with running := none }))

/-- The lockout delay of a penalty: 0 below 128, else the square of the penalty less 96 over 16, at most 36,000; it
never falls as the penalty rises, and it stands at 36,000 from 855. No charge, success or decay leaves a penalty above
1,023 (R141). -/
def Obligations.LockoutDelayIsTheTable : Prop :=
  (∀ p < 128, lockoutDelay p = 0)
    ∧ (∀ p, 128 ≤ p → lockoutDelay p = min ((p - 96) ^ 2 / 16) 36000)
    ∧ (∀ p, lockoutDelay p ≤ 36000)
    ∧ (∀ p streak, chargedPenalty p streak ≤ 1023)
    ∧ (∀ p amount isDecay, p ≤ 1023 → forgivenPenalty p amount ≤ 1023 ∧ decayed isDecay p ≤ 1023)
    ∧ (∀ p p', p ≤ p' → lockoutDelay p ≤ lockoutDelay p')
    ∧ (∀ p, 855 ≤ p ↔ lockoutDelay p = 36000)
    ∧ lockoutDelay 127 = 0 ∧ lockoutDelay 128 = 64 ∧ lockoutDelay 168 = 324 ∧ lockoutDelay 236 = 1225
    ∧ lockoutDelay 303 = 2678 ∧ lockoutDelay 615 = 16835 ∧ lockoutDelay 840 = 34596 ∧ lockoutDelay 854 = 35910
    ∧ lockoutDelay 855 = 36000 ∧ lockoutDelay 1023 = 36000

/-- A CRED_RELEASE job makes its checks again and answers with the stored value, laid out as a length byte and the
value, which is the model's choice (log entry 18); a CRED_CLEAR job tests its grant and the SET state, removes the
record, and when it ends the credential is EMPTY and its grants are ended (R126, R127). A SETTINGS_WRITE job brings
each selected value into its range, the address base first rounded down to a multiple of 4, and takes the others from
the stored record. Its end leaves the record in the store and the working settings on the new values but for the
address base (R202). -/
def Obligations.ReleaseClearAndSettingsJobs : Prop :=
  (∀ (st : Station) (q : Bool) (id : CredId) (rest : List Job) (s : State),
      let granted : Prop := (s.stations.get st).grant ≠ none
      (MayStart (stationJob st q (.credRelease id)) rest s →
        let refused (r : Result) : Prop :=
          exec .credReleaseJobStart s = .next (turnedDown st r .credRelease [] q rest s)
        ((∀ r, s.creds.get id ≠ .held r) → refused .slotEmpty)
          ∧ ∀ r, s.creds.get id = .held r →
            (r.contents.kind = .verifier → refused .badArgument)
            ∧ (r.contents.kind = .secret → hasBit r.contents.releaseMask st = false → refused .notPermitted)
            ∧ (r.contents.kind = .secret → hasBit r.contents.releaseMask st = true → r.contents.freeRelease = false →
                ¬granted → refused .noGrant)
            ∧ (r.contents.kind = .secret → hasBit r.contents.releaseMask st = true →
                (r.contents.freeRelease = true ∨ granted) →
                exec .credReleaseJobStart s
                  = .next (started (stationJob st q (.credRelease id)) rest []
                      (.value (byte r.contents.value.length :: r.contents.value)) s)))
      ∧ (∀ bytes, s.power = .on →
        s.running = some (fresh (stationJob st q (.credRelease id)) [] (.value bytes) []) →
        exec .credReleaseJobEnd s = .next (ended st .ok .credRelease bytes q s))
      ∧ (MayStart (stationJob st q (.credClear id)) rest s →
        (¬granted → exec .credClearJobStart s = .next (turnedDown st .noGrant .credClear [] q rest s))
        ∧ (granted → (∀ r, s.creds.get id ≠ .held r) →
          exec .credClearJobStart s = .next (turnedDown st .slotEmpty .credClear [] q rest s))
        ∧ (granted → ∀ r, s.creds.get id = .held r →
          exec .credClearJobStart s
            = .next (started (stationJob st q (.credClear id)) rest [.credRemove id] .blank s)))
      ∧ (s.power = .on → s.running = some (fresh (stationJob st q (.credClear id)) [.credRemove id] .blank []) →
        ∃ t, exec .credClearJobEnd s = .next t ∧ t.creds = s.creds.set id .empty
          ∧ t.store = { s.store with creds := s.store.creds.set id none }
          ∧ (∀ x, t.stations.get x =
              { s.stations.get x with
                grant := (s.stations.get x).grant.filter fun g => decide (g.credential ≠ id)
                slot := if x = st then some { result := .ok, code := 67, body := [byte id], notice := !q }
                  else (s.stations.get x).slot })
          ∧ t = { s with creds := t.creds, store := t.store, stations := t.stations, running := none, attn := t.attn }))
    ∧ (∀ (st : Station) (q : Bool) (p : SettingsParams) (v : Settings) (rest : List Job) (s : State),
        (MayStart (stationJob st q (.settingsWrite p)) rest s →
          (st = 2 → (s.stations.get st).grant = none →
            exec .settingsWriteJobStart s = .next (turnedDown st .noGrant .settingsWrite [] q rest s))
          ∧ ((st = 2 → (s.stations.get st).grant ≠ none) →
            let old := s.store.settings
            exec .settingsWriteJobStart s
              = .next (started (stationJob st q (.settingsWrite p)) rest [.settingsRecord]
                  (.newSettings
                    { addressBase := if hasBit p.selection 0 then min (max (p.addressBase / 4 * 4) 8) 248
                        else old.addressBase
                      trialWindow := if hasBit p.selection 1 then min (max p.trialWindow 600) 36000 else old.trialWindow
                      grantWindow := if hasBit p.selection 2 then min (max p.grantWindow 300) 18000 else old.grantWindow
                      buttonHold := if hasBit p.selection 3 then min (max p.buttonHold 50) 300 else old.buttonHold
                      enables := if hasBit p.selection 4 then p.enables else old.enables }) s)))
        ∧ (s.power = .on →
          s.running = some (fresh (stationJob st q (.settingsWrite p)) [.settingsRecord] (.newSettings v) []) →
          exec .settingsWriteJobEnd s
            = .next (ended st .ok .settingsWrite
                (byte v.addressBase :: be16 v.trialWindow ++ be16 v.grantWindow ++ be16 v.buttonHold
                  ++ be16 v.enables.toNat) q
                { s with settings := { v with addressBase := s.settings.addressBase },
                         store := { s.store with settings := v } })))

/-- An OWNER_RESET_JOB with a request alone tests station 2's grant; else it starts. At its end no grant is left, no
SET credential and no owner-held key in working state or in the store, the settings are the defaults but for the
address base in use, the mark is gone, the targets and the stream that an erased key signed are swept, chain 11 is
extended with OWNER_RESET and OWNER_RESET_DONE is raised; vendor slots' and other keys, RESERVED slots and ids, the
class records, the revocation list, chains 0 to 10 and all else are as they were (R30, R136, R197, R199). A removal of
the mark that fails leaves the mark standing (R198, R200). Start-up finishes a reset whose mark stands, on the records
that it has loaded, and takes the address base too (R200, R203). The reply's layout is the model's (log entry 18). -/
def Obligations.OwnerResetErasesOwner : Prop :=
  (∀ (attached : Option Bool) (button : Bool) (rest : List Job) (s : State),
    MayStart (.ownerReset attached button) rest s →
    (∀ q, attached = some q → button = false → (s.stations.get 2).grant = none →
      exec .ownerResetJobStart s = .next (turnedDown 2 .noGrant .ownerReset [] q rest s))
    ∧ ((attached = none ∨ button = true ∨ (s.stations.get 2).grant ≠ none) →
      let job : Job := .ownerReset attached button
      let steps : List JobStep :=
        [.markWrite, .endGrants] ++ (List.finRange 16).map .eraseCred ++ (List.finRange 64).map .eraseKey
          ++ [.defaultSettings false, .markRemove, .marker { kind := .ownerReset, cls := 0, version := 0 },
              .raise .ownerResetDone]
      let owned (slot : Slot) : Bool := match s.keys.get slot with | .active k => k.ownerHeld | _ => false
      exec .ownerResetJobStart s = .next (started job rest steps (.erased 0 0) s)
      ∧ ∃ u, exec .ownerResetJobEnd (started job rest steps (.erased 0 0) s) = .next u
        ∧ (∀ st, u.stations.get st =
            { s.stations.get st with
              grant := none
              slot := match attached with
                | some q => if st = 2 then some
                    { result := .ok, code := 10, notice := !q,
                      body := [byte ((List.finRange 16).countP fun id => (heldCred? id s).isSome),
                               byte ((List.finRange 64).countP owned)] }
                    else (s.stations.get st).slot
                | none => (s.stations.get st).slot })
        ∧ (∀ id, u.creds.get id = match s.creds.get id with | .held _ => .empty | other => other)
        ∧ (∀ id, u.store.creds.get id = match s.creds.get id with | .held _ => none | _ => s.store.creds.get id)
        ∧ (∀ slot, u.keys.get slot = if owned slot then .empty else s.keys.get slot)
        ∧ (∀ slot, u.store.keys.get slot = match s.keys.get slot with
            | .active k => if k.ownerHeld = true ∧ k.persistence = .persistent then none else s.store.keys.get slot
            | _ => s.store.keys.get slot)
        ∧ u.store = { s.store with keys := u.store.keys, creds := u.store.creds, settings := Settings.default,
                                   resetMark := false }
        ∧ (∀ i, u.targets.get i = (s.targets.get i).filter fun t => !owned t.signer)
        ∧ u.stream = (match s.stream with
            | .receiving m limit n _ _ => if owned m.signer then .failed m.raw limit n .revoked else s.stream
            | .absorbing m limit n _ => if owned m.signer then .failed m.raw limit n .revoked else s.stream
            | .verified m limit n => if owned m.signer then .failed m.raw limit n .revoked else s.stream
            | other => other)
        ∧ (∀ c, u.chains.get c = if c = 11 then
            { s.chains.get 11 with
              value := extendedValue (s.chains.get 11).value (digest [4, 0, 0, 0])
              count := min ((s.chains.get 11).count + 1) 65535
              logIncomplete := (s.chains.get 11).logIncomplete || decide (128 ≤ s.log.length) }
            else s.chains.get c)
        ∧ u.log = (if s.log.length < 128 then s.log ++ [{ chain := 11, measurement := digest [4, 0, 0, 0],
                                                          tag := [4, 0, 0, 0], station := none,
                                                          uptime := s.time.uptime }] else s.log)
        ∧ (∀ k, u.conditions.get k =
            if k = 8 ∨ k = 2 ∧ u.stream ≠ s.stream ∨ k = 1 ∧ 128 ≤ s.log.length then some s.time.uptime
            else s.conditions.get k)
        ∧ u = { s with
                queue := rest, running := none, stations := u.stations, creds := u.creds, keys := u.keys,
                store := u.store, targets := u.targets, stream := u.stream, chains := u.chains, log := u.log,
                conditions := u.conditions, attn := u.attn
                settings := { Settings.default with addressBase := s.settings.addressBase } }))
  ∧ (∀ (attached : Option Bool) (button landed : Bool) (r : Running) (todo : List JobStep) (s : State),
    s.power = .on → s.running = some r → r.job = .ownerReset attached button → r.todo = .markRemove :: todo →
    ∃ t, exec (.storeWriteFailed landed) s = .next t ∧ t.store = s.store ∧ t.fault = true ∧ t.running = none)
  ∧ ∀ (landed : Bool) (s : State), MayStartUp s → s.store.resetMark = true →
    (∀ c, (s.store.classes.get c).AtRest) →
    ∃ t, exec (.partReset { landed, bad := [], trouble := .none }) s = .next t
      ∧ (∀ id, t.creds.get id = .empty ∧ t.store.creds.get id = none)
      ∧ (∀ slot, t.keys.get slot = match (upFrom s).keys.get slot with
          | .active k => if k.ownerHeld then .empty else .active k
          | other => other)
      ∧ (∀ slot, t.store.keys.get slot = match (upFrom s).store.keys.get slot with
          | some k => if k.ownerHeld = true ∧ k.persistence = .persistent then none else some k
          | none => none)
      ∧ t.chains = (upFrom s).chains.set 11
          { (upFrom s).chains.get 11 with
            value := extendedValue (.replicate 32 0) (digest [4, 0, 0, 0]), count := 1 }
      ∧ t.log = [{ chain := 11, measurement := digest [4, 0, 0, 0], tag := [4, 0, 0, 0], station := none, uptime := 0 }]
      ∧ (∀ k, t.conditions.get k = if k = 8 then some 0 else none)
      ∧ t = { upFrom s with
              creds := t.creds, keys := t.keys, chains := t.chains, log := t.log, conditions := t.conditions
              settings := Settings.default
              store := { (upFrom s).store with creds := t.store.creds, keys := t.store.keys,
                                               settings := Settings.default, resetMark := false } }

/-! ### Store writes, time and resets -/

/-- The last store write of a job completes: exactly its record is replaced or removed, and the job has no step left.
With no write under way, nothing changes (R176). A store write fails: the job ends with NV_FAILED, NV_WRITE_FAILED is
raised, and the part enters FAULT mode: every waiting station job is answered FAULT, it and the failing job give back
the slot, id or hold that they reserved, the queue is empty and the stream CLOSED. The record holds its old or its new
contents (R9, R101, R115, R176, R177). That the row changes nothing with no write under way is the model's choice (log
entry 3), that the writes of a job complete one at a time its reading of R176 (log entry 5), and that a removal's slot
or credential stays as it was until the job's end its reading of R26 and R127 (log entry 33). -/
def Obligations.StoreWritesCompleteOrFail : Prop :=
  (∀ (r : Running) (s : State), s.power = .on → s.running = some r →
      let done (store : Store) (t : State) : Prop :=
        exec .storeWriteComplete s = .next (recomputeAttn { t with store, running := some { r with todo := [] } })
      (r.todo = [] → exec .storeWriteComplete s = .next (recomputeAttn s))
        ∧ (∀ slot k, r.todo = [.keyRecord slot] → r.data = .key k →
            done { s.store with keys := s.store.keys.set slot (some k) } s)
        ∧ (∀ slot, r.todo = [.keyRemove slot] → done { s.store with keys := s.store.keys.set slot none } s)
        ∧ (∀ id c g, r.todo = [.credRecord id] → r.data = .credential c → s.creds.get id = .held g →
            done { s.store with creds := s.store.creds.set id (some ⟨c, g.penalty, g.streak⟩) } s)
        ∧ (∀ id c, r.todo = [.credRecord id] → r.data = .credential c → (∀ g, s.creds.get id ≠ .held g) →
            done { s.store with creds := s.store.creds.set id (some ⟨c, 0, 0⟩) } s)
        ∧ (∀ id, r.todo = [.credRemove id] → done { s.store with creds := s.store.creds.set id none } s)
        ∧ (∀ v, r.todo = [.settingsRecord] → r.data = .newSettings v →
            done { s.store with settings := v }
              { s with settings := { v with addressBase := s.settings.addressBase } }))
    ∧ (∀ (landed : Bool) (r : Running) (write : JobStep) (rest : List JobStep) (s : State),
        s.power = .on → EngineLaw s → s.running = some r → r.todo = write :: rest → write.writes s = true →
        ∃ t, exec (.storeWriteFailed landed) s = .next t ∧ t.fault = true ∧ t.queue = [] ∧ t.running = none
          ∧ t.stream = .closed ∧ t.conditions.get 9 = some s.time.uptime
          ∧ (t.store = s.store ∨ t.store = write.land s)
          ∧ (∀ st, r.holder = some st → (t.stations.get st).slot
              = some { result := .nvFailed, code := r.job.code, body := [], notice := !r.job.quiet })
          ∧ (∀ st j, j ∈ s.queue → j.holder = some st → (t.stations.get st).slot
              = some { result := .faulted, code := j.code, body := [], notice := !j.quiet })
          ∧ (∀ st, requestState st s = .idle → t.stations.get st = s.stations.get st)
          ∧ (∀ st q w, stationJob st q w ∈ s.queue ∨ r.job = stationJob st q w →
              (∀ p kind o, w = .keyGenerate p kind → s.keys.get p.slot = .reserved o → t.keys.get p.slot = .empty)
              ∧ (∀ p m o, w = .keyImport p m → s.keys.get p.slot = .reserved o → t.keys.get p.slot = .empty)
              ∧ (∀ parent fp d target usage mask label o, w = .keyDerive parent fp d target usage mask label →
                  s.keys.get target = .reserved o → t.keys.get target = .empty)
              ∧ (∀ p g, w = .credSet p false g → s.creds.get p.id = .reserved → t.creds.get p.id = .empty)
              ∧ (∀ c, w = .bootConfirm c → t.hold = false
                  ∧ t.timer = (match s.timer with | .running _ true => .expired | other => other)
                  ∧ t.time.pulse = (match s.timer, s.time.pulse with
                    | .running _ true, .idle => .driving 0
                    | _, pulse => pulse)))
          ∧ (∀ slot k, s.keys.get slot = .active k → write ≠ .keyRemove slot → write ≠ .eraseKey slot →
              t.keys.get slot = .active k)
          ∧ (∀ id c, s.creds.get id = .held c → write ≠ .eraseCred id → t.creds.get id = .held c)
          ∧ t.chains = s.chains ∧ t.log = s.log ∧ t.classes = s.classes ∧ t.revoked = s.revoked)

/-- A decisecond tick adds 1 to the uptime count and reaches each receiver: lockouts and grants whose deadline is
reached end, at a decay tick every penalty falls by 1, at the first tick pending delays become deadlines, the stream's
and the trial timer's deadlines expire, the gap flag and the pulse count on. UPDATE_REJECTED is raised when the stream's
deadline is reached, and LOCKOUT_STARTED at the first tick with a pending delay; every other condition stays. Nothing
else changes but the button's state and the queue. All this is said of the state in which the sense sampler has read the
samples that the row brings (log entry 39) (R66, R77, R131, R143, R145, R147, R151, R153, R158). That a pending delay
must still stand for LOCKOUT_STARTED, and that the pulse counts before it is asked for again, are the model's choices
(log entries 38 and 23), as is a tick that ends its whole phase (log entry 12). A tick in start-up raises the count and
reaches no other receiver (R159). That it ends its phase as any tick does, that the rows for what a tick brings do
nothing in start-up, and that no tick does anything without power, are the model's reading (log entry 34). -/
def Obligations.TickReachesItsReceivers : Prop :=
  (∀ (samples : PhaseSamples) (s : State) (id : CredId) (st : Station), s.power ≠ .on →
    (∀ due, s.power = .startUp due → exec (.decisecondTick samples) s = .next
      { s with time := { s.time with uptime := s.time.uptime + 1, phase := s.time.phase + 1, prescaler := 0,
                                     periods := 0 } })
    ∧ (s.power = .off → exec (.decisecondTick samples) s = .next s)
    ∧ ∀ row ∈ [Instr.decayTick samples, .lockoutEnd id samples, .grantExpiry st samples, .idleDeadlineExpiry samples,
        .trialTimerExpiry samples, .gapTimeout samples, .socrstPulseEnd samples, .buttonHoldEvent],
      exec row s = .next s)
  ∧ ∀ (samples : PhaseSamples) (u : State), u.power = .on →
    let s : State := readSense samples.sense u
    let now : Count := s.time.uptime + 1
    ∃ t, exec (.decisecondTick samples) u = .next t ∧ t.time.uptime = now ∧ t.time.phase = s.time.phase + 1
      ∧ (∀ id, t.creds.get id = match s.creds.get id with
          | .held r => .held { r with
              penalty := if now.toNat % 100 = 0 then r.penalty - 1 else r.penalty
              lockout := match r.lockout with
                | .absent => .absent
                | .deadline d => if d = now then .absent else .deadline d
                | .pending delay =>
                  if s.time.firstTick then .deadline (now + BitVec.ofNat 32 delay) else .pending delay }
          | other => other)
      ∧ (∀ st, t.stations.get st
          = { s.stations.get st with
              grant := (s.stations.get st).grant.filter fun g => decide (g.deadline ≠ now) })
      ∧ t.stream = (match s.stream with
          | .receiving m limit n absorbed d =>
            if d = now then .failed m.raw limit n .timeout else .receiving m limit n absorbed d
          | other => other)
      ∧ t.timer = (match s.timer with
          | .running d reached => if d = now then (if s.hold then .running d true else .expired) else .running d reached
          | other => other)
      ∧ ((∀ reached, s.timer = .running now reached → s.hold = true) →
          t.time.pulse = match s.time.pulse with
            | .idle => .idle
            | .driving n => if n + 1 < 2 then .driving (n + 1) else .idle)
      ∧ ((∃ reached, s.timer = .running now reached) → s.hold = false →
          t.time.pulse = match s.time.pulse with
            | .idle => .driving 0
            | .driving n => if n + 1 < 2 then .driving (n + 1) else .driving 0)
      ∧ t.time = { s.time with
          uptime := now, phase := s.time.phase + 1, prescaler := 0, periods := 0, firstTick := false,
          pulse := t.time.pulse, button := t.time.button, held := t.time.held, threshold := t.time.threshold }
      ∧ ((∃ m limit n absorbed, s.stream = .receiving m limit n absorbed now) → t.conditions.get 2 = some now)
      ∧ ((∀ m limit n absorbed, s.stream ≠ .receiving m limit n absorbed now) →
          t.conditions.get 2 = s.conditions.get 2)
      ∧ (s.time.firstTick = true → (∃ id r delay, s.creds.get id = .held r ∧ r.lockout = .pending delay) →
          t.conditions.get 7 = some now)
      ∧ ((s.time.firstTick = false ∨ ∀ id r delay, s.creds.get id = .held r → r.lockout ≠ .pending delay) →
          t.conditions.get 7 = s.conditions.get 7)
      ∧ (∀ k, k ≠ 2 → k ≠ 7 → t.conditions.get k = s.conditions.get k)
      ∧ (s.line = .ignoring → t.line = .ignoring ∧ t.gap = s.gap)
      ∧ (s.line ≠ .ignoring → s.gap = true → t.line = s.line ∧ t.gap = false)
      ∧ (s.line ≠ .ignoring → s.gap = false → t.line = .ignoring ∧ t.gap = false)
      ∧ t = { s with time := t.time, creds := t.creds, stations := t.stations, stream := t.stream, timer := t.timer,
                     line := t.line, gap := t.gap, conditions := t.conditions, queue := t.queue, attn := t.attn }

/-- Each row that names what a tick brings happens at the tick that brings it: a decay tick lowers every SET
credential's penalty, a lockout and a grant end, the idle deadline fails the stream with TIMEOUT, the trial timer
expires and pulses SOCRST, a partial frame is given up without a receipt, a pulse ends. That each such row is the whole
tick is the model's choice (log entry 2) (R77, R100, R131, R143, R145, R158, R184). The button sampler judges the 25 or
26 samples of the phase that ends, low when every one is low, high when every one is high, mixed otherwise, and goes by
its table: a low decisecond starts a hold with the setting's threshold, counts on, and at the threshold fires: the hold
event queues an OWNER_RESET_JOB, or merges into a waiting one, and queues nothing in FAULT mode. A high decisecond
releases; a mixed one changes nothing; the first tick after start-up judges nothing (R156, R157). All this is said of
the state in which the sense sampler has read the samples that the row brings (log entry 39). -/
def Obligations.TickEventsHappenWhenDue : Prop :=
  (∀ (samples : PhaseSamples) (u : State), u.power = .on →
      let s : State := readSense samples.sense u
      let now : Count := s.time.uptime + 1
      (now.toNat % 100 = 0 → ∃ t, exec (.decayTick samples) u = .next t ∧ exec (.decisecondTick samples) u = .next t
          ∧ ∀ id r, s.creds.get id = .held r → ∃ r', t.creds.get id = .held r' ∧ r'.penalty = r.penalty - 1
            ∧ r'.streak = r.streak ∧ t.store = s.store)
        ∧ (∀ id r, s.creds.get id = .held r → r.lockout = .deadline now →
            ∃ t r', exec (.lockoutEnd id samples) u = .next t ∧ exec (.decisecondTick samples) u = .next t
              ∧ t.creds.get id = .held r' ∧ r'.lockout = .absent)
        ∧ (∀ st g, (s.stations.get st).grant = some g → g.deadline = now →
            ∃ t, exec (.grantExpiry st samples) u = .next t ∧ exec (.decisecondTick samples) u = .next t
              ∧ (t.stations.get st).grant = none)
        ∧ (∀ m limit n absorbed, s.stream = .receiving m limit n absorbed now →
            ∃ t, exec (.idleDeadlineExpiry samples) u = .next t ∧ exec (.decisecondTick samples) u = .next t
              ∧ t.stream = .failed m.raw limit n .timeout ∧ t.conditions.get 2 = some now)
        ∧ (∀ reached, s.timer = .running now reached → s.hold = false →
            ∃ t n, exec (.trialTimerExpiry samples) u = .next t ∧ exec (.decisecondTick samples) u = .next t
              ∧ t.timer = .expired ∧ t.time.pulse = .driving n)
        ∧ (s.line ≠ .ignoring → s.gap = false →
            ∃ t, exec (.gapTimeout samples) u = .next t ∧ exec (.decisecondTick samples) u = .next t
              ∧ t.line = .ignoring ∧ t.txNow = s.txNow ∧ t.txNext = s.txNext)
        ∧ (s.time.pulse = .driving 1 → (∀ d reached, s.timer ≠ .running d reached) →
            ∃ t, exec (.socrstPulseEnd samples) u = .next t ∧ exec (.decisecondTick samples) u = .next t ∧ t.time.pulse = .idle))
    ∧ (∀ (samples : PhaseSamples) (u : State), u.power = .on →
        let s : State := readSense samples.sense u
        let periods : Nat := if s.time.phase.val ∈ [1, 3, 5, 8] then 25 else 26
        let low : Prop := ∀ i : Fin 26, i.val < periods → samples.button.get i = true
        let high : Prop := ∀ i : Fin 26, i.val < periods → samples.button.get i = false
        ∃ t, exec (.decisecondTick samples) u = .next t ∧ t.time.firstTick = false
          ∧ (s.time.firstTick = true → t.time.button = s.time.button ∧ t.time.held = s.time.held ∧ t.queue = s.queue)
          ∧ (s.time.firstTick = false →
            (¬low → ¬high → t.time.button = s.time.button ∧ t.time.held = s.time.held ∧ t.queue = s.queue)
            ∧ (high → t.time.button = .released ∧ t.queue = s.queue
                ∧ (s.time.button ≠ .released → t.time.held = 0))
            ∧ (low → s.time.button = .released → t.time.button = .holding ∧ t.time.held = 1
                ∧ t.time.threshold = s.settings.buttonHold ∧ t.queue = s.queue)
            ∧ (low → s.time.button = .fired → t.time.button = .fired ∧ t.queue = s.queue)
            ∧ (low → s.time.button = .holding → s.time.held + 1 < s.time.threshold →
                t.time.button = .holding ∧ t.time.held = s.time.held + 1 ∧ t.queue = s.queue)
            ∧ (low → s.time.button = .holding → s.time.threshold ≤ s.time.held + 1 →
                exec .buttonHoldEvent s = .next t ∧ t.time.button = .fired
                ∧ (s.fault = true → t.queue = s.queue)
                ∧ (s.fault = false → (∀ a b, Job.ownerReset a b ∉ s.queue) →
                    t.queue = s.queue ++ [.ownerReset none true])
                ∧ (s.fault = false → ∀ before after a b, s.queue = before ++ .ownerReset a b :: after →
                    (∀ x y, Job.ownerReset x y ∉ before ++ after) →
                    t.queue = before ++ .ownerReset a true :: after))))

/-- The sense sampler moves on two consecutive low samples in RELEASED and two consecutive high ones in ASSERTED: its
two rows bring two each, and the samples that a tick's row brings are read one after the other before the tick, each of
which makes the move of those rows as the second of two, and is held otherwise. A sensed SoC reset: the stations, masks
and grants are as after part reset; chains 0 to 9 are cleared and their log entries removed, chains 10 and 11 kept;
EPOCH keys are erased; waiting station jobs go and the running one belongs to no station; internal jobs stay in their
order, an OWNER_RESET_JOB without its request, or gone where a request alone queued it; the slots and ids that waiting
jobs reserved are EMPTY, SET credentials keep their penalties, streaks and lockouts; the stream is CLOSED, the targets
EMPTY, the trial timer STOPPED; the SoC-reset count rises; TRIAL_ACCOUNT is queued once, but not in FAULT mode; the
transmitter is cut; the class records, the revocation list, the certificate, the settings, the store and all else are as
they were. While the sampler is ASSERTED nothing is sensed again, until its release (R9, R28, R46, R53, R85, R102, R112,
R133, R148, R155, R173, R175, R178, R191). Which samples the rows bring is the model's choice (log entry 39), and so is
the cut frame's last character, kept as an item under way (log entry 14). -/
def Obligations.SocResetEndsTheBoot : Prop :=
  ∀ (s : State), s.power = .on →
    let holding (low : Bool) : State := { s with time := { s.time with senseLow := low } }
    let freedSlots : List Slot := s.queue.filterMap fun j => match j with
      | .station j => (match j.work with
        | .keyGenerate p _ => some p.slot
        | .keyImport p _ => some p.slot
        | .keyDerive _ _ _ target _ _ _ => some target
        | _ => none)
      | _ => none
    let freedIds : List CredId := s.queue.filterMap fun j => match j with
      | .station j => (match j.work with | .credSet p false _ => some p.id | _ => none)
      | _ => none
    let kept : List Job := s.queue.filterMap fun j => match j with
      | .station _ => none
      | .trialAccount => some .trialAccount
      | .ownerReset attached button => if attached ≠ none ∧ button = false then none else some (.ownerReset none button)
    (s.time.senseAsserted = true → exec .socResetSensed s = .next (recomputeAttn (holding true))
      ∧ exec .socrstSenseReleased s
        = .next (recomputeAttn { s with time := { s.time with senseAsserted := false, senseLow := false } }))
    ∧ (s.time.senseAsserted = false → exec .socrstSenseReleased s = .next (recomputeAttn (holding false)))
    ∧ (∀ (row : PhaseSamples → Instr) (button : Tbl Bool 26) (low : Bool) (rest : List Bool),
        row ∈ [.decisecondTick, .decayTick, .idleDeadlineExpiry, .trialTimerExpiry, .gapTimeout, .socrstPulseEnd]
          ∨ (∃ id, row = .lockoutEnd id) ∨ (∃ st, row = .grantExpiry st) →
        ((low = s.time.senseLow → low = s.time.senseAsserted) →
          exec (row ⟨button, low :: rest⟩) s = exec (row ⟨button, rest⟩) (holding low))
        ∧ (low = s.time.senseLow → low ≠ s.time.senseAsserted →
          ∃ t, exec (if low then .socResetSensed else .socrstSenseReleased) s = .next t
            ∧ exec (row ⟨button, low :: rest⟩) s = exec (row ⟨button, rest⟩) t))
    ∧ (s.time.senseAsserted = false →
      ∃ t, exec .socResetSensed s = .next t
        ∧ (∀ st, t.stations.get st
            = { state := if st = 0 then .opened else .waiting, slot := none, masked := false, grant := none })
        ∧ (∀ c : ChainNo, t.chains.get c = if c.val < 10 then
            { value := .replicate 32 0, count := 0, frozen := false, logIncomplete := false } else s.chains.get c)
        ∧ t.log = s.log.filter (fun e => decide (10 ≤ e.chain.val))
        ∧ (∀ slot, t.keys.get slot = match s.keys.get slot with
            | .empty => .empty
            | .reserved o => if slot ∈ freedSlots then .empty else .reserved o
            | .active k => if k.persistence = .epoch then .empty else .active k)
        ∧ (∀ id, t.creds.get id = match s.creds.get id with
            | .reserved => if id ∈ freedIds then .empty else .reserved
            | other => other)
        ∧ t.running = s.running.map (fun r => { r with crossed := true })
        ∧ t.queue = (if s.fault = true ∨ .trialAccount ∈ s.queue then kept else kept ++ [.trialAccount])
        ∧ (∀ i, t.targets.get i = none)
        ∧ t.socResets = min (s.socResets + 1) 4294967295
        ∧ t.txNow = (match s.txNow with | some (.frame _) => some .remnant | other => other)
        ∧ t = { s with
                time := { s.time with senseAsserted := true, senseLow := true }, stations := t.stations
                globalMask := false, chains := t.chains, log := t.log, keys := t.keys, creds := t.creds
                running := t.running, queue := t.queue, stream := .closed, targets := t.targets, timer := .stopped
                hold := false, socResets := t.socResets, line := .ignoring, gap := false, txNow := t.txNow
                txNext := none, attn := t.attn })

/-- Power and part reset: power lost keeps only the store, whose record under way holds its old or its new contents. A
part reset of a part that has no job to finish loads the store, removes the records of revoked keys, counts the start up
to 4,294,967,295, imposes lockouts again and clears the rest; one of a part with power is a loss of power first. A
record that fails its check raises NV_INTEGRITY and stays in the store as it is, and start-up goes on without it: its
key slot or credential is EMPTY, its class has no record and its trial is not accounted, the certificate is absent, the
revocation list is empty, the settings are the defaults, the count is 0 and not written, the owner reset mark counts as
absent. A store write that fails in start-up raises NV_WRITE_FAILED and no later one is made: the count's record keeps
its old value, and a standing owner reset mark goes on standing. A loss of power in start-up's write leaves that record
old or new. When start-up ends, station 0 alone is OPEN, and the part is in FAULT mode exactly when a FAULT condition is
raised (R29, R51, R52, R113, R134, R147, R161, R176, R179, R198, R200, R203, R204). The model's choices in this: the
state without power, every field at its value after part reset (log entry 11), the draw counter and the queue of
commands kept through it (log entries 8 and 4), a loss of power without power that changes nothing (log entry 3),
start-up's work as one command (log entry 25), a part reset of a part with power as a loss of power first (log entry
29), and a failed record of the revocation list, a key slot, the certificate or the mark that stays in the store (log
entry 40). -/
def Obligations.PartResetRebuildsFromStore : Prop :=
  (∀ (landed : Bool) (s : State), ∃ store, exec (.powerLost landed) s
      = .next (if s.power = .off then s else State.blank s.pending .off store s.entropy)
    ∧ (store = s.store ∨ ∃ write, underWay s = some write ∧ store = write.land s))
  ∧ (∀ (landed : Bool) (bad : List RecordId) (s : State), s.power = .off →
      (s.store.resetMark = false ∨ .ownerResetMark ∈ bad) →
      (∀ c, .classRecord c ∉ bad → (s.store.classes.get c).AtRest) →
      let revoked : List (Bytes 32) := if .revocationList ∈ bad then [] else s.store.revocation
      let kept (slot : Slot) : Option KeyRecord :=
        match s.store.keys.get slot with
        | some k => if k.fingerprint ∈ revoked then none else some k
        | none => none
      let count : Nat :=
        if s.store.partResets < 4294967295 then s.store.partResets + 1 else s.store.partResets
      let up : State := { State.blank s.pending (.startUp false)
            { s.store with
              partResets := if .partResetCount ∈ bad then s.store.partResets else count
              keys := .ofFn fun slot => if .keySlot slot ∈ bad then s.store.keys.get slot else kept slot }
            s.entropy with
          keys := .ofFn fun slot =>
            if .keySlot slot ∈ bad then .empty else match kept slot with | some k => .active k | none => .empty
          revoked
          creds := .ofFn fun id => if .credential id ∈ bad then .empty else match s.store.creds.get id with
            | none => .empty
            | some c => .held
              { contents := c.contents, penalty := c.penalty, streak := c.streak,
                lockout := if lockoutDelay c.penalty = 0 then .absent else .pending (lockoutDelay c.penalty) }
          classes := .ofFn fun c => if .classRecord c ∈ bad then none else some (s.store.classes.get c)
          partResets := if .partResetCount ∈ bad then 0 else count
          certificate := if .certificate ∈ bad then none else some s.store.certificate
          settings := if .settings ∈ bad then .default else s.store.settings
          conditions := .ofFn fun k => if k = 10 ∧ bad.any s.store.has = true then some 0 else none }
      let starts (trouble : StartUpTrouble) (t : State) : Prop :=
        exec (.partReset { landed, bad, trouble }) s = .next t
      starts .none up
        ∧ ((∀ slot k, .keySlot slot ∉ bad → s.store.keys.get slot = some k → k.fingerprint ∉ revoked) →
          .partResetCount ∉ bad → s.store.partResets < 4294967295 → ∀ new : Bool,
          starts (.writeFails 0 new) { up with store := s.store, conditions := up.conditions.set 9 (some 0) }
          ∧ starts (.powerLost 0 new)
              (State.blank s.pending .off (if new then up.store else s.store) s.entropy)))
  ∧ (∀ (landed new : Bool) (s : State), s.power = .off → s.store.resetMark = true →
      ∃ t, exec (.partReset { landed, bad := [], trouble := .writeFails 0 new }) s = .next t
        ∧ t.store.resetMark = true ∧ t.store.partResets = s.store.partResets ∧ t.log = []
        ∧ t.conditions.get 8 = none ∧ t.conditions.get 9 = some 0)
  ∧ (∀ (input : StartUpInput) (s : State), s.power ≠ .off →
      exec (.partReset input) s = execAll [.powerLost input.landed, .partReset input] s)
  ∧ (∀ (senseLow due : Bool) (s : State), s.power = .startUp due →
      ∃ t, exec (.startUpEnd senseLow) s = .next t ∧ t.power = .on
        ∧ (∀ st, t.stations.get st
            = { state := if st = 0 then .opened else .waiting, slot := none, masked := false, grant := none })
        ∧ (t.fault = true ↔ s.conditions.get 9 ≠ none ∨ s.conditions.get 10 ≠ none)
        ∧ (due = true → t.timer
            = .running (s.time.uptime + BitVec.ofNat 32 s.settings.trialWindow) false ∧ t.hold = false)
        ∧ (due = false → t.timer = s.timer ∧ t.hold = s.hold)
        ∧ t.time = { s.time with senseAsserted := senseLow, senseLow, button := .released, held := 0,
                                 firstTick := true }
        ∧ t = { s with power := .on, stations := t.stations, fault := t.fault, timer := t.timer, hold := t.hold,
                       time := t.time, attn := t.attn })
  ∧ ∀ (landed : Bool) (bad : List RecordId) (id : RecordId) (s : State), s.power = .off → id ∈ bad →
      s.store.has id = true →
      ∃ t, execAll [.partReset { landed, bad, trouble := .none }, .startUpEnd false] s = .next t ∧ t.fault = true
        ∧ t.conditions.get 10 ≠ none

/-! ### The trust line -/

/-- The line interface's table of good characters, its faulty frames and the transmitter: an address character of the
part selects its station, another one ends the frame; a data character is ignored out of a frame and added in one; a bad
character, a body length over 1,100 and a CRC mismatch are refused with FRAME_BAD and LINK_FRAME; a correct frame is its
request's command, but while an item waits in the transmitter it is discarded without a receipt, raises LINK_FRAME and
reaches no station; the item that ends makes room for the one that waits (R181, R182, R183, R186, R187, R190). A part
reset leaves the line interface IGNORING with nothing to send; until start-up has ended every character is ignored, bad
ones included, and the end of start-up leaves it so (R191). That a part without power takes no character either, and
that a request row in either is ignored whole, are the model's reading (log entries 3 and 1). The CRC-16 of the text
123456789 is 29B1, and the CRC run on over a byte string and its own CRC ends at zero (R185). -/
def Obligations.LineFollowsItsTable : Prop :=
  (∀ s : State, s.power = .on →
      let discarded (s : State) : State :=
        { s with line := .ignoring, gap := false, conditions := s.conditions.set 0 (some s.time.uptime) }
      (∀ (st : Station) (value : Byte), value.toNat = s.settings.addressBase + st →
          exec (.addressCharacter value) s = .next (recomputeAttn { s with line := .selected st, gap := true }))
        ∧ (∀ value : Byte, (value.toNat < s.settings.addressBase ∨ s.settings.addressBase + 4 ≤ value.toNat) →
          (s.line = .ignoring → exec (.addressCharacter value) s = .next (recomputeAttn s))
          ∧ (s.line ≠ .ignoring →
            exec (.addressCharacter value) s = .next (recomputeAttn { s with line := .ignoring, gap := false })))
        ∧ (∀ value : Byte, s.line = .ignoring → exec (.dataCharacter value) s = .next (recomputeAttn s))
        ∧ (∀ (st : Station) (value : Byte), s.line = .selected st →
          exec (.dataCharacter value) s
            = .next (recomputeAttn { s with line := .assembling st [value], gap := true }))
        ∧ (∀ (st : Station) (chars : List Byte) (value : Byte), s.line = .assembling st chars → chars ≠ [] →
          let now := chars ++ [value]
          (now.length < 4 ∨ 4 ≤ now.length ∧ nat16At now 2 ≤ 1100 ∧ now.length < nat16At now 2 + 6 →
            exec (.dataCharacter value) s = .next (recomputeAttn { s with line := .assembling st now, gap := true }))
          ∧ (now.length = 4 → 1100 < nat16At now 2 →
            exec (.dataCharacter value) s = .next (recomputeAttn (frameBad s)))
          ∧ (4 < now.length → now.length = nat16At now 2 + 6 →
            nat16At now (nat16At now 2 + 4) ≠ (crc16 (now.take (nat16At now 2 + 4))).toNat →
            exec (.dataCharacter value) s = .next (recomputeAttn (frameBad s)))
          ∧ (nat16At now 2 ≤ 1100 → now.length = nat16At now 2 + 6 →
            nat16At now (nat16At now 2 + 4) = (crc16 (now.take (nat16At now 2 + 4))).toNat →
            exec (.dataCharacter value) s
                = exec (Instr.ofFrame st (now.getD 0 0) (now.getD 1 0) ((now.drop 4).take (nat16At now 2))) s
              ∧ (s.txNext ≠ none → exec (.dataCharacter value) s = .next (recomputeAttn (discarded s)))))
        ∧ (∀ (c : Instr) (body : List Byte), c.frameBody? = some body → body.length ≤ 1100 → s.txNext ≠ none →
          exec c s = .next (recomputeAttn (discarded s)))
        ∧ (∀ kind, (s.line = .ignoring → exec (.badCharacter kind) s
              = .next (recomputeAttn { s with conditions := s.conditions.set 0 (some s.time.uptime) }))
            ∧ (s.line ≠ .ignoring → exec (.badCharacter kind) s
              = .next (recomputeAttn { s with
                  line := .ignoring, gap := false, conditions := s.conditions.set 0 (some s.time.uptime)
                  txNow := some (s.txNow.getD (.receipt .frameBad))
                  txNext := if s.txNow = none then s.txNext else some (s.txNext.getD (.receipt .frameBad)) })))
        ∧ (∀ item, s.txNow = some item →
            exec .txItemEnd s = .next (recomputeAttn { s with txNow := s.txNext, txNext := none })))
    ∧ (∀ (value : Byte) (kind : BadKind) (s : State), s.power ≠ .on →
        (∀ c ∈ [Instr.addressCharacter value, .dataCharacter value, .badCharacter kind, .txItemEnd],
          exec c s = .next s)
        ∧ ∀ c : Instr, isFrame c = true → exec c s = .next s)
    ∧ (∀ (input : StartUpInput) (s : State), ∃ t, exec (.partReset input) s = .next t
        ∧ t.line = .ignoring ∧ t.gap = false ∧ t.txNow = none ∧ t.txNext = none ∧ t.conditions.get 0 = none)
    ∧ (∀ (senseLow : Bool) (s : State), ∃ t, exec (.startUpEnd senseLow) s = .next t
        ∧ t.line = s.line ∧ t.gap = s.gap ∧ t.txNow = s.txNow ∧ t.txNext = s.txNext)
    ∧ (crc16 [0x31, 0x32, 0x33, 0x34, 0x35, 0x36, 0x37, 0x38, 0x39] = 0x29B1 ∧ ∀ bytes, crc16 (withCrc bytes) = 0)

/-- A request sent on the line character by character is the request: an address character of a station, then the
request frame with its CRC, leaves the part in the state that the frame's command leaves it in. That a request row is
a whole correct frame is the model's reading of the table (log entry 1). -/
def Obligations.FrameByCharactersIsTheCommand : Prop :=
  ∀ (st : Station) (value code flags : Byte) (body : List Byte) (s : State),
    s.power = .on → AttnLaw s → value.toNat = s.settings.addressBase + st → body.length ≤ Config.bodyCap →
    execAll (.addressCharacter value :: (requestFrame code flags body).map .dataCharacter) s
      = exec (Instr.ofFrame st code flags body) s

/-! ### What every step keeps -/

/-- The laws that every step keeps hold of the part after reset. -/
def Obligations.ResetMeetsTheLaws : Prop :=
  AttnLaw State.reset ∧ EvidenceLaw State.reset ∧ EngineLaw State.reset ∧ GovernorLaw State.reset
    ∧ RevocationLaw State.reset ∧ KeyLaw State.reset

/-- ATTN stands at its rule's level after every step (R171). -/
def Obligations.AttnFollowsItsRule : Prop :=
  ∀ s t, AttnLaw s → step s = .next t → AttnLaw t

/-- The replay law is kept by every step: each chain whose log-incomplete flag is clear replays to its value (R40). -/
def Obligations.LogReplaysToChains : Prop :=
  ∀ s t, EvidenceLaw s → step s = .next t → EvidenceLaw t

/-- The engine's law is kept by every step: one request in hand for each station at most (R164, R173). -/
def Obligations.EachStationHoldsOneRequest : Prop :=
  ∀ s t, EngineLaw s → step s = .next t → EngineLaw t

/-- The governor's law and the revocation list's bound are kept by every step (R7, R143). -/
def Obligations.GovernorStaysInItsBounds : Prop :=
  (∀ s t, GovernorLaw s → step s = .next t → GovernorLaw t)
    ∧ ∀ s t, RevocationLaw s → step s = .next t → RevocationLaw t

/-- The key table's law is kept by every step but a part reset, of a part whose factory keys differ; and they go on
differing (R4). A part reset, whatever fails in it, rebuilds a table that meets the law from a store whose keys differ
(R29). The factory's bytes are free values (log entry 9), so that they differ is a premise. -/
def Obligations.FingerprintsStayDistinct : Prop :=
  (∀ c rest s t, s.pending = c :: rest → isPartReset c = false → FactoryKeysDiffer s → KeyLaw s → step s = .next t →
      FactoryKeysDiffer t ∧ KeyLaw t)
    ∧ ∀ input s t, s.power = .off →
      (∀ a b j k, s.store.keys.get a = some j → s.store.keys.get b = some k → a ≠ b →
        j.fingerprint ≠ k.fingerprint) →
      exec (.partReset input) s = .next t → FactoryKeysDiffer t ∧ KeyLaw t

/-- A frame of one station leaves the records and the requests of the other stations alone; only CLOSE_STAGE changes
another station's state. A frame of an unknown code carries an unknown code, as the table's row has it (R206); with a
known one it is that request's frame (log entry 24). -/
def Obligations.StationsDoNotInterfere : Prop :=
  ∀ (c : Instr) (st other : Station) (s t : State), frameStation c = some st → c.codeUnknown = true → other ≠ st →
    exec c s = .next t →
    requestState other t = requestState other s
      ∧ ((∀ flags body, c ≠ .closeStage st flags body) → t.stations.get other = s.stations.get other)
      ∧ (t.stations.get other).slot = (s.stations.get other).slot
      ∧ (t.stations.get other).grant = (s.stations.get other).grant

/-- The store is written by jobs and by start-up alone: a command other than a job's end, a store write's outcome, a
loss of power and a part reset leaves the store as it is. In FAULT mode no job is begun, and FAULT mode lasts until
power ends (R166, R176, R177). The end of a job across which a SoC reset has been sensed places no reply in any
station's slot (R178). -/
def Obligations.StoreIsWrittenByJobsAlone : Prop :=
  ((∀ (c : Instr) (s t : State), mayWrite c = false → exec c s = .next t → t.store = s.store)
      ∧ ∀ (c : Instr) (s t : State), endsPower c = false → exec c s = .next t → s.power = .on → s.fault = true →
        s.running = none → t.fault = true ∧ t.running = none ∧ t.power = .on ∧ t.store = s.store)
    ∧ (∀ (c : Instr) (r : Running) (s t : State), isJobEnd c = true → s.running = some r → r.crossed = true →
        exec c s = .next t → ∀ st, (t.stations.get st).slot = (s.stations.get st).slot)

/-- While the part keeps power, no floor of a class falls, no fingerprint leaves the revocation list, and a frozen
chain stays frozen, chains 0 to 9 but for a sensed SoC reset (R7, R37, R92). -/
def Obligations.FloorsAndRevocationsOnlyGrow : Prop :=
  ∀ (c : Instr) (s t : State), endsPower c = false → exec c s = .next t →
    (∀ x r, s.classes.get x = some r → ∃ r', t.classes.get x = some r' ∧ r.floor ≤ r'.floor)
      ∧ s.revoked <+: t.revoked
      ∧ (∀ x : ChainNo, 10 ≤ x.val ∨ sensesReset c s = false → (s.chains.get x).frozen = true →
          (t.chains.get x).frozen = true)
end

