-- ==== Sys2Proof/Laws/Tables.lean ====
section
/-! SUPPORT. Reading a table after it has been built or changed. -/

namespace Sys2Proof.Tbl

variable {α β : Type} {n : Nat}

/-- Tables with the same entries are the same table. -/
theorem ext_get {t u : Tbl α n} (h : ∀ i, t.get i = u.get i) : t = u := by
  obtain ⟨t, ht⟩ := t
  obtain ⟨u, hu⟩ := u
  have e : t = u := List.ext_getElem (by omega) fun i h1 _ => h ⟨i, by omega⟩
  subst e
  rfl

@[simp] theorem get_set_self (t : Tbl α n) (i : Fin n) (a : α) : (t.set i a).get i = a := by
  simp [Tbl.get, Tbl.set]

/-- The entry of a changed table: the new one at the place set, the old one anywhere else. -/
theorem get_set (t : Tbl α n) (i j : Fin n) (a : α) : (t.set i a).get j = if j = i then a else t.get j := by
  simp only [Tbl.get, Tbl.set, List.getElem_set, Fin.ext_iff]
  split <;> split <;> first | rfl | omega

@[simp] theorem get_set_ne (t : Tbl α n) {i j : Fin n} (a : α) (h : j ≠ i) : (t.set i a).get j = t.get j := by
  rw [get_set, if_neg h]

@[simp] theorem get_map (f : α → β) (t : Tbl α n) (i : Fin n) : (t.map f).get i = f (t.get i) := by
  simp [Tbl.get, Tbl.map]

@[simp] theorem get_ofFn (f : Fin n → α) (i : Fin n) : (Tbl.ofFn f).get i = f i := by
  simp [Tbl.get, Tbl.ofFn]

@[simp] theorem get_replicate (a : α) (i : Fin n) : (Tbl.replicate n a).get i = a := by
  simp [Tbl.get, Tbl.replicate]

@[simp] theorem get_mapFin (f : Fin n → α → β) (t : Tbl α n) (i : Fin n) : (t.mapFin f).get i = f i (t.get i) := by
  simp [Tbl.mapFin]

@[simp] theorem set_get_self (t : Tbl α n) (i : Fin n) : t.set i (t.get i) = t := by
  refine ext_get fun j => ?_
  rw [get_set]
  split <;> simp [*]

@[simp] theorem set_set (t : Tbl α n) (i : Fin n) (a b : α) : (t.set i a).set i b = t.set i b := by
  refine ext_get fun j => ?_
  simp only [get_set]
  split <;> rfl

@[simp] theorem length_list (t : Tbl α n) : t.list.length = n := t.size

end Sys2Proof.Tbl
end

