-- ==== Sys2Proof/Laws/Button.lean ====
section
/-! SUPPORT. What the button sampler's verdict on a phase says of the phase's samples. -/

namespace Sys2Proof.Machine

open Sys2Proof

/-- A phase has 25 or 26 periods. -/
theorem phasePeriods_range (phase : Fin 10) : 25 ≤ phasePeriods phase ∧ phasePeriods phase ≤ 26 := by
  revert phase; decide

/-- A phase of samples is low when every one is. -/
theorem judge_low {samples : List Bool} (h : ∀ p ∈ samples, p = true) : judge samples = .low := by
  simp only [judge, List.all_eq_true, if_pos h]

/-- A phase with samples is high when no one is low. -/
theorem judge_high {samples : List Bool} (hne : samples ≠ []) (h : ∀ p ∈ samples, p = false) :
    judge samples = .high := by
  have hlow : ¬∀ p ∈ samples, p = true := by
    obtain ⟨p, rest, rfl⟩ := List.exists_cons_of_ne_nil hne
    intro hall
    simp [h p (by simp)] at hall
  simp only [judge, List.all_eq_true, Bool.not_eq_true', if_neg hlow, if_pos h]

/-- A phase with a low sample and a high one is mixed. -/
theorem judge_mixed {samples : List Bool} (hlow : ¬∀ p ∈ samples, p = true) (hhigh : ¬∀ p ∈ samples, p = false) :
    judge samples = .mixed := by
  simp only [judge, List.all_eq_true, Bool.not_eq_true', if_neg hlow, if_neg hhigh]

/-- The samples of a phase are those of its periods. -/
theorem forall_phaseSamples {button : Tbl Bool 26} {n : Nat} {p : Bool → Prop} :
    (∀ x ∈ button.list.take n, p x) ↔ ∀ i : Fin 26, i.val < n → p (button.get i) := by
  have hl := button.size
  simp only [List.mem_take_iff_getElem]
  constructor
  · intro h i hi
    exact h _ ⟨i.val, by omega, rfl⟩
  · rintro h x ⟨i, hi, rfl⟩
    exact h ⟨i, by omega⟩ (by simp; omega)

end Sys2Proof.Machine
end

