-- ==== Sys2Proof/Laws/State.lean ====
section
/-! SUPPORT. What each named update of the state leaves alone, one lemma for each field, and the fields it writes. -/

namespace Sys2Proof.Machine

open Sys2Proof

variable (s : State)

/-! `recomputeAttn` -/

@[simp] theorem recomputeAttn_pending : (recomputeAttn s).pending = s.pending := rfl
@[simp] theorem recomputeAttn_power : (recomputeAttn s).power = s.power := rfl
@[simp] theorem recomputeAttn_line : (recomputeAttn s).line = s.line := rfl
@[simp] theorem recomputeAttn_gap : (recomputeAttn s).gap = s.gap := rfl
@[simp] theorem recomputeAttn_txNow : (recomputeAttn s).txNow = s.txNow := rfl
@[simp] theorem recomputeAttn_txNext : (recomputeAttn s).txNext = s.txNext := rfl
@[simp] theorem recomputeAttn_stations : (recomputeAttn s).stations = s.stations := rfl
@[simp] theorem recomputeAttn_globalMask : (recomputeAttn s).globalMask = s.globalMask := rfl
@[simp] theorem recomputeAttn_queue : (recomputeAttn s).queue = s.queue := rfl
@[simp] theorem recomputeAttn_running : (recomputeAttn s).running = s.running := rfl
@[simp] theorem recomputeAttn_fault : (recomputeAttn s).fault = s.fault := rfl
@[simp] theorem recomputeAttn_time : (recomputeAttn s).time = s.time := rfl
@[simp] theorem recomputeAttn_keys : (recomputeAttn s).keys = s.keys := rfl
@[simp] theorem recomputeAttn_revoked : (recomputeAttn s).revoked = s.revoked := rfl
@[simp] theorem recomputeAttn_chains : (recomputeAttn s).chains = s.chains := rfl
@[simp] theorem recomputeAttn_log : (recomputeAttn s).log = s.log := rfl
@[simp] theorem recomputeAttn_certificate : (recomputeAttn s).certificate = s.certificate := rfl
@[simp] theorem recomputeAttn_partResets : (recomputeAttn s).partResets = s.partResets := rfl
@[simp] theorem recomputeAttn_socResets : (recomputeAttn s).socResets = s.socResets := rfl
@[simp] theorem recomputeAttn_stream : (recomputeAttn s).stream = s.stream := rfl
@[simp] theorem recomputeAttn_targets : (recomputeAttn s).targets = s.targets := rfl
@[simp] theorem recomputeAttn_classes : (recomputeAttn s).classes = s.classes := rfl
@[simp] theorem recomputeAttn_timer : (recomputeAttn s).timer = s.timer := rfl
@[simp] theorem recomputeAttn_hold : (recomputeAttn s).hold = s.hold := rfl
@[simp] theorem recomputeAttn_creds : (recomputeAttn s).creds = s.creds := rfl
@[simp] theorem recomputeAttn_conditions : (recomputeAttn s).conditions = s.conditions := rfl
@[simp] theorem recomputeAttn_settings : (recomputeAttn s).settings = s.settings := rfl
@[simp] theorem recomputeAttn_store : (recomputeAttn s).store = s.store := rfl
@[simp] theorem recomputeAttn_entropy : (recomputeAttn s).entropy = s.entropy := rfl

/-! `lineIdle` -/

@[simp] theorem lineIdle_pending : (lineIdle s).pending = s.pending := rfl
@[simp] theorem lineIdle_power : (lineIdle s).power = s.power := rfl
@[simp] theorem lineIdle_txNow : (lineIdle s).txNow = s.txNow := rfl
@[simp] theorem lineIdle_txNext : (lineIdle s).txNext = s.txNext := rfl
@[simp] theorem lineIdle_stations : (lineIdle s).stations = s.stations := rfl
@[simp] theorem lineIdle_globalMask : (lineIdle s).globalMask = s.globalMask := rfl
@[simp] theorem lineIdle_queue : (lineIdle s).queue = s.queue := rfl
@[simp] theorem lineIdle_running : (lineIdle s).running = s.running := rfl
@[simp] theorem lineIdle_fault : (lineIdle s).fault = s.fault := rfl
@[simp] theorem lineIdle_time : (lineIdle s).time = s.time := rfl
@[simp] theorem lineIdle_keys : (lineIdle s).keys = s.keys := rfl
@[simp] theorem lineIdle_revoked : (lineIdle s).revoked = s.revoked := rfl
@[simp] theorem lineIdle_chains : (lineIdle s).chains = s.chains := rfl
@[simp] theorem lineIdle_log : (lineIdle s).log = s.log := rfl
@[simp] theorem lineIdle_certificate : (lineIdle s).certificate = s.certificate := rfl
@[simp] theorem lineIdle_partResets : (lineIdle s).partResets = s.partResets := rfl
@[simp] theorem lineIdle_socResets : (lineIdle s).socResets = s.socResets := rfl
@[simp] theorem lineIdle_stream : (lineIdle s).stream = s.stream := rfl
@[simp] theorem lineIdle_targets : (lineIdle s).targets = s.targets := rfl
@[simp] theorem lineIdle_classes : (lineIdle s).classes = s.classes := rfl
@[simp] theorem lineIdle_timer : (lineIdle s).timer = s.timer := rfl
@[simp] theorem lineIdle_hold : (lineIdle s).hold = s.hold := rfl
@[simp] theorem lineIdle_creds : (lineIdle s).creds = s.creds := rfl
@[simp] theorem lineIdle_conditions : (lineIdle s).conditions = s.conditions := rfl
@[simp] theorem lineIdle_settings : (lineIdle s).settings = s.settings := rfl
@[simp] theorem lineIdle_store : (lineIdle s).store = s.store := rfl
@[simp] theorem lineIdle_attn : (lineIdle s).attn = s.attn := rfl
@[simp] theorem lineIdle_entropy : (lineIdle s).entropy = s.entropy := rfl

/-! `handItem` -/

@[simp] theorem handItem_pending (i : TxItem) : (handItem i s).pending = s.pending := rfl
@[simp] theorem handItem_power (i : TxItem) : (handItem i s).power = s.power := rfl
@[simp] theorem handItem_line (i : TxItem) : (handItem i s).line = s.line := rfl
@[simp] theorem handItem_gap (i : TxItem) : (handItem i s).gap = s.gap := rfl
@[simp] theorem handItem_stations (i : TxItem) : (handItem i s).stations = s.stations := rfl
@[simp] theorem handItem_globalMask (i : TxItem) : (handItem i s).globalMask = s.globalMask := rfl
@[simp] theorem handItem_queue (i : TxItem) : (handItem i s).queue = s.queue := rfl
@[simp] theorem handItem_running (i : TxItem) : (handItem i s).running = s.running := rfl
@[simp] theorem handItem_fault (i : TxItem) : (handItem i s).fault = s.fault := rfl
@[simp] theorem handItem_time (i : TxItem) : (handItem i s).time = s.time := rfl
@[simp] theorem handItem_keys (i : TxItem) : (handItem i s).keys = s.keys := rfl
@[simp] theorem handItem_revoked (i : TxItem) : (handItem i s).revoked = s.revoked := rfl
@[simp] theorem handItem_chains (i : TxItem) : (handItem i s).chains = s.chains := rfl
@[simp] theorem handItem_log (i : TxItem) : (handItem i s).log = s.log := rfl
@[simp] theorem handItem_certificate (i : TxItem) : (handItem i s).certificate = s.certificate := rfl
@[simp] theorem handItem_partResets (i : TxItem) : (handItem i s).partResets = s.partResets := rfl
@[simp] theorem handItem_socResets (i : TxItem) : (handItem i s).socResets = s.socResets := rfl
@[simp] theorem handItem_stream (i : TxItem) : (handItem i s).stream = s.stream := rfl
@[simp] theorem handItem_targets (i : TxItem) : (handItem i s).targets = s.targets := rfl
@[simp] theorem handItem_classes (i : TxItem) : (handItem i s).classes = s.classes := rfl
@[simp] theorem handItem_timer (i : TxItem) : (handItem i s).timer = s.timer := rfl
@[simp] theorem handItem_hold (i : TxItem) : (handItem i s).hold = s.hold := rfl
@[simp] theorem handItem_creds (i : TxItem) : (handItem i s).creds = s.creds := rfl
@[simp] theorem handItem_conditions (i : TxItem) : (handItem i s).conditions = s.conditions := rfl
@[simp] theorem handItem_settings (i : TxItem) : (handItem i s).settings = s.settings := rfl
@[simp] theorem handItem_store (i : TxItem) : (handItem i s).store = s.store := rfl
@[simp] theorem handItem_attn (i : TxItem) : (handItem i s).attn = s.attn := rfl
@[simp] theorem handItem_entropy (i : TxItem) : (handItem i s).entropy = s.entropy := rfl

/-! `giveReceipt` -/

@[simp] theorem giveReceipt_pending (r : Receipt) : (giveReceipt r s).pending = s.pending := rfl
@[simp] theorem giveReceipt_power (r : Receipt) : (giveReceipt r s).power = s.power := rfl
@[simp] theorem giveReceipt_line (r : Receipt) : (giveReceipt r s).line = s.line := rfl
@[simp] theorem giveReceipt_gap (r : Receipt) : (giveReceipt r s).gap = s.gap := rfl
@[simp] theorem giveReceipt_stations (r : Receipt) : (giveReceipt r s).stations = s.stations := rfl
@[simp] theorem giveReceipt_globalMask (r : Receipt) : (giveReceipt r s).globalMask = s.globalMask := rfl
@[simp] theorem giveReceipt_queue (r : Receipt) : (giveReceipt r s).queue = s.queue := rfl
@[simp] theorem giveReceipt_running (r : Receipt) : (giveReceipt r s).running = s.running := rfl
@[simp] theorem giveReceipt_fault (r : Receipt) : (giveReceipt r s).fault = s.fault := rfl
@[simp] theorem giveReceipt_time (r : Receipt) : (giveReceipt r s).time = s.time := rfl
@[simp] theorem giveReceipt_keys (r : Receipt) : (giveReceipt r s).keys = s.keys := rfl
@[simp] theorem giveReceipt_revoked (r : Receipt) : (giveReceipt r s).revoked = s.revoked := rfl
@[simp] theorem giveReceipt_chains (r : Receipt) : (giveReceipt r s).chains = s.chains := rfl
@[simp] theorem giveReceipt_log (r : Receipt) : (giveReceipt r s).log = s.log := rfl
@[simp] theorem giveReceipt_certificate (r : Receipt) : (giveReceipt r s).certificate = s.certificate := rfl
@[simp] theorem giveReceipt_partResets (r : Receipt) : (giveReceipt r s).partResets = s.partResets := rfl
@[simp] theorem giveReceipt_socResets (r : Receipt) : (giveReceipt r s).socResets = s.socResets := rfl
@[simp] theorem giveReceipt_stream (r : Receipt) : (giveReceipt r s).stream = s.stream := rfl
@[simp] theorem giveReceipt_targets (r : Receipt) : (giveReceipt r s).targets = s.targets := rfl
@[simp] theorem giveReceipt_classes (r : Receipt) : (giveReceipt r s).classes = s.classes := rfl
@[simp] theorem giveReceipt_timer (r : Receipt) : (giveReceipt r s).timer = s.timer := rfl
@[simp] theorem giveReceipt_hold (r : Receipt) : (giveReceipt r s).hold = s.hold := rfl
@[simp] theorem giveReceipt_creds (r : Receipt) : (giveReceipt r s).creds = s.creds := rfl
@[simp] theorem giveReceipt_conditions (r : Receipt) : (giveReceipt r s).conditions = s.conditions := rfl
@[simp] theorem giveReceipt_settings (r : Receipt) : (giveReceipt r s).settings = s.settings := rfl
@[simp] theorem giveReceipt_store (r : Receipt) : (giveReceipt r s).store = s.store := rfl
@[simp] theorem giveReceipt_attn (r : Receipt) : (giveReceipt r s).attn = s.attn := rfl
@[simp] theorem giveReceipt_entropy (r : Receipt) : (giveReceipt r s).entropy = s.entropy := rfl

/-! `raiseCond` -/

@[simp] theorem raiseCond_pending (k : Condition) : (raiseCond k s).pending = s.pending := rfl
@[simp] theorem raiseCond_power (k : Condition) : (raiseCond k s).power = s.power := rfl
@[simp] theorem raiseCond_line (k : Condition) : (raiseCond k s).line = s.line := rfl
@[simp] theorem raiseCond_gap (k : Condition) : (raiseCond k s).gap = s.gap := rfl
@[simp] theorem raiseCond_txNow (k : Condition) : (raiseCond k s).txNow = s.txNow := rfl
@[simp] theorem raiseCond_txNext (k : Condition) : (raiseCond k s).txNext = s.txNext := rfl
@[simp] theorem raiseCond_stations (k : Condition) : (raiseCond k s).stations = s.stations := rfl
@[simp] theorem raiseCond_globalMask (k : Condition) : (raiseCond k s).globalMask = s.globalMask := rfl
@[simp] theorem raiseCond_queue (k : Condition) : (raiseCond k s).queue = s.queue := rfl
@[simp] theorem raiseCond_running (k : Condition) : (raiseCond k s).running = s.running := rfl
@[simp] theorem raiseCond_fault (k : Condition) : (raiseCond k s).fault = s.fault := rfl
@[simp] theorem raiseCond_time (k : Condition) : (raiseCond k s).time = s.time := rfl
@[simp] theorem raiseCond_keys (k : Condition) : (raiseCond k s).keys = s.keys := rfl
@[simp] theorem raiseCond_revoked (k : Condition) : (raiseCond k s).revoked = s.revoked := rfl
@[simp] theorem raiseCond_chains (k : Condition) : (raiseCond k s).chains = s.chains := rfl
@[simp] theorem raiseCond_log (k : Condition) : (raiseCond k s).log = s.log := rfl
@[simp] theorem raiseCond_certificate (k : Condition) : (raiseCond k s).certificate = s.certificate := rfl
@[simp] theorem raiseCond_partResets (k : Condition) : (raiseCond k s).partResets = s.partResets := rfl
@[simp] theorem raiseCond_socResets (k : Condition) : (raiseCond k s).socResets = s.socResets := rfl
@[simp] theorem raiseCond_stream (k : Condition) : (raiseCond k s).stream = s.stream := rfl
@[simp] theorem raiseCond_targets (k : Condition) : (raiseCond k s).targets = s.targets := rfl
@[simp] theorem raiseCond_classes (k : Condition) : (raiseCond k s).classes = s.classes := rfl
@[simp] theorem raiseCond_timer (k : Condition) : (raiseCond k s).timer = s.timer := rfl
@[simp] theorem raiseCond_hold (k : Condition) : (raiseCond k s).hold = s.hold := rfl
@[simp] theorem raiseCond_creds (k : Condition) : (raiseCond k s).creds = s.creds := rfl
@[simp] theorem raiseCond_settings (k : Condition) : (raiseCond k s).settings = s.settings := rfl
@[simp] theorem raiseCond_store (k : Condition) : (raiseCond k s).store = s.store := rfl
@[simp] theorem raiseCond_attn (k : Condition) : (raiseCond k s).attn = s.attn := rfl
@[simp] theorem raiseCond_entropy (k : Condition) : (raiseCond k s).entropy = s.entropy := rfl

/-! `raiseIf` -/

@[simp] theorem raiseIf_pending (b : Bool) (k : Condition) : (raiseIf b k s).pending = s.pending := rfl
@[simp] theorem raiseIf_power (b : Bool) (k : Condition) : (raiseIf b k s).power = s.power := rfl
@[simp] theorem raiseIf_line (b : Bool) (k : Condition) : (raiseIf b k s).line = s.line := rfl
@[simp] theorem raiseIf_gap (b : Bool) (k : Condition) : (raiseIf b k s).gap = s.gap := rfl
@[simp] theorem raiseIf_txNow (b : Bool) (k : Condition) : (raiseIf b k s).txNow = s.txNow := rfl
@[simp] theorem raiseIf_txNext (b : Bool) (k : Condition) : (raiseIf b k s).txNext = s.txNext := rfl
@[simp] theorem raiseIf_stations (b : Bool) (k : Condition) : (raiseIf b k s).stations = s.stations := rfl
@[simp] theorem raiseIf_globalMask (b : Bool) (k : Condition) : (raiseIf b k s).globalMask = s.globalMask := rfl
@[simp] theorem raiseIf_queue (b : Bool) (k : Condition) : (raiseIf b k s).queue = s.queue := rfl
@[simp] theorem raiseIf_running (b : Bool) (k : Condition) : (raiseIf b k s).running = s.running := rfl
@[simp] theorem raiseIf_fault (b : Bool) (k : Condition) : (raiseIf b k s).fault = s.fault := rfl
@[simp] theorem raiseIf_time (b : Bool) (k : Condition) : (raiseIf b k s).time = s.time := rfl
@[simp] theorem raiseIf_keys (b : Bool) (k : Condition) : (raiseIf b k s).keys = s.keys := rfl
@[simp] theorem raiseIf_revoked (b : Bool) (k : Condition) : (raiseIf b k s).revoked = s.revoked := rfl
@[simp] theorem raiseIf_chains (b : Bool) (k : Condition) : (raiseIf b k s).chains = s.chains := rfl
@[simp] theorem raiseIf_log (b : Bool) (k : Condition) : (raiseIf b k s).log = s.log := rfl
@[simp] theorem raiseIf_certificate (b : Bool) (k : Condition) : (raiseIf b k s).certificate = s.certificate := rfl
@[simp] theorem raiseIf_partResets (b : Bool) (k : Condition) : (raiseIf b k s).partResets = s.partResets := rfl
@[simp] theorem raiseIf_socResets (b : Bool) (k : Condition) : (raiseIf b k s).socResets = s.socResets := rfl
@[simp] theorem raiseIf_stream (b : Bool) (k : Condition) : (raiseIf b k s).stream = s.stream := rfl
@[simp] theorem raiseIf_targets (b : Bool) (k : Condition) : (raiseIf b k s).targets = s.targets := rfl
@[simp] theorem raiseIf_classes (b : Bool) (k : Condition) : (raiseIf b k s).classes = s.classes := rfl
@[simp] theorem raiseIf_timer (b : Bool) (k : Condition) : (raiseIf b k s).timer = s.timer := rfl
@[simp] theorem raiseIf_hold (b : Bool) (k : Condition) : (raiseIf b k s).hold = s.hold := rfl
@[simp] theorem raiseIf_creds (b : Bool) (k : Condition) : (raiseIf b k s).creds = s.creds := rfl
@[simp] theorem raiseIf_settings (b : Bool) (k : Condition) : (raiseIf b k s).settings = s.settings := rfl
@[simp] theorem raiseIf_store (b : Bool) (k : Condition) : (raiseIf b k s).store = s.store := rfl
@[simp] theorem raiseIf_attn (b : Bool) (k : Condition) : (raiseIf b k s).attn = s.attn := rfl
@[simp] theorem raiseIf_entropy (b : Bool) (k : Condition) : (raiseIf b k s).entropy = s.entropy := rfl

/-! `clearNamed` -/

@[simp] theorem clearNamed_pending (m : BitVec 16) : (clearNamed m s).pending = s.pending := rfl
@[simp] theorem clearNamed_power (m : BitVec 16) : (clearNamed m s).power = s.power := rfl
@[simp] theorem clearNamed_line (m : BitVec 16) : (clearNamed m s).line = s.line := rfl
@[simp] theorem clearNamed_gap (m : BitVec 16) : (clearNamed m s).gap = s.gap := rfl
@[simp] theorem clearNamed_txNow (m : BitVec 16) : (clearNamed m s).txNow = s.txNow := rfl
@[simp] theorem clearNamed_txNext (m : BitVec 16) : (clearNamed m s).txNext = s.txNext := rfl
@[simp] theorem clearNamed_stations (m : BitVec 16) : (clearNamed m s).stations = s.stations := rfl
@[simp] theorem clearNamed_globalMask (m : BitVec 16) : (clearNamed m s).globalMask = s.globalMask := rfl
@[simp] theorem clearNamed_queue (m : BitVec 16) : (clearNamed m s).queue = s.queue := rfl
@[simp] theorem clearNamed_running (m : BitVec 16) : (clearNamed m s).running = s.running := rfl
@[simp] theorem clearNamed_fault (m : BitVec 16) : (clearNamed m s).fault = s.fault := rfl
@[simp] theorem clearNamed_time (m : BitVec 16) : (clearNamed m s).time = s.time := rfl
@[simp] theorem clearNamed_keys (m : BitVec 16) : (clearNamed m s).keys = s.keys := rfl
@[simp] theorem clearNamed_revoked (m : BitVec 16) : (clearNamed m s).revoked = s.revoked := rfl
@[simp] theorem clearNamed_chains (m : BitVec 16) : (clearNamed m s).chains = s.chains := rfl
@[simp] theorem clearNamed_log (m : BitVec 16) : (clearNamed m s).log = s.log := rfl
@[simp] theorem clearNamed_certificate (m : BitVec 16) : (clearNamed m s).certificate = s.certificate := rfl
@[simp] theorem clearNamed_partResets (m : BitVec 16) : (clearNamed m s).partResets = s.partResets := rfl
@[simp] theorem clearNamed_socResets (m : BitVec 16) : (clearNamed m s).socResets = s.socResets := rfl
@[simp] theorem clearNamed_stream (m : BitVec 16) : (clearNamed m s).stream = s.stream := rfl
@[simp] theorem clearNamed_targets (m : BitVec 16) : (clearNamed m s).targets = s.targets := rfl
@[simp] theorem clearNamed_classes (m : BitVec 16) : (clearNamed m s).classes = s.classes := rfl
@[simp] theorem clearNamed_timer (m : BitVec 16) : (clearNamed m s).timer = s.timer := rfl
@[simp] theorem clearNamed_hold (m : BitVec 16) : (clearNamed m s).hold = s.hold := rfl
@[simp] theorem clearNamed_creds (m : BitVec 16) : (clearNamed m s).creds = s.creds := rfl
@[simp] theorem clearNamed_settings (m : BitVec 16) : (clearNamed m s).settings = s.settings := rfl
@[simp] theorem clearNamed_store (m : BitVec 16) : (clearNamed m s).store = s.store := rfl
@[simp] theorem clearNamed_attn (m : BitVec 16) : (clearNamed m s).attn = s.attn := rfl
@[simp] theorem clearNamed_entropy (m : BitVec 16) : (clearNamed m s).entropy = s.entropy := rfl

/-! `setStation` -/

@[simp] theorem setStation_pending (st : Station) (r : StationRec) : (setStation st r s).pending = s.pending := rfl
@[simp] theorem setStation_power (st : Station) (r : StationRec) : (setStation st r s).power = s.power := rfl
@[simp] theorem setStation_line (st : Station) (r : StationRec) : (setStation st r s).line = s.line := rfl
@[simp] theorem setStation_gap (st : Station) (r : StationRec) : (setStation st r s).gap = s.gap := rfl
@[simp] theorem setStation_txNow (st : Station) (r : StationRec) : (setStation st r s).txNow = s.txNow := rfl
@[simp] theorem setStation_txNext (st : Station) (r : StationRec) : (setStation st r s).txNext = s.txNext := rfl
@[simp] theorem setStation_globalMask (st : Station) (r : StationRec) :
    (setStation st r s).globalMask = s.globalMask := rfl
@[simp] theorem setStation_queue (st : Station) (r : StationRec) : (setStation st r s).queue = s.queue := rfl
@[simp] theorem setStation_running (st : Station) (r : StationRec) : (setStation st r s).running = s.running := rfl
@[simp] theorem setStation_fault (st : Station) (r : StationRec) : (setStation st r s).fault = s.fault := rfl
@[simp] theorem setStation_time (st : Station) (r : StationRec) : (setStation st r s).time = s.time := rfl
@[simp] theorem setStation_keys (st : Station) (r : StationRec) : (setStation st r s).keys = s.keys := rfl
@[simp] theorem setStation_revoked (st : Station) (r : StationRec) : (setStation st r s).revoked = s.revoked := rfl
@[simp] theorem setStation_chains (st : Station) (r : StationRec) : (setStation st r s).chains = s.chains := rfl
@[simp] theorem setStation_log (st : Station) (r : StationRec) : (setStation st r s).log = s.log := rfl
@[simp] theorem setStation_certificate (st : Station) (r : StationRec) :
    (setStation st r s).certificate = s.certificate := rfl
@[simp] theorem setStation_partResets (st : Station) (r : StationRec) :
    (setStation st r s).partResets = s.partResets := rfl
@[simp] theorem setStation_socResets (st : Station) (r : StationRec) :
    (setStation st r s).socResets = s.socResets := rfl
@[simp] theorem setStation_stream (st : Station) (r : StationRec) : (setStation st r s).stream = s.stream := rfl
@[simp] theorem setStation_targets (st : Station) (r : StationRec) : (setStation st r s).targets = s.targets := rfl
@[simp] theorem setStation_classes (st : Station) (r : StationRec) : (setStation st r s).classes = s.classes := rfl
@[simp] theorem setStation_timer (st : Station) (r : StationRec) : (setStation st r s).timer = s.timer := rfl
@[simp] theorem setStation_hold (st : Station) (r : StationRec) : (setStation st r s).hold = s.hold := rfl
@[simp] theorem setStation_creds (st : Station) (r : StationRec) : (setStation st r s).creds = s.creds := rfl
@[simp] theorem setStation_conditions (st : Station) (r : StationRec) :
    (setStation st r s).conditions = s.conditions := rfl
@[simp] theorem setStation_settings (st : Station) (r : StationRec) : (setStation st r s).settings = s.settings := rfl
@[simp] theorem setStation_store (st : Station) (r : StationRec) : (setStation st r s).store = s.store := rfl
@[simp] theorem setStation_attn (st : Station) (r : StationRec) : (setStation st r s).attn = s.attn := rfl
@[simp] theorem setStation_entropy (st : Station) (r : StationRec) : (setStation st r s).entropy = s.entropy := rfl

/-! `placeReply` -/

@[simp] theorem placeReply_pending (st : Station) (r : Result) (c : Byte) (b : List Byte) (q : Bool) :
    (placeReply st r c b q s).pending = s.pending := rfl
@[simp] theorem placeReply_power (st : Station) (r : Result) (c : Byte) (b : List Byte) (q : Bool) :
    (placeReply st r c b q s).power = s.power := rfl
@[simp] theorem placeReply_line (st : Station) (r : Result) (c : Byte) (b : List Byte) (q : Bool) :
    (placeReply st r c b q s).line = s.line := rfl
@[simp] theorem placeReply_gap (st : Station) (r : Result) (c : Byte) (b : List Byte) (q : Bool) :
    (placeReply st r c b q s).gap = s.gap := rfl
@[simp] theorem placeReply_txNow (st : Station) (r : Result) (c : Byte) (b : List Byte) (q : Bool) :
    (placeReply st r c b q s).txNow = s.txNow := rfl
@[simp] theorem placeReply_txNext (st : Station) (r : Result) (c : Byte) (b : List Byte) (q : Bool) :
    (placeReply st r c b q s).txNext = s.txNext := rfl
@[simp] theorem placeReply_globalMask (st : Station) (r : Result) (c : Byte) (b : List Byte) (q : Bool) :
    (placeReply st r c b q s).globalMask = s.globalMask := rfl
@[simp] theorem placeReply_queue (st : Station) (r : Result) (c : Byte) (b : List Byte) (q : Bool) :
    (placeReply st r c b q s).queue = s.queue := rfl
@[simp] theorem placeReply_running (st : Station) (r : Result) (c : Byte) (b : List Byte) (q : Bool) :
    (placeReply st r c b q s).running = s.running := rfl
@[simp] theorem placeReply_fault (st : Station) (r : Result) (c : Byte) (b : List Byte) (q : Bool) :
    (placeReply st r c b q s).fault = s.fault := rfl
@[simp] theorem placeReply_time (st : Station) (r : Result) (c : Byte) (b : List Byte) (q : Bool) :
    (placeReply st r c b q s).time = s.time := rfl
@[simp] theorem placeReply_keys (st : Station) (r : Result) (c : Byte) (b : List Byte) (q : Bool) :
    (placeReply st r c b q s).keys = s.keys := rfl
@[simp] theorem placeReply_revoked (st : Station) (r : Result) (c : Byte) (b : List Byte) (q : Bool) :
    (placeReply st r c b q s).revoked = s.revoked := rfl
@[simp] theorem placeReply_chains (st : Station) (r : Result) (c : Byte) (b : List Byte) (q : Bool) :
    (placeReply st r c b q s).chains = s.chains := rfl
@[simp] theorem placeReply_log (st : Station) (r : Result) (c : Byte) (b : List Byte) (q : Bool) :
    (placeReply st r c b q s).log = s.log := rfl
@[simp] theorem placeReply_certificate (st : Station) (r : Result) (c : Byte) (b : List Byte) (q : Bool) :
    (placeReply st r c b q s).certificate = s.certificate := rfl
@[simp] theorem placeReply_partResets (st : Station) (r : Result) (c : Byte) (b : List Byte) (q : Bool) :
    (placeReply st r c b q s).partResets = s.partResets := rfl
@[simp] theorem placeReply_socResets (st : Station) (r : Result) (c : Byte) (b : List Byte) (q : Bool) :
    (placeReply st r c b q s).socResets = s.socResets := rfl
@[simp] theorem placeReply_stream (st : Station) (r : Result) (c : Byte) (b : List Byte) (q : Bool) :
    (placeReply st r c b q s).stream = s.stream := rfl
@[simp] theorem placeReply_targets (st : Station) (r : Result) (c : Byte) (b : List Byte) (q : Bool) :
    (placeReply st r c b q s).targets = s.targets := rfl
@[simp] theorem placeReply_classes (st : Station) (r : Result) (c : Byte) (b : List Byte) (q : Bool) :
    (placeReply st r c b q s).classes = s.classes := rfl
@[simp] theorem placeReply_timer (st : Station) (r : Result) (c : Byte) (b : List Byte) (q : Bool) :
    (placeReply st r c b q s).timer = s.timer := rfl
@[simp] theorem placeReply_hold (st : Station) (r : Result) (c : Byte) (b : List Byte) (q : Bool) :
    (placeReply st r c b q s).hold = s.hold := rfl
@[simp] theorem placeReply_creds (st : Station) (r : Result) (c : Byte) (b : List Byte) (q : Bool) :
    (placeReply st r c b q s).creds = s.creds := rfl
@[simp] theorem placeReply_conditions (st : Station) (r : Result) (c : Byte) (b : List Byte) (q : Bool) :
    (placeReply st r c b q s).conditions = s.conditions := rfl
@[simp] theorem placeReply_settings (st : Station) (r : Result) (c : Byte) (b : List Byte) (q : Bool) :
    (placeReply st r c b q s).settings = s.settings := rfl
@[simp] theorem placeReply_store (st : Station) (r : Result) (c : Byte) (b : List Byte) (q : Bool) :
    (placeReply st r c b q s).store = s.store := rfl
@[simp] theorem placeReply_attn (st : Station) (r : Result) (c : Byte) (b : List Byte) (q : Bool) :
    (placeReply st r c b q s).attn = s.attn := rfl
@[simp] theorem placeReply_entropy (st : Station) (r : Result) (c : Byte) (b : List Byte) (q : Bool) :
    (placeReply st r c b q s).entropy = s.entropy := rfl

/-! `endGrant` -/

@[simp] theorem endGrant_pending (st : Station) : (endGrant st s).pending = s.pending := rfl
@[simp] theorem endGrant_power (st : Station) : (endGrant st s).power = s.power := rfl
@[simp] theorem endGrant_line (st : Station) : (endGrant st s).line = s.line := rfl
@[simp] theorem endGrant_gap (st : Station) : (endGrant st s).gap = s.gap := rfl
@[simp] theorem endGrant_txNow (st : Station) : (endGrant st s).txNow = s.txNow := rfl
@[simp] theorem endGrant_txNext (st : Station) : (endGrant st s).txNext = s.txNext := rfl
@[simp] theorem endGrant_globalMask (st : Station) : (endGrant st s).globalMask = s.globalMask := rfl
@[simp] theorem endGrant_queue (st : Station) : (endGrant st s).queue = s.queue := rfl
@[simp] theorem endGrant_running (st : Station) : (endGrant st s).running = s.running := rfl
@[simp] theorem endGrant_fault (st : Station) : (endGrant st s).fault = s.fault := rfl
@[simp] theorem endGrant_time (st : Station) : (endGrant st s).time = s.time := rfl
@[simp] theorem endGrant_keys (st : Station) : (endGrant st s).keys = s.keys := rfl
@[simp] theorem endGrant_revoked (st : Station) : (endGrant st s).revoked = s.revoked := rfl
@[simp] theorem endGrant_chains (st : Station) : (endGrant st s).chains = s.chains := rfl
@[simp] theorem endGrant_log (st : Station) : (endGrant st s).log = s.log := rfl
@[simp] theorem endGrant_certificate (st : Station) : (endGrant st s).certificate = s.certificate := rfl
@[simp] theorem endGrant_partResets (st : Station) : (endGrant st s).partResets = s.partResets := rfl
@[simp] theorem endGrant_socResets (st : Station) : (endGrant st s).socResets = s.socResets := rfl
@[simp] theorem endGrant_stream (st : Station) : (endGrant st s).stream = s.stream := rfl
@[simp] theorem endGrant_targets (st : Station) : (endGrant st s).targets = s.targets := rfl
@[simp] theorem endGrant_classes (st : Station) : (endGrant st s).classes = s.classes := rfl
@[simp] theorem endGrant_timer (st : Station) : (endGrant st s).timer = s.timer := rfl
@[simp] theorem endGrant_hold (st : Station) : (endGrant st s).hold = s.hold := rfl
@[simp] theorem endGrant_creds (st : Station) : (endGrant st s).creds = s.creds := rfl
@[simp] theorem endGrant_conditions (st : Station) : (endGrant st s).conditions = s.conditions := rfl
@[simp] theorem endGrant_settings (st : Station) : (endGrant st s).settings = s.settings := rfl
@[simp] theorem endGrant_store (st : Station) : (endGrant st s).store = s.store := rfl
@[simp] theorem endGrant_attn (st : Station) : (endGrant st s).attn = s.attn := rfl
@[simp] theorem endGrant_entropy (st : Station) : (endGrant st s).entropy = s.entropy := rfl

/-! `endGrantsOf` -/

@[simp] theorem endGrantsOf_pending (id : CredId) : (endGrantsOf id s).pending = s.pending := rfl
@[simp] theorem endGrantsOf_power (id : CredId) : (endGrantsOf id s).power = s.power := rfl
@[simp] theorem endGrantsOf_line (id : CredId) : (endGrantsOf id s).line = s.line := rfl
@[simp] theorem endGrantsOf_gap (id : CredId) : (endGrantsOf id s).gap = s.gap := rfl
@[simp] theorem endGrantsOf_txNow (id : CredId) : (endGrantsOf id s).txNow = s.txNow := rfl
@[simp] theorem endGrantsOf_txNext (id : CredId) : (endGrantsOf id s).txNext = s.txNext := rfl
@[simp] theorem endGrantsOf_globalMask (id : CredId) : (endGrantsOf id s).globalMask = s.globalMask := rfl
@[simp] theorem endGrantsOf_queue (id : CredId) : (endGrantsOf id s).queue = s.queue := rfl
@[simp] theorem endGrantsOf_running (id : CredId) : (endGrantsOf id s).running = s.running := rfl
@[simp] theorem endGrantsOf_fault (id : CredId) : (endGrantsOf id s).fault = s.fault := rfl
@[simp] theorem endGrantsOf_time (id : CredId) : (endGrantsOf id s).time = s.time := rfl
@[simp] theorem endGrantsOf_keys (id : CredId) : (endGrantsOf id s).keys = s.keys := rfl
@[simp] theorem endGrantsOf_revoked (id : CredId) : (endGrantsOf id s).revoked = s.revoked := rfl
@[simp] theorem endGrantsOf_chains (id : CredId) : (endGrantsOf id s).chains = s.chains := rfl
@[simp] theorem endGrantsOf_log (id : CredId) : (endGrantsOf id s).log = s.log := rfl
@[simp] theorem endGrantsOf_certificate (id : CredId) : (endGrantsOf id s).certificate = s.certificate := rfl
@[simp] theorem endGrantsOf_partResets (id : CredId) : (endGrantsOf id s).partResets = s.partResets := rfl
@[simp] theorem endGrantsOf_socResets (id : CredId) : (endGrantsOf id s).socResets = s.socResets := rfl
@[simp] theorem endGrantsOf_stream (id : CredId) : (endGrantsOf id s).stream = s.stream := rfl
@[simp] theorem endGrantsOf_targets (id : CredId) : (endGrantsOf id s).targets = s.targets := rfl
@[simp] theorem endGrantsOf_classes (id : CredId) : (endGrantsOf id s).classes = s.classes := rfl
@[simp] theorem endGrantsOf_timer (id : CredId) : (endGrantsOf id s).timer = s.timer := rfl
@[simp] theorem endGrantsOf_hold (id : CredId) : (endGrantsOf id s).hold = s.hold := rfl
@[simp] theorem endGrantsOf_creds (id : CredId) : (endGrantsOf id s).creds = s.creds := rfl
@[simp] theorem endGrantsOf_conditions (id : CredId) : (endGrantsOf id s).conditions = s.conditions := rfl
@[simp] theorem endGrantsOf_settings (id : CredId) : (endGrantsOf id s).settings = s.settings := rfl
@[simp] theorem endGrantsOf_store (id : CredId) : (endGrantsOf id s).store = s.store := rfl
@[simp] theorem endGrantsOf_attn (id : CredId) : (endGrantsOf id s).attn = s.attn := rfl
@[simp] theorem endGrantsOf_entropy (id : CredId) : (endGrantsOf id s).entropy = s.entropy := rfl

/-! `endAllGrants` -/

@[simp] theorem endAllGrants_pending : (endAllGrants s).pending = s.pending := rfl
@[simp] theorem endAllGrants_power : (endAllGrants s).power = s.power := rfl
@[simp] theorem endAllGrants_line : (endAllGrants s).line = s.line := rfl
@[simp] theorem endAllGrants_gap : (endAllGrants s).gap = s.gap := rfl
@[simp] theorem endAllGrants_txNow : (endAllGrants s).txNow = s.txNow := rfl
@[simp] theorem endAllGrants_txNext : (endAllGrants s).txNext = s.txNext := rfl
@[simp] theorem endAllGrants_globalMask : (endAllGrants s).globalMask = s.globalMask := rfl
@[simp] theorem endAllGrants_queue : (endAllGrants s).queue = s.queue := rfl
@[simp] theorem endAllGrants_running : (endAllGrants s).running = s.running := rfl
@[simp] theorem endAllGrants_fault : (endAllGrants s).fault = s.fault := rfl
@[simp] theorem endAllGrants_time : (endAllGrants s).time = s.time := rfl
@[simp] theorem endAllGrants_keys : (endAllGrants s).keys = s.keys := rfl
@[simp] theorem endAllGrants_revoked : (endAllGrants s).revoked = s.revoked := rfl
@[simp] theorem endAllGrants_chains : (endAllGrants s).chains = s.chains := rfl
@[simp] theorem endAllGrants_log : (endAllGrants s).log = s.log := rfl
@[simp] theorem endAllGrants_certificate : (endAllGrants s).certificate = s.certificate := rfl
@[simp] theorem endAllGrants_partResets : (endAllGrants s).partResets = s.partResets := rfl
@[simp] theorem endAllGrants_socResets : (endAllGrants s).socResets = s.socResets := rfl
@[simp] theorem endAllGrants_stream : (endAllGrants s).stream = s.stream := rfl
@[simp] theorem endAllGrants_targets : (endAllGrants s).targets = s.targets := rfl
@[simp] theorem endAllGrants_classes : (endAllGrants s).classes = s.classes := rfl
@[simp] theorem endAllGrants_timer : (endAllGrants s).timer = s.timer := rfl
@[simp] theorem endAllGrants_hold : (endAllGrants s).hold = s.hold := rfl
@[simp] theorem endAllGrants_creds : (endAllGrants s).creds = s.creds := rfl
@[simp] theorem endAllGrants_conditions : (endAllGrants s).conditions = s.conditions := rfl
@[simp] theorem endAllGrants_settings : (endAllGrants s).settings = s.settings := rfl
@[simp] theorem endAllGrants_store : (endAllGrants s).store = s.store := rfl
@[simp] theorem endAllGrants_attn : (endAllGrants s).attn = s.attn := rfl
@[simp] theorem endAllGrants_entropy : (endAllGrants s).entropy = s.entropy := rfl

/-! `issueGrant` -/

@[simp] theorem issueGrant_pending (st : Station) (id : CredId) : (issueGrant st id s).pending = s.pending := rfl
@[simp] theorem issueGrant_power (st : Station) (id : CredId) : (issueGrant st id s).power = s.power := rfl
@[simp] theorem issueGrant_line (st : Station) (id : CredId) : (issueGrant st id s).line = s.line := rfl
@[simp] theorem issueGrant_gap (st : Station) (id : CredId) : (issueGrant st id s).gap = s.gap := rfl
@[simp] theorem issueGrant_txNow (st : Station) (id : CredId) : (issueGrant st id s).txNow = s.txNow := rfl
@[simp] theorem issueGrant_txNext (st : Station) (id : CredId) : (issueGrant st id s).txNext = s.txNext := rfl
@[simp] theorem issueGrant_globalMask (st : Station) (id : CredId) :
    (issueGrant st id s).globalMask = s.globalMask := rfl
@[simp] theorem issueGrant_queue (st : Station) (id : CredId) : (issueGrant st id s).queue = s.queue := rfl
@[simp] theorem issueGrant_running (st : Station) (id : CredId) : (issueGrant st id s).running = s.running := rfl
@[simp] theorem issueGrant_fault (st : Station) (id : CredId) : (issueGrant st id s).fault = s.fault := rfl
@[simp] theorem issueGrant_time (st : Station) (id : CredId) : (issueGrant st id s).time = s.time := rfl
@[simp] theorem issueGrant_keys (st : Station) (id : CredId) : (issueGrant st id s).keys = s.keys := rfl
@[simp] theorem issueGrant_revoked (st : Station) (id : CredId) : (issueGrant st id s).revoked = s.revoked := rfl
@[simp] theorem issueGrant_chains (st : Station) (id : CredId) : (issueGrant st id s).chains = s.chains := rfl
@[simp] theorem issueGrant_log (st : Station) (id : CredId) : (issueGrant st id s).log = s.log := rfl
@[simp] theorem issueGrant_certificate (st : Station) (id : CredId) :
    (issueGrant st id s).certificate = s.certificate := rfl
@[simp] theorem issueGrant_partResets (st : Station) (id : CredId) :
    (issueGrant st id s).partResets = s.partResets := rfl
@[simp] theorem issueGrant_socResets (st : Station) (id : CredId) : (issueGrant st id s).socResets = s.socResets := rfl
@[simp] theorem issueGrant_stream (st : Station) (id : CredId) : (issueGrant st id s).stream = s.stream := rfl
@[simp] theorem issueGrant_targets (st : Station) (id : CredId) : (issueGrant st id s).targets = s.targets := rfl
@[simp] theorem issueGrant_classes (st : Station) (id : CredId) : (issueGrant st id s).classes = s.classes := rfl
@[simp] theorem issueGrant_timer (st : Station) (id : CredId) : (issueGrant st id s).timer = s.timer := rfl
@[simp] theorem issueGrant_hold (st : Station) (id : CredId) : (issueGrant st id s).hold = s.hold := rfl
@[simp] theorem issueGrant_creds (st : Station) (id : CredId) : (issueGrant st id s).creds = s.creds := rfl
@[simp] theorem issueGrant_conditions (st : Station) (id : CredId) :
    (issueGrant st id s).conditions = s.conditions := rfl
@[simp] theorem issueGrant_settings (st : Station) (id : CredId) : (issueGrant st id s).settings = s.settings := rfl
@[simp] theorem issueGrant_store (st : Station) (id : CredId) : (issueGrant st id s).store = s.store := rfl
@[simp] theorem issueGrant_attn (st : Station) (id : CredId) : (issueGrant st id s).attn = s.attn := rfl
@[simp] theorem issueGrant_entropy (st : Station) (id : CredId) : (issueGrant st id s).entropy = s.entropy := rfl

/-! `enqueue` -/

@[simp] theorem enqueue_pending (st : Station) (q : Bool) (w : Work) : (enqueue st q w s).pending = s.pending := rfl
@[simp] theorem enqueue_power (st : Station) (q : Bool) (w : Work) : (enqueue st q w s).power = s.power := rfl
@[simp] theorem enqueue_line (st : Station) (q : Bool) (w : Work) : (enqueue st q w s).line = s.line := rfl
@[simp] theorem enqueue_gap (st : Station) (q : Bool) (w : Work) : (enqueue st q w s).gap = s.gap := rfl
@[simp] theorem enqueue_txNow (st : Station) (q : Bool) (w : Work) : (enqueue st q w s).txNow = s.txNow := rfl
@[simp] theorem enqueue_txNext (st : Station) (q : Bool) (w : Work) : (enqueue st q w s).txNext = s.txNext := rfl
@[simp] theorem enqueue_stations (st : Station) (q : Bool) (w : Work) : (enqueue st q w s).stations = s.stations := rfl
@[simp] theorem enqueue_globalMask (st : Station) (q : Bool) (w : Work) :
    (enqueue st q w s).globalMask = s.globalMask := rfl
@[simp] theorem enqueue_running (st : Station) (q : Bool) (w : Work) : (enqueue st q w s).running = s.running := rfl
@[simp] theorem enqueue_fault (st : Station) (q : Bool) (w : Work) : (enqueue st q w s).fault = s.fault := rfl
@[simp] theorem enqueue_time (st : Station) (q : Bool) (w : Work) : (enqueue st q w s).time = s.time := rfl
@[simp] theorem enqueue_keys (st : Station) (q : Bool) (w : Work) : (enqueue st q w s).keys = s.keys := rfl
@[simp] theorem enqueue_revoked (st : Station) (q : Bool) (w : Work) : (enqueue st q w s).revoked = s.revoked := rfl
@[simp] theorem enqueue_chains (st : Station) (q : Bool) (w : Work) : (enqueue st q w s).chains = s.chains := rfl
@[simp] theorem enqueue_log (st : Station) (q : Bool) (w : Work) : (enqueue st q w s).log = s.log := rfl
@[simp] theorem enqueue_certificate (st : Station) (q : Bool) (w : Work) :
    (enqueue st q w s).certificate = s.certificate := rfl
@[simp] theorem enqueue_partResets (st : Station) (q : Bool) (w : Work) :
    (enqueue st q w s).partResets = s.partResets := rfl
@[simp] theorem enqueue_socResets (st : Station) (q : Bool) (w : Work) :
    (enqueue st q w s).socResets = s.socResets := rfl
@[simp] theorem enqueue_stream (st : Station) (q : Bool) (w : Work) : (enqueue st q w s).stream = s.stream := rfl
@[simp] theorem enqueue_targets (st : Station) (q : Bool) (w : Work) : (enqueue st q w s).targets = s.targets := rfl
@[simp] theorem enqueue_classes (st : Station) (q : Bool) (w : Work) : (enqueue st q w s).classes = s.classes := rfl
@[simp] theorem enqueue_timer (st : Station) (q : Bool) (w : Work) : (enqueue st q w s).timer = s.timer := rfl
@[simp] theorem enqueue_hold (st : Station) (q : Bool) (w : Work) : (enqueue st q w s).hold = s.hold := rfl
@[simp] theorem enqueue_creds (st : Station) (q : Bool) (w : Work) : (enqueue st q w s).creds = s.creds := rfl
@[simp] theorem enqueue_conditions (st : Station) (q : Bool) (w : Work) :
    (enqueue st q w s).conditions = s.conditions := rfl
@[simp] theorem enqueue_settings (st : Station) (q : Bool) (w : Work) : (enqueue st q w s).settings = s.settings := rfl
@[simp] theorem enqueue_store (st : Station) (q : Bool) (w : Work) : (enqueue st q w s).store = s.store := rfl
@[simp] theorem enqueue_attn (st : Station) (q : Bool) (w : Work) : (enqueue st q w s).attn = s.attn := rfl
@[simp] theorem enqueue_entropy (st : Station) (q : Bool) (w : Work) : (enqueue st q w s).entropy = s.entropy := rfl

/-! `queueTrialAccount` -/

@[simp] theorem queueTrialAccount_pending : (queueTrialAccount s).pending = s.pending := rfl
@[simp] theorem queueTrialAccount_power : (queueTrialAccount s).power = s.power := rfl
@[simp] theorem queueTrialAccount_line : (queueTrialAccount s).line = s.line := rfl
@[simp] theorem queueTrialAccount_gap : (queueTrialAccount s).gap = s.gap := rfl
@[simp] theorem queueTrialAccount_txNow : (queueTrialAccount s).txNow = s.txNow := rfl
@[simp] theorem queueTrialAccount_txNext : (queueTrialAccount s).txNext = s.txNext := rfl
@[simp] theorem queueTrialAccount_stations : (queueTrialAccount s).stations = s.stations := rfl
@[simp] theorem queueTrialAccount_globalMask : (queueTrialAccount s).globalMask = s.globalMask := rfl
@[simp] theorem queueTrialAccount_running : (queueTrialAccount s).running = s.running := rfl
@[simp] theorem queueTrialAccount_fault : (queueTrialAccount s).fault = s.fault := rfl
@[simp] theorem queueTrialAccount_time : (queueTrialAccount s).time = s.time := rfl
@[simp] theorem queueTrialAccount_keys : (queueTrialAccount s).keys = s.keys := rfl
@[simp] theorem queueTrialAccount_revoked : (queueTrialAccount s).revoked = s.revoked := rfl
@[simp] theorem queueTrialAccount_chains : (queueTrialAccount s).chains = s.chains := rfl
@[simp] theorem queueTrialAccount_log : (queueTrialAccount s).log = s.log := rfl
@[simp] theorem queueTrialAccount_certificate : (queueTrialAccount s).certificate = s.certificate := rfl
@[simp] theorem queueTrialAccount_partResets : (queueTrialAccount s).partResets = s.partResets := rfl
@[simp] theorem queueTrialAccount_socResets : (queueTrialAccount s).socResets = s.socResets := rfl
@[simp] theorem queueTrialAccount_stream : (queueTrialAccount s).stream = s.stream := rfl
@[simp] theorem queueTrialAccount_targets : (queueTrialAccount s).targets = s.targets := rfl
@[simp] theorem queueTrialAccount_classes : (queueTrialAccount s).classes = s.classes := rfl
@[simp] theorem queueTrialAccount_timer : (queueTrialAccount s).timer = s.timer := rfl
@[simp] theorem queueTrialAccount_hold : (queueTrialAccount s).hold = s.hold := rfl
@[simp] theorem queueTrialAccount_creds : (queueTrialAccount s).creds = s.creds := rfl
@[simp] theorem queueTrialAccount_conditions : (queueTrialAccount s).conditions = s.conditions := rfl
@[simp] theorem queueTrialAccount_settings : (queueTrialAccount s).settings = s.settings := rfl
@[simp] theorem queueTrialAccount_store : (queueTrialAccount s).store = s.store := rfl
@[simp] theorem queueTrialAccount_attn : (queueTrialAccount s).attn = s.attn := rfl
@[simp] theorem queueTrialAccount_entropy : (queueTrialAccount s).entropy = s.entropy := rfl

/-! `queueButtonReset` -/

@[simp] theorem queueButtonReset_pending : (queueButtonReset s).pending = s.pending := rfl
@[simp] theorem queueButtonReset_power : (queueButtonReset s).power = s.power := rfl
@[simp] theorem queueButtonReset_line : (queueButtonReset s).line = s.line := rfl
@[simp] theorem queueButtonReset_gap : (queueButtonReset s).gap = s.gap := rfl
@[simp] theorem queueButtonReset_txNow : (queueButtonReset s).txNow = s.txNow := rfl
@[simp] theorem queueButtonReset_txNext : (queueButtonReset s).txNext = s.txNext := rfl
@[simp] theorem queueButtonReset_stations : (queueButtonReset s).stations = s.stations := rfl
@[simp] theorem queueButtonReset_globalMask : (queueButtonReset s).globalMask = s.globalMask := rfl
@[simp] theorem queueButtonReset_running : (queueButtonReset s).running = s.running := rfl
@[simp] theorem queueButtonReset_fault : (queueButtonReset s).fault = s.fault := rfl
@[simp] theorem queueButtonReset_time : (queueButtonReset s).time = s.time := rfl
@[simp] theorem queueButtonReset_keys : (queueButtonReset s).keys = s.keys := rfl
@[simp] theorem queueButtonReset_revoked : (queueButtonReset s).revoked = s.revoked := rfl
@[simp] theorem queueButtonReset_chains : (queueButtonReset s).chains = s.chains := rfl
@[simp] theorem queueButtonReset_log : (queueButtonReset s).log = s.log := rfl
@[simp] theorem queueButtonReset_certificate : (queueButtonReset s).certificate = s.certificate := rfl
@[simp] theorem queueButtonReset_partResets : (queueButtonReset s).partResets = s.partResets := rfl
@[simp] theorem queueButtonReset_socResets : (queueButtonReset s).socResets = s.socResets := rfl
@[simp] theorem queueButtonReset_stream : (queueButtonReset s).stream = s.stream := rfl
@[simp] theorem queueButtonReset_targets : (queueButtonReset s).targets = s.targets := rfl
@[simp] theorem queueButtonReset_classes : (queueButtonReset s).classes = s.classes := rfl
@[simp] theorem queueButtonReset_timer : (queueButtonReset s).timer = s.timer := rfl
@[simp] theorem queueButtonReset_hold : (queueButtonReset s).hold = s.hold := rfl
@[simp] theorem queueButtonReset_creds : (queueButtonReset s).creds = s.creds := rfl
@[simp] theorem queueButtonReset_conditions : (queueButtonReset s).conditions = s.conditions := rfl
@[simp] theorem queueButtonReset_settings : (queueButtonReset s).settings = s.settings := rfl
@[simp] theorem queueButtonReset_store : (queueButtonReset s).store = s.store := rfl
@[simp] theorem queueButtonReset_attn : (queueButtonReset s).attn = s.attn := rfl
@[simp] theorem queueButtonReset_entropy : (queueButtonReset s).entropy = s.entropy := rfl

/-! `attachOwnerReset` -/

@[simp] theorem attachOwnerReset_pending (q : Bool) : (attachOwnerReset q s).pending = s.pending := rfl
@[simp] theorem attachOwnerReset_power (q : Bool) : (attachOwnerReset q s).power = s.power := rfl
@[simp] theorem attachOwnerReset_line (q : Bool) : (attachOwnerReset q s).line = s.line := rfl
@[simp] theorem attachOwnerReset_gap (q : Bool) : (attachOwnerReset q s).gap = s.gap := rfl
@[simp] theorem attachOwnerReset_txNow (q : Bool) : (attachOwnerReset q s).txNow = s.txNow := rfl
@[simp] theorem attachOwnerReset_txNext (q : Bool) : (attachOwnerReset q s).txNext = s.txNext := rfl
@[simp] theorem attachOwnerReset_stations (q : Bool) : (attachOwnerReset q s).stations = s.stations := rfl
@[simp] theorem attachOwnerReset_globalMask (q : Bool) : (attachOwnerReset q s).globalMask = s.globalMask := rfl
@[simp] theorem attachOwnerReset_running (q : Bool) : (attachOwnerReset q s).running = s.running := rfl
@[simp] theorem attachOwnerReset_fault (q : Bool) : (attachOwnerReset q s).fault = s.fault := rfl
@[simp] theorem attachOwnerReset_time (q : Bool) : (attachOwnerReset q s).time = s.time := rfl
@[simp] theorem attachOwnerReset_keys (q : Bool) : (attachOwnerReset q s).keys = s.keys := rfl
@[simp] theorem attachOwnerReset_revoked (q : Bool) : (attachOwnerReset q s).revoked = s.revoked := rfl
@[simp] theorem attachOwnerReset_chains (q : Bool) : (attachOwnerReset q s).chains = s.chains := rfl
@[simp] theorem attachOwnerReset_log (q : Bool) : (attachOwnerReset q s).log = s.log := rfl
@[simp] theorem attachOwnerReset_certificate (q : Bool) : (attachOwnerReset q s).certificate = s.certificate := rfl
@[simp] theorem attachOwnerReset_partResets (q : Bool) : (attachOwnerReset q s).partResets = s.partResets := rfl
@[simp] theorem attachOwnerReset_socResets (q : Bool) : (attachOwnerReset q s).socResets = s.socResets := rfl
@[simp] theorem attachOwnerReset_stream (q : Bool) : (attachOwnerReset q s).stream = s.stream := rfl
@[simp] theorem attachOwnerReset_targets (q : Bool) : (attachOwnerReset q s).targets = s.targets := rfl
@[simp] theorem attachOwnerReset_classes (q : Bool) : (attachOwnerReset q s).classes = s.classes := rfl
@[simp] theorem attachOwnerReset_timer (q : Bool) : (attachOwnerReset q s).timer = s.timer := rfl
@[simp] theorem attachOwnerReset_hold (q : Bool) : (attachOwnerReset q s).hold = s.hold := rfl
@[simp] theorem attachOwnerReset_creds (q : Bool) : (attachOwnerReset q s).creds = s.creds := rfl
@[simp] theorem attachOwnerReset_conditions (q : Bool) : (attachOwnerReset q s).conditions = s.conditions := rfl
@[simp] theorem attachOwnerReset_settings (q : Bool) : (attachOwnerReset q s).settings = s.settings := rfl
@[simp] theorem attachOwnerReset_store (q : Bool) : (attachOwnerReset q s).store = s.store := rfl
@[simp] theorem attachOwnerReset_attn (q : Bool) : (attachOwnerReset q s).attn = s.attn := rfl
@[simp] theorem attachOwnerReset_entropy (q : Bool) : (attachOwnerReset q s).entropy = s.entropy := rfl

/-! `setKey` -/

@[simp] theorem setKey_pending (slot : Slot) (k : KeySlot) : (setKey slot k s).pending = s.pending := rfl
@[simp] theorem setKey_power (slot : Slot) (k : KeySlot) : (setKey slot k s).power = s.power := rfl
@[simp] theorem setKey_line (slot : Slot) (k : KeySlot) : (setKey slot k s).line = s.line := rfl
@[simp] theorem setKey_gap (slot : Slot) (k : KeySlot) : (setKey slot k s).gap = s.gap := rfl
@[simp] theorem setKey_txNow (slot : Slot) (k : KeySlot) : (setKey slot k s).txNow = s.txNow := rfl
@[simp] theorem setKey_txNext (slot : Slot) (k : KeySlot) : (setKey slot k s).txNext = s.txNext := rfl
@[simp] theorem setKey_stations (slot : Slot) (k : KeySlot) : (setKey slot k s).stations = s.stations := rfl
@[simp] theorem setKey_globalMask (slot : Slot) (k : KeySlot) : (setKey slot k s).globalMask = s.globalMask := rfl
@[simp] theorem setKey_queue (slot : Slot) (k : KeySlot) : (setKey slot k s).queue = s.queue := rfl
@[simp] theorem setKey_running (slot : Slot) (k : KeySlot) : (setKey slot k s).running = s.running := rfl
@[simp] theorem setKey_fault (slot : Slot) (k : KeySlot) : (setKey slot k s).fault = s.fault := rfl
@[simp] theorem setKey_time (slot : Slot) (k : KeySlot) : (setKey slot k s).time = s.time := rfl
@[simp] theorem setKey_revoked (slot : Slot) (k : KeySlot) : (setKey slot k s).revoked = s.revoked := rfl
@[simp] theorem setKey_chains (slot : Slot) (k : KeySlot) : (setKey slot k s).chains = s.chains := rfl
@[simp] theorem setKey_log (slot : Slot) (k : KeySlot) : (setKey slot k s).log = s.log := rfl
@[simp] theorem setKey_certificate (slot : Slot) (k : KeySlot) : (setKey slot k s).certificate = s.certificate := rfl
@[simp] theorem setKey_partResets (slot : Slot) (k : KeySlot) : (setKey slot k s).partResets = s.partResets := rfl
@[simp] theorem setKey_socResets (slot : Slot) (k : KeySlot) : (setKey slot k s).socResets = s.socResets := rfl
@[simp] theorem setKey_stream (slot : Slot) (k : KeySlot) : (setKey slot k s).stream = s.stream := rfl
@[simp] theorem setKey_targets (slot : Slot) (k : KeySlot) : (setKey slot k s).targets = s.targets := rfl
@[simp] theorem setKey_classes (slot : Slot) (k : KeySlot) : (setKey slot k s).classes = s.classes := rfl
@[simp] theorem setKey_timer (slot : Slot) (k : KeySlot) : (setKey slot k s).timer = s.timer := rfl
@[simp] theorem setKey_hold (slot : Slot) (k : KeySlot) : (setKey slot k s).hold = s.hold := rfl
@[simp] theorem setKey_creds (slot : Slot) (k : KeySlot) : (setKey slot k s).creds = s.creds := rfl
@[simp] theorem setKey_conditions (slot : Slot) (k : KeySlot) : (setKey slot k s).conditions = s.conditions := rfl
@[simp] theorem setKey_settings (slot : Slot) (k : KeySlot) : (setKey slot k s).settings = s.settings := rfl
@[simp] theorem setKey_store (slot : Slot) (k : KeySlot) : (setKey slot k s).store = s.store := rfl
@[simp] theorem setKey_attn (slot : Slot) (k : KeySlot) : (setKey slot k s).attn = s.attn := rfl
@[simp] theorem setKey_entropy (slot : Slot) (k : KeySlot) : (setKey slot k s).entropy = s.entropy := rfl

/-! `freeSlot` -/

@[simp] theorem freeSlot_pending (slot : Slot) : (freeSlot slot s).pending = s.pending := rfl
@[simp] theorem freeSlot_power (slot : Slot) : (freeSlot slot s).power = s.power := rfl
@[simp] theorem freeSlot_line (slot : Slot) : (freeSlot slot s).line = s.line := rfl
@[simp] theorem freeSlot_gap (slot : Slot) : (freeSlot slot s).gap = s.gap := rfl
@[simp] theorem freeSlot_txNow (slot : Slot) : (freeSlot slot s).txNow = s.txNow := rfl
@[simp] theorem freeSlot_txNext (slot : Slot) : (freeSlot slot s).txNext = s.txNext := rfl
@[simp] theorem freeSlot_stations (slot : Slot) : (freeSlot slot s).stations = s.stations := rfl
@[simp] theorem freeSlot_globalMask (slot : Slot) : (freeSlot slot s).globalMask = s.globalMask := rfl
@[simp] theorem freeSlot_queue (slot : Slot) : (freeSlot slot s).queue = s.queue := rfl
@[simp] theorem freeSlot_running (slot : Slot) : (freeSlot slot s).running = s.running := rfl
@[simp] theorem freeSlot_fault (slot : Slot) : (freeSlot slot s).fault = s.fault := rfl
@[simp] theorem freeSlot_time (slot : Slot) : (freeSlot slot s).time = s.time := rfl
@[simp] theorem freeSlot_revoked (slot : Slot) : (freeSlot slot s).revoked = s.revoked := rfl
@[simp] theorem freeSlot_chains (slot : Slot) : (freeSlot slot s).chains = s.chains := rfl
@[simp] theorem freeSlot_log (slot : Slot) : (freeSlot slot s).log = s.log := rfl
@[simp] theorem freeSlot_certificate (slot : Slot) : (freeSlot slot s).certificate = s.certificate := rfl
@[simp] theorem freeSlot_partResets (slot : Slot) : (freeSlot slot s).partResets = s.partResets := rfl
@[simp] theorem freeSlot_socResets (slot : Slot) : (freeSlot slot s).socResets = s.socResets := rfl
@[simp] theorem freeSlot_stream (slot : Slot) : (freeSlot slot s).stream = s.stream := rfl
@[simp] theorem freeSlot_targets (slot : Slot) : (freeSlot slot s).targets = s.targets := rfl
@[simp] theorem freeSlot_classes (slot : Slot) : (freeSlot slot s).classes = s.classes := rfl
@[simp] theorem freeSlot_timer (slot : Slot) : (freeSlot slot s).timer = s.timer := rfl
@[simp] theorem freeSlot_hold (slot : Slot) : (freeSlot slot s).hold = s.hold := rfl
@[simp] theorem freeSlot_creds (slot : Slot) : (freeSlot slot s).creds = s.creds := rfl
@[simp] theorem freeSlot_conditions (slot : Slot) : (freeSlot slot s).conditions = s.conditions := rfl
@[simp] theorem freeSlot_settings (slot : Slot) : (freeSlot slot s).settings = s.settings := rfl
@[simp] theorem freeSlot_store (slot : Slot) : (freeSlot slot s).store = s.store := rfl
@[simp] theorem freeSlot_attn (slot : Slot) : (freeSlot slot s).attn = s.attn := rfl
@[simp] theorem freeSlot_entropy (slot : Slot) : (freeSlot slot s).entropy = s.entropy := rfl

/-! `setChain` -/

@[simp] theorem setChain_pending (c : ChainNo) (r : Chain) : (setChain c r s).pending = s.pending := rfl
@[simp] theorem setChain_power (c : ChainNo) (r : Chain) : (setChain c r s).power = s.power := rfl
@[simp] theorem setChain_line (c : ChainNo) (r : Chain) : (setChain c r s).line = s.line := rfl
@[simp] theorem setChain_gap (c : ChainNo) (r : Chain) : (setChain c r s).gap = s.gap := rfl
@[simp] theorem setChain_txNow (c : ChainNo) (r : Chain) : (setChain c r s).txNow = s.txNow := rfl
@[simp] theorem setChain_txNext (c : ChainNo) (r : Chain) : (setChain c r s).txNext = s.txNext := rfl
@[simp] theorem setChain_stations (c : ChainNo) (r : Chain) : (setChain c r s).stations = s.stations := rfl
@[simp] theorem setChain_globalMask (c : ChainNo) (r : Chain) : (setChain c r s).globalMask = s.globalMask := rfl
@[simp] theorem setChain_queue (c : ChainNo) (r : Chain) : (setChain c r s).queue = s.queue := rfl
@[simp] theorem setChain_running (c : ChainNo) (r : Chain) : (setChain c r s).running = s.running := rfl
@[simp] theorem setChain_fault (c : ChainNo) (r : Chain) : (setChain c r s).fault = s.fault := rfl
@[simp] theorem setChain_time (c : ChainNo) (r : Chain) : (setChain c r s).time = s.time := rfl
@[simp] theorem setChain_keys (c : ChainNo) (r : Chain) : (setChain c r s).keys = s.keys := rfl
@[simp] theorem setChain_revoked (c : ChainNo) (r : Chain) : (setChain c r s).revoked = s.revoked := rfl
@[simp] theorem setChain_log (c : ChainNo) (r : Chain) : (setChain c r s).log = s.log := rfl
@[simp] theorem setChain_certificate (c : ChainNo) (r : Chain) : (setChain c r s).certificate = s.certificate := rfl
@[simp] theorem setChain_partResets (c : ChainNo) (r : Chain) : (setChain c r s).partResets = s.partResets := rfl
@[simp] theorem setChain_socResets (c : ChainNo) (r : Chain) : (setChain c r s).socResets = s.socResets := rfl
@[simp] theorem setChain_stream (c : ChainNo) (r : Chain) : (setChain c r s).stream = s.stream := rfl
@[simp] theorem setChain_targets (c : ChainNo) (r : Chain) : (setChain c r s).targets = s.targets := rfl
@[simp] theorem setChain_classes (c : ChainNo) (r : Chain) : (setChain c r s).classes = s.classes := rfl
@[simp] theorem setChain_timer (c : ChainNo) (r : Chain) : (setChain c r s).timer = s.timer := rfl
@[simp] theorem setChain_hold (c : ChainNo) (r : Chain) : (setChain c r s).hold = s.hold := rfl
@[simp] theorem setChain_creds (c : ChainNo) (r : Chain) : (setChain c r s).creds = s.creds := rfl
@[simp] theorem setChain_conditions (c : ChainNo) (r : Chain) : (setChain c r s).conditions = s.conditions := rfl
@[simp] theorem setChain_settings (c : ChainNo) (r : Chain) : (setChain c r s).settings = s.settings := rfl
@[simp] theorem setChain_store (c : ChainNo) (r : Chain) : (setChain c r s).store = s.store := rfl
@[simp] theorem setChain_attn (c : ChainNo) (r : Chain) : (setChain c r s).attn = s.attn := rfl
@[simp] theorem setChain_entropy (c : ChainNo) (r : Chain) : (setChain c r s).entropy = s.entropy := rfl

/-! `extendChain` -/

@[simp] theorem extendChain_pending (c : ChainNo) (v m : Bytes 32) (tag : List Byte) (st : Option Station) :
    (extendChain c v m tag st s).pending = s.pending := rfl
@[simp] theorem extendChain_power (c : ChainNo) (v m : Bytes 32) (tag : List Byte) (st : Option Station) :
    (extendChain c v m tag st s).power = s.power := rfl
@[simp] theorem extendChain_line (c : ChainNo) (v m : Bytes 32) (tag : List Byte) (st : Option Station) :
    (extendChain c v m tag st s).line = s.line := rfl
@[simp] theorem extendChain_gap (c : ChainNo) (v m : Bytes 32) (tag : List Byte) (st : Option Station) :
    (extendChain c v m tag st s).gap = s.gap := rfl
@[simp] theorem extendChain_txNow (c : ChainNo) (v m : Bytes 32) (tag : List Byte) (st : Option Station) :
    (extendChain c v m tag st s).txNow = s.txNow := rfl
@[simp] theorem extendChain_txNext (c : ChainNo) (v m : Bytes 32) (tag : List Byte) (st : Option Station) :
    (extendChain c v m tag st s).txNext = s.txNext := rfl
@[simp] theorem extendChain_stations (c : ChainNo) (v m : Bytes 32) (tag : List Byte) (st : Option Station) :
    (extendChain c v m tag st s).stations = s.stations := rfl
@[simp] theorem extendChain_globalMask (c : ChainNo) (v m : Bytes 32) (tag : List Byte) (st : Option Station) :
    (extendChain c v m tag st s).globalMask = s.globalMask := rfl
@[simp] theorem extendChain_queue (c : ChainNo) (v m : Bytes 32) (tag : List Byte) (st : Option Station) :
    (extendChain c v m tag st s).queue = s.queue := rfl
@[simp] theorem extendChain_running (c : ChainNo) (v m : Bytes 32) (tag : List Byte) (st : Option Station) :
    (extendChain c v m tag st s).running = s.running := rfl
@[simp] theorem extendChain_fault (c : ChainNo) (v m : Bytes 32) (tag : List Byte) (st : Option Station) :
    (extendChain c v m tag st s).fault = s.fault := rfl
@[simp] theorem extendChain_time (c : ChainNo) (v m : Bytes 32) (tag : List Byte) (st : Option Station) :
    (extendChain c v m tag st s).time = s.time := rfl
@[simp] theorem extendChain_keys (c : ChainNo) (v m : Bytes 32) (tag : List Byte) (st : Option Station) :
    (extendChain c v m tag st s).keys = s.keys := rfl
@[simp] theorem extendChain_revoked (c : ChainNo) (v m : Bytes 32) (tag : List Byte) (st : Option Station) :
    (extendChain c v m tag st s).revoked = s.revoked := rfl
@[simp] theorem extendChain_certificate (c : ChainNo) (v m : Bytes 32) (tag : List Byte) (st : Option Station) :
    (extendChain c v m tag st s).certificate = s.certificate := rfl
@[simp] theorem extendChain_partResets (c : ChainNo) (v m : Bytes 32) (tag : List Byte) (st : Option Station) :
    (extendChain c v m tag st s).partResets = s.partResets := rfl
@[simp] theorem extendChain_socResets (c : ChainNo) (v m : Bytes 32) (tag : List Byte) (st : Option Station) :
    (extendChain c v m tag st s).socResets = s.socResets := rfl
@[simp] theorem extendChain_stream (c : ChainNo) (v m : Bytes 32) (tag : List Byte) (st : Option Station) :
    (extendChain c v m tag st s).stream = s.stream := rfl
@[simp] theorem extendChain_targets (c : ChainNo) (v m : Bytes 32) (tag : List Byte) (st : Option Station) :
    (extendChain c v m tag st s).targets = s.targets := rfl
@[simp] theorem extendChain_classes (c : ChainNo) (v m : Bytes 32) (tag : List Byte) (st : Option Station) :
    (extendChain c v m tag st s).classes = s.classes := rfl
@[simp] theorem extendChain_timer (c : ChainNo) (v m : Bytes 32) (tag : List Byte) (st : Option Station) :
    (extendChain c v m tag st s).timer = s.timer := rfl
@[simp] theorem extendChain_hold (c : ChainNo) (v m : Bytes 32) (tag : List Byte) (st : Option Station) :
    (extendChain c v m tag st s).hold = s.hold := rfl
@[simp] theorem extendChain_creds (c : ChainNo) (v m : Bytes 32) (tag : List Byte) (st : Option Station) :
    (extendChain c v m tag st s).creds = s.creds := rfl
@[simp] theorem extendChain_settings (c : ChainNo) (v m : Bytes 32) (tag : List Byte) (st : Option Station) :
    (extendChain c v m tag st s).settings = s.settings := rfl
@[simp] theorem extendChain_store (c : ChainNo) (v m : Bytes 32) (tag : List Byte) (st : Option Station) :
    (extendChain c v m tag st s).store = s.store := rfl
@[simp] theorem extendChain_attn (c : ChainNo) (v m : Bytes 32) (tag : List Byte) (st : Option Station) :
    (extendChain c v m tag st s).attn = s.attn := rfl
@[simp] theorem extendChain_entropy (c : ChainNo) (v m : Bytes 32) (tag : List Byte) (st : Option Station) :
    (extendChain c v m tag st s).entropy = s.entropy := rfl

/-! `partExtend` -/

@[simp] theorem partExtend_pending (m : Marker) : (partExtend m s).pending = s.pending := rfl
@[simp] theorem partExtend_power (m : Marker) : (partExtend m s).power = s.power := rfl
@[simp] theorem partExtend_line (m : Marker) : (partExtend m s).line = s.line := rfl
@[simp] theorem partExtend_gap (m : Marker) : (partExtend m s).gap = s.gap := rfl
@[simp] theorem partExtend_txNow (m : Marker) : (partExtend m s).txNow = s.txNow := rfl
@[simp] theorem partExtend_txNext (m : Marker) : (partExtend m s).txNext = s.txNext := rfl
@[simp] theorem partExtend_stations (m : Marker) : (partExtend m s).stations = s.stations := rfl
@[simp] theorem partExtend_globalMask (m : Marker) : (partExtend m s).globalMask = s.globalMask := rfl
@[simp] theorem partExtend_queue (m : Marker) : (partExtend m s).queue = s.queue := rfl
@[simp] theorem partExtend_running (m : Marker) : (partExtend m s).running = s.running := rfl
@[simp] theorem partExtend_fault (m : Marker) : (partExtend m s).fault = s.fault := rfl
@[simp] theorem partExtend_time (m : Marker) : (partExtend m s).time = s.time := rfl
@[simp] theorem partExtend_keys (m : Marker) : (partExtend m s).keys = s.keys := rfl
@[simp] theorem partExtend_revoked (m : Marker) : (partExtend m s).revoked = s.revoked := rfl
@[simp] theorem partExtend_certificate (m : Marker) : (partExtend m s).certificate = s.certificate := rfl
@[simp] theorem partExtend_partResets (m : Marker) : (partExtend m s).partResets = s.partResets := rfl
@[simp] theorem partExtend_socResets (m : Marker) : (partExtend m s).socResets = s.socResets := rfl
@[simp] theorem partExtend_stream (m : Marker) : (partExtend m s).stream = s.stream := rfl
@[simp] theorem partExtend_targets (m : Marker) : (partExtend m s).targets = s.targets := rfl
@[simp] theorem partExtend_classes (m : Marker) : (partExtend m s).classes = s.classes := rfl
@[simp] theorem partExtend_timer (m : Marker) : (partExtend m s).timer = s.timer := rfl
@[simp] theorem partExtend_hold (m : Marker) : (partExtend m s).hold = s.hold := rfl
@[simp] theorem partExtend_creds (m : Marker) : (partExtend m s).creds = s.creds := rfl
@[simp] theorem partExtend_settings (m : Marker) : (partExtend m s).settings = s.settings := rfl
@[simp] theorem partExtend_store (m : Marker) : (partExtend m s).store = s.store := rfl
@[simp] theorem partExtend_attn (m : Marker) : (partExtend m s).attn = s.attn := rfl
@[simp] theorem partExtend_entropy (m : Marker) : (partExtend m s).entropy = s.entropy := rfl

/-! `dropTargets` -/

@[simp] theorem dropTargets_pending (f : Target → Bool) : (dropTargets f s).pending = s.pending := rfl
@[simp] theorem dropTargets_power (f : Target → Bool) : (dropTargets f s).power = s.power := rfl
@[simp] theorem dropTargets_line (f : Target → Bool) : (dropTargets f s).line = s.line := rfl
@[simp] theorem dropTargets_gap (f : Target → Bool) : (dropTargets f s).gap = s.gap := rfl
@[simp] theorem dropTargets_txNow (f : Target → Bool) : (dropTargets f s).txNow = s.txNow := rfl
@[simp] theorem dropTargets_txNext (f : Target → Bool) : (dropTargets f s).txNext = s.txNext := rfl
@[simp] theorem dropTargets_stations (f : Target → Bool) : (dropTargets f s).stations = s.stations := rfl
@[simp] theorem dropTargets_globalMask (f : Target → Bool) : (dropTargets f s).globalMask = s.globalMask := rfl
@[simp] theorem dropTargets_queue (f : Target → Bool) : (dropTargets f s).queue = s.queue := rfl
@[simp] theorem dropTargets_running (f : Target → Bool) : (dropTargets f s).running = s.running := rfl
@[simp] theorem dropTargets_fault (f : Target → Bool) : (dropTargets f s).fault = s.fault := rfl
@[simp] theorem dropTargets_time (f : Target → Bool) : (dropTargets f s).time = s.time := rfl
@[simp] theorem dropTargets_keys (f : Target → Bool) : (dropTargets f s).keys = s.keys := rfl
@[simp] theorem dropTargets_revoked (f : Target → Bool) : (dropTargets f s).revoked = s.revoked := rfl
@[simp] theorem dropTargets_chains (f : Target → Bool) : (dropTargets f s).chains = s.chains := rfl
@[simp] theorem dropTargets_log (f : Target → Bool) : (dropTargets f s).log = s.log := rfl
@[simp] theorem dropTargets_certificate (f : Target → Bool) : (dropTargets f s).certificate = s.certificate := rfl
@[simp] theorem dropTargets_partResets (f : Target → Bool) : (dropTargets f s).partResets = s.partResets := rfl
@[simp] theorem dropTargets_socResets (f : Target → Bool) : (dropTargets f s).socResets = s.socResets := rfl
@[simp] theorem dropTargets_stream (f : Target → Bool) : (dropTargets f s).stream = s.stream := rfl
@[simp] theorem dropTargets_classes (f : Target → Bool) : (dropTargets f s).classes = s.classes := rfl
@[simp] theorem dropTargets_timer (f : Target → Bool) : (dropTargets f s).timer = s.timer := rfl
@[simp] theorem dropTargets_hold (f : Target → Bool) : (dropTargets f s).hold = s.hold := rfl
@[simp] theorem dropTargets_creds (f : Target → Bool) : (dropTargets f s).creds = s.creds := rfl
@[simp] theorem dropTargets_conditions (f : Target → Bool) : (dropTargets f s).conditions = s.conditions := rfl
@[simp] theorem dropTargets_settings (f : Target → Bool) : (dropTargets f s).settings = s.settings := rfl
@[simp] theorem dropTargets_store (f : Target → Bool) : (dropTargets f s).store = s.store := rfl
@[simp] theorem dropTargets_attn (f : Target → Bool) : (dropTargets f s).attn = s.attn := rfl
@[simp] theorem dropTargets_entropy (f : Target → Bool) : (dropTargets f s).entropy = s.entropy := rfl

/-! `fillTarget` -/

@[simp] theorem fillTarget_pending (i : TargetNo) (t : Target) : (fillTarget i t s).pending = s.pending := rfl
@[simp] theorem fillTarget_power (i : TargetNo) (t : Target) : (fillTarget i t s).power = s.power := rfl
@[simp] theorem fillTarget_line (i : TargetNo) (t : Target) : (fillTarget i t s).line = s.line := rfl
@[simp] theorem fillTarget_gap (i : TargetNo) (t : Target) : (fillTarget i t s).gap = s.gap := rfl
@[simp] theorem fillTarget_txNow (i : TargetNo) (t : Target) : (fillTarget i t s).txNow = s.txNow := rfl
@[simp] theorem fillTarget_txNext (i : TargetNo) (t : Target) : (fillTarget i t s).txNext = s.txNext := rfl
@[simp] theorem fillTarget_stations (i : TargetNo) (t : Target) : (fillTarget i t s).stations = s.stations := rfl
@[simp] theorem fillTarget_globalMask (i : TargetNo) (t : Target) : (fillTarget i t s).globalMask = s.globalMask := rfl
@[simp] theorem fillTarget_queue (i : TargetNo) (t : Target) : (fillTarget i t s).queue = s.queue := rfl
@[simp] theorem fillTarget_running (i : TargetNo) (t : Target) : (fillTarget i t s).running = s.running := rfl
@[simp] theorem fillTarget_fault (i : TargetNo) (t : Target) : (fillTarget i t s).fault = s.fault := rfl
@[simp] theorem fillTarget_time (i : TargetNo) (t : Target) : (fillTarget i t s).time = s.time := rfl
@[simp] theorem fillTarget_keys (i : TargetNo) (t : Target) : (fillTarget i t s).keys = s.keys := rfl
@[simp] theorem fillTarget_revoked (i : TargetNo) (t : Target) : (fillTarget i t s).revoked = s.revoked := rfl
@[simp] theorem fillTarget_chains (i : TargetNo) (t : Target) : (fillTarget i t s).chains = s.chains := rfl
@[simp] theorem fillTarget_log (i : TargetNo) (t : Target) : (fillTarget i t s).log = s.log := rfl
@[simp] theorem fillTarget_certificate (i : TargetNo) (t : Target) :
    (fillTarget i t s).certificate = s.certificate := rfl
@[simp] theorem fillTarget_partResets (i : TargetNo) (t : Target) : (fillTarget i t s).partResets = s.partResets := rfl
@[simp] theorem fillTarget_socResets (i : TargetNo) (t : Target) : (fillTarget i t s).socResets = s.socResets := rfl
@[simp] theorem fillTarget_classes (i : TargetNo) (t : Target) : (fillTarget i t s).classes = s.classes := rfl
@[simp] theorem fillTarget_timer (i : TargetNo) (t : Target) : (fillTarget i t s).timer = s.timer := rfl
@[simp] theorem fillTarget_hold (i : TargetNo) (t : Target) : (fillTarget i t s).hold = s.hold := rfl
@[simp] theorem fillTarget_creds (i : TargetNo) (t : Target) : (fillTarget i t s).creds = s.creds := rfl
@[simp] theorem fillTarget_conditions (i : TargetNo) (t : Target) : (fillTarget i t s).conditions = s.conditions := rfl
@[simp] theorem fillTarget_settings (i : TargetNo) (t : Target) : (fillTarget i t s).settings = s.settings := rfl
@[simp] theorem fillTarget_store (i : TargetNo) (t : Target) : (fillTarget i t s).store = s.store := rfl
@[simp] theorem fillTarget_attn (i : TargetNo) (t : Target) : (fillTarget i t s).attn = s.attn := rfl
@[simp] theorem fillTarget_entropy (i : TargetNo) (t : Target) : (fillTarget i t s).entropy = s.entropy := rfl

/-! `clearHold` -/

@[simp] theorem clearHold_pending : (clearHold s).pending = s.pending := rfl
@[simp] theorem clearHold_power : (clearHold s).power = s.power := rfl
@[simp] theorem clearHold_line : (clearHold s).line = s.line := rfl
@[simp] theorem clearHold_gap : (clearHold s).gap = s.gap := rfl
@[simp] theorem clearHold_txNow : (clearHold s).txNow = s.txNow := rfl
@[simp] theorem clearHold_txNext : (clearHold s).txNext = s.txNext := rfl
@[simp] theorem clearHold_stations : (clearHold s).stations = s.stations := rfl
@[simp] theorem clearHold_globalMask : (clearHold s).globalMask = s.globalMask := rfl
@[simp] theorem clearHold_queue : (clearHold s).queue = s.queue := rfl
@[simp] theorem clearHold_running : (clearHold s).running = s.running := rfl
@[simp] theorem clearHold_fault : (clearHold s).fault = s.fault := rfl
@[simp] theorem clearHold_keys : (clearHold s).keys = s.keys := rfl
@[simp] theorem clearHold_revoked : (clearHold s).revoked = s.revoked := rfl
@[simp] theorem clearHold_chains : (clearHold s).chains = s.chains := rfl
@[simp] theorem clearHold_log : (clearHold s).log = s.log := rfl
@[simp] theorem clearHold_certificate : (clearHold s).certificate = s.certificate := rfl
@[simp] theorem clearHold_partResets : (clearHold s).partResets = s.partResets := rfl
@[simp] theorem clearHold_socResets : (clearHold s).socResets = s.socResets := rfl
@[simp] theorem clearHold_stream : (clearHold s).stream = s.stream := rfl
@[simp] theorem clearHold_targets : (clearHold s).targets = s.targets := rfl
@[simp] theorem clearHold_classes : (clearHold s).classes = s.classes := rfl
@[simp] theorem clearHold_creds : (clearHold s).creds = s.creds := rfl
@[simp] theorem clearHold_conditions : (clearHold s).conditions = s.conditions := rfl
@[simp] theorem clearHold_settings : (clearHold s).settings = s.settings := rfl
@[simp] theorem clearHold_store : (clearHold s).store = s.store := rfl
@[simp] theorem clearHold_attn : (clearHold s).attn = s.attn := rfl
@[simp] theorem clearHold_entropy : (clearHold s).entropy = s.entropy := rfl

/-! `startTrialTimer` -/

@[simp] theorem startTrialTimer_pending : (startTrialTimer s).pending = s.pending := rfl
@[simp] theorem startTrialTimer_power : (startTrialTimer s).power = s.power := rfl
@[simp] theorem startTrialTimer_line : (startTrialTimer s).line = s.line := rfl
@[simp] theorem startTrialTimer_gap : (startTrialTimer s).gap = s.gap := rfl
@[simp] theorem startTrialTimer_txNow : (startTrialTimer s).txNow = s.txNow := rfl
@[simp] theorem startTrialTimer_txNext : (startTrialTimer s).txNext = s.txNext := rfl
@[simp] theorem startTrialTimer_stations : (startTrialTimer s).stations = s.stations := rfl
@[simp] theorem startTrialTimer_globalMask : (startTrialTimer s).globalMask = s.globalMask := rfl
@[simp] theorem startTrialTimer_queue : (startTrialTimer s).queue = s.queue := rfl
@[simp] theorem startTrialTimer_running : (startTrialTimer s).running = s.running := rfl
@[simp] theorem startTrialTimer_fault : (startTrialTimer s).fault = s.fault := rfl
@[simp] theorem startTrialTimer_time : (startTrialTimer s).time = s.time := rfl
@[simp] theorem startTrialTimer_keys : (startTrialTimer s).keys = s.keys := rfl
@[simp] theorem startTrialTimer_revoked : (startTrialTimer s).revoked = s.revoked := rfl
@[simp] theorem startTrialTimer_chains : (startTrialTimer s).chains = s.chains := rfl
@[simp] theorem startTrialTimer_log : (startTrialTimer s).log = s.log := rfl
@[simp] theorem startTrialTimer_certificate : (startTrialTimer s).certificate = s.certificate := rfl
@[simp] theorem startTrialTimer_partResets : (startTrialTimer s).partResets = s.partResets := rfl
@[simp] theorem startTrialTimer_socResets : (startTrialTimer s).socResets = s.socResets := rfl
@[simp] theorem startTrialTimer_stream : (startTrialTimer s).stream = s.stream := rfl
@[simp] theorem startTrialTimer_targets : (startTrialTimer s).targets = s.targets := rfl
@[simp] theorem startTrialTimer_classes : (startTrialTimer s).classes = s.classes := rfl
@[simp] theorem startTrialTimer_creds : (startTrialTimer s).creds = s.creds := rfl
@[simp] theorem startTrialTimer_conditions : (startTrialTimer s).conditions = s.conditions := rfl
@[simp] theorem startTrialTimer_settings : (startTrialTimer s).settings = s.settings := rfl
@[simp] theorem startTrialTimer_store : (startTrialTimer s).store = s.store := rfl
@[simp] theorem startTrialTimer_attn : (startTrialTimer s).attn = s.attn := rfl
@[simp] theorem startTrialTimer_entropy : (startTrialTimer s).entropy = s.entropy := rfl

/-! `stopTrialTimer` -/

@[simp] theorem stopTrialTimer_pending : (stopTrialTimer s).pending = s.pending := rfl
@[simp] theorem stopTrialTimer_power : (stopTrialTimer s).power = s.power := rfl
@[simp] theorem stopTrialTimer_line : (stopTrialTimer s).line = s.line := rfl
@[simp] theorem stopTrialTimer_gap : (stopTrialTimer s).gap = s.gap := rfl
@[simp] theorem stopTrialTimer_txNow : (stopTrialTimer s).txNow = s.txNow := rfl
@[simp] theorem stopTrialTimer_txNext : (stopTrialTimer s).txNext = s.txNext := rfl
@[simp] theorem stopTrialTimer_stations : (stopTrialTimer s).stations = s.stations := rfl
@[simp] theorem stopTrialTimer_globalMask : (stopTrialTimer s).globalMask = s.globalMask := rfl
@[simp] theorem stopTrialTimer_queue : (stopTrialTimer s).queue = s.queue := rfl
@[simp] theorem stopTrialTimer_running : (stopTrialTimer s).running = s.running := rfl
@[simp] theorem stopTrialTimer_fault : (stopTrialTimer s).fault = s.fault := rfl
@[simp] theorem stopTrialTimer_time : (stopTrialTimer s).time = s.time := rfl
@[simp] theorem stopTrialTimer_keys : (stopTrialTimer s).keys = s.keys := rfl
@[simp] theorem stopTrialTimer_revoked : (stopTrialTimer s).revoked = s.revoked := rfl
@[simp] theorem stopTrialTimer_chains : (stopTrialTimer s).chains = s.chains := rfl
@[simp] theorem stopTrialTimer_log : (stopTrialTimer s).log = s.log := rfl
@[simp] theorem stopTrialTimer_certificate : (stopTrialTimer s).certificate = s.certificate := rfl
@[simp] theorem stopTrialTimer_partResets : (stopTrialTimer s).partResets = s.partResets := rfl
@[simp] theorem stopTrialTimer_socResets : (stopTrialTimer s).socResets = s.socResets := rfl
@[simp] theorem stopTrialTimer_stream : (stopTrialTimer s).stream = s.stream := rfl
@[simp] theorem stopTrialTimer_targets : (stopTrialTimer s).targets = s.targets := rfl
@[simp] theorem stopTrialTimer_classes : (stopTrialTimer s).classes = s.classes := rfl
@[simp] theorem stopTrialTimer_creds : (stopTrialTimer s).creds = s.creds := rfl
@[simp] theorem stopTrialTimer_conditions : (stopTrialTimer s).conditions = s.conditions := rfl
@[simp] theorem stopTrialTimer_settings : (stopTrialTimer s).settings = s.settings := rfl
@[simp] theorem stopTrialTimer_store : (stopTrialTimer s).store = s.store := rfl
@[simp] theorem stopTrialTimer_attn : (stopTrialTimer s).attn = s.attn := rfl
@[simp] theorem stopTrialTimer_entropy : (stopTrialTimer s).entropy = s.entropy := rfl

/-! `setCred` -/

@[simp] theorem setCred_pending (id : CredId) (c : Credential) : (setCred id c s).pending = s.pending := rfl
@[simp] theorem setCred_power (id : CredId) (c : Credential) : (setCred id c s).power = s.power := rfl
@[simp] theorem setCred_line (id : CredId) (c : Credential) : (setCred id c s).line = s.line := rfl
@[simp] theorem setCred_gap (id : CredId) (c : Credential) : (setCred id c s).gap = s.gap := rfl
@[simp] theorem setCred_txNow (id : CredId) (c : Credential) : (setCred id c s).txNow = s.txNow := rfl
@[simp] theorem setCred_txNext (id : CredId) (c : Credential) : (setCred id c s).txNext = s.txNext := rfl
@[simp] theorem setCred_stations (id : CredId) (c : Credential) : (setCred id c s).stations = s.stations := rfl
@[simp] theorem setCred_globalMask (id : CredId) (c : Credential) : (setCred id c s).globalMask = s.globalMask := rfl
@[simp] theorem setCred_queue (id : CredId) (c : Credential) : (setCred id c s).queue = s.queue := rfl
@[simp] theorem setCred_running (id : CredId) (c : Credential) : (setCred id c s).running = s.running := rfl
@[simp] theorem setCred_fault (id : CredId) (c : Credential) : (setCred id c s).fault = s.fault := rfl
@[simp] theorem setCred_time (id : CredId) (c : Credential) : (setCred id c s).time = s.time := rfl
@[simp] theorem setCred_keys (id : CredId) (c : Credential) : (setCred id c s).keys = s.keys := rfl
@[simp] theorem setCred_revoked (id : CredId) (c : Credential) : (setCred id c s).revoked = s.revoked := rfl
@[simp] theorem setCred_chains (id : CredId) (c : Credential) : (setCred id c s).chains = s.chains := rfl
@[simp] theorem setCred_log (id : CredId) (c : Credential) : (setCred id c s).log = s.log := rfl
@[simp] theorem setCred_certificate (id : CredId) (c : Credential) :
    (setCred id c s).certificate = s.certificate := rfl
@[simp] theorem setCred_partResets (id : CredId) (c : Credential) : (setCred id c s).partResets = s.partResets := rfl
@[simp] theorem setCred_socResets (id : CredId) (c : Credential) : (setCred id c s).socResets = s.socResets := rfl
@[simp] theorem setCred_stream (id : CredId) (c : Credential) : (setCred id c s).stream = s.stream := rfl
@[simp] theorem setCred_targets (id : CredId) (c : Credential) : (setCred id c s).targets = s.targets := rfl
@[simp] theorem setCred_classes (id : CredId) (c : Credential) : (setCred id c s).classes = s.classes := rfl
@[simp] theorem setCred_timer (id : CredId) (c : Credential) : (setCred id c s).timer = s.timer := rfl
@[simp] theorem setCred_hold (id : CredId) (c : Credential) : (setCred id c s).hold = s.hold := rfl
@[simp] theorem setCred_conditions (id : CredId) (c : Credential) : (setCred id c s).conditions = s.conditions := rfl
@[simp] theorem setCred_settings (id : CredId) (c : Credential) : (setCred id c s).settings = s.settings := rfl
@[simp] theorem setCred_store (id : CredId) (c : Credential) : (setCred id c s).store = s.store := rfl
@[simp] theorem setCred_attn (id : CredId) (c : Credential) : (setCred id c s).attn = s.attn := rfl
@[simp] theorem setCred_entropy (id : CredId) (c : Credential) : (setCred id c s).entropy = s.entropy := rfl

/-! `freeCred` -/

@[simp] theorem freeCred_pending (id : CredId) : (freeCred id s).pending = s.pending := rfl
@[simp] theorem freeCred_power (id : CredId) : (freeCred id s).power = s.power := rfl
@[simp] theorem freeCred_line (id : CredId) : (freeCred id s).line = s.line := rfl
@[simp] theorem freeCred_gap (id : CredId) : (freeCred id s).gap = s.gap := rfl
@[simp] theorem freeCred_txNow (id : CredId) : (freeCred id s).txNow = s.txNow := rfl
@[simp] theorem freeCred_txNext (id : CredId) : (freeCred id s).txNext = s.txNext := rfl
@[simp] theorem freeCred_stations (id : CredId) : (freeCred id s).stations = s.stations := rfl
@[simp] theorem freeCred_globalMask (id : CredId) : (freeCred id s).globalMask = s.globalMask := rfl
@[simp] theorem freeCred_queue (id : CredId) : (freeCred id s).queue = s.queue := rfl
@[simp] theorem freeCred_running (id : CredId) : (freeCred id s).running = s.running := rfl
@[simp] theorem freeCred_fault (id : CredId) : (freeCred id s).fault = s.fault := rfl
@[simp] theorem freeCred_time (id : CredId) : (freeCred id s).time = s.time := rfl
@[simp] theorem freeCred_keys (id : CredId) : (freeCred id s).keys = s.keys := rfl
@[simp] theorem freeCred_revoked (id : CredId) : (freeCred id s).revoked = s.revoked := rfl
@[simp] theorem freeCred_chains (id : CredId) : (freeCred id s).chains = s.chains := rfl
@[simp] theorem freeCred_log (id : CredId) : (freeCred id s).log = s.log := rfl
@[simp] theorem freeCred_certificate (id : CredId) : (freeCred id s).certificate = s.certificate := rfl
@[simp] theorem freeCred_partResets (id : CredId) : (freeCred id s).partResets = s.partResets := rfl
@[simp] theorem freeCred_socResets (id : CredId) : (freeCred id s).socResets = s.socResets := rfl
@[simp] theorem freeCred_stream (id : CredId) : (freeCred id s).stream = s.stream := rfl
@[simp] theorem freeCred_targets (id : CredId) : (freeCred id s).targets = s.targets := rfl
@[simp] theorem freeCred_classes (id : CredId) : (freeCred id s).classes = s.classes := rfl
@[simp] theorem freeCred_timer (id : CredId) : (freeCred id s).timer = s.timer := rfl
@[simp] theorem freeCred_hold (id : CredId) : (freeCred id s).hold = s.hold := rfl
@[simp] theorem freeCred_conditions (id : CredId) : (freeCred id s).conditions = s.conditions := rfl
@[simp] theorem freeCred_settings (id : CredId) : (freeCred id s).settings = s.settings := rfl
@[simp] theorem freeCred_store (id : CredId) : (freeCred id s).store = s.store := rfl
@[simp] theorem freeCred_attn (id : CredId) : (freeCred id s).attn = s.attn := rfl
@[simp] theorem freeCred_entropy (id : CredId) : (freeCred id s).entropy = s.entropy := rfl

/-! `setData` -/

@[simp] theorem setData_pending (d : JobData) : (setData d s).pending = s.pending := rfl
@[simp] theorem setData_power (d : JobData) : (setData d s).power = s.power := rfl
@[simp] theorem setData_line (d : JobData) : (setData d s).line = s.line := rfl
@[simp] theorem setData_gap (d : JobData) : (setData d s).gap = s.gap := rfl
@[simp] theorem setData_txNow (d : JobData) : (setData d s).txNow = s.txNow := rfl
@[simp] theorem setData_txNext (d : JobData) : (setData d s).txNext = s.txNext := rfl
@[simp] theorem setData_stations (d : JobData) : (setData d s).stations = s.stations := rfl
@[simp] theorem setData_globalMask (d : JobData) : (setData d s).globalMask = s.globalMask := rfl
@[simp] theorem setData_queue (d : JobData) : (setData d s).queue = s.queue := rfl
@[simp] theorem setData_fault (d : JobData) : (setData d s).fault = s.fault := rfl
@[simp] theorem setData_time (d : JobData) : (setData d s).time = s.time := rfl
@[simp] theorem setData_keys (d : JobData) : (setData d s).keys = s.keys := rfl
@[simp] theorem setData_revoked (d : JobData) : (setData d s).revoked = s.revoked := rfl
@[simp] theorem setData_chains (d : JobData) : (setData d s).chains = s.chains := rfl
@[simp] theorem setData_log (d : JobData) : (setData d s).log = s.log := rfl
@[simp] theorem setData_certificate (d : JobData) : (setData d s).certificate = s.certificate := rfl
@[simp] theorem setData_partResets (d : JobData) : (setData d s).partResets = s.partResets := rfl
@[simp] theorem setData_socResets (d : JobData) : (setData d s).socResets = s.socResets := rfl
@[simp] theorem setData_stream (d : JobData) : (setData d s).stream = s.stream := rfl
@[simp] theorem setData_targets (d : JobData) : (setData d s).targets = s.targets := rfl
@[simp] theorem setData_classes (d : JobData) : (setData d s).classes = s.classes := rfl
@[simp] theorem setData_timer (d : JobData) : (setData d s).timer = s.timer := rfl
@[simp] theorem setData_hold (d : JobData) : (setData d s).hold = s.hold := rfl
@[simp] theorem setData_creds (d : JobData) : (setData d s).creds = s.creds := rfl
@[simp] theorem setData_conditions (d : JobData) : (setData d s).conditions = s.conditions := rfl
@[simp] theorem setData_settings (d : JobData) : (setData d s).settings = s.settings := rfl
@[simp] theorem setData_store (d : JobData) : (setData d s).store = s.store := rfl
@[simp] theorem setData_attn (d : JobData) : (setData d s).attn = s.attn := rfl
@[simp] theorem setData_entropy (d : JobData) : (setData d s).entropy = s.entropy := rfl

/-! `noteOutcome` -/

@[simp] theorem noteOutcome_pending (o : ActionOutcome) : (noteOutcome o s).pending = s.pending := rfl
@[simp] theorem noteOutcome_power (o : ActionOutcome) : (noteOutcome o s).power = s.power := rfl
@[simp] theorem noteOutcome_line (o : ActionOutcome) : (noteOutcome o s).line = s.line := rfl
@[simp] theorem noteOutcome_gap (o : ActionOutcome) : (noteOutcome o s).gap = s.gap := rfl
@[simp] theorem noteOutcome_txNow (o : ActionOutcome) : (noteOutcome o s).txNow = s.txNow := rfl
@[simp] theorem noteOutcome_txNext (o : ActionOutcome) : (noteOutcome o s).txNext = s.txNext := rfl
@[simp] theorem noteOutcome_stations (o : ActionOutcome) : (noteOutcome o s).stations = s.stations := rfl
@[simp] theorem noteOutcome_globalMask (o : ActionOutcome) : (noteOutcome o s).globalMask = s.globalMask := rfl
@[simp] theorem noteOutcome_queue (o : ActionOutcome) : (noteOutcome o s).queue = s.queue := rfl
@[simp] theorem noteOutcome_fault (o : ActionOutcome) : (noteOutcome o s).fault = s.fault := rfl
@[simp] theorem noteOutcome_time (o : ActionOutcome) : (noteOutcome o s).time = s.time := rfl
@[simp] theorem noteOutcome_keys (o : ActionOutcome) : (noteOutcome o s).keys = s.keys := rfl
@[simp] theorem noteOutcome_revoked (o : ActionOutcome) : (noteOutcome o s).revoked = s.revoked := rfl
@[simp] theorem noteOutcome_chains (o : ActionOutcome) : (noteOutcome o s).chains = s.chains := rfl
@[simp] theorem noteOutcome_log (o : ActionOutcome) : (noteOutcome o s).log = s.log := rfl
@[simp] theorem noteOutcome_certificate (o : ActionOutcome) : (noteOutcome o s).certificate = s.certificate := rfl
@[simp] theorem noteOutcome_partResets (o : ActionOutcome) : (noteOutcome o s).partResets = s.partResets := rfl
@[simp] theorem noteOutcome_socResets (o : ActionOutcome) : (noteOutcome o s).socResets = s.socResets := rfl
@[simp] theorem noteOutcome_stream (o : ActionOutcome) : (noteOutcome o s).stream = s.stream := rfl
@[simp] theorem noteOutcome_targets (o : ActionOutcome) : (noteOutcome o s).targets = s.targets := rfl
@[simp] theorem noteOutcome_classes (o : ActionOutcome) : (noteOutcome o s).classes = s.classes := rfl
@[simp] theorem noteOutcome_timer (o : ActionOutcome) : (noteOutcome o s).timer = s.timer := rfl
@[simp] theorem noteOutcome_hold (o : ActionOutcome) : (noteOutcome o s).hold = s.hold := rfl
@[simp] theorem noteOutcome_creds (o : ActionOutcome) : (noteOutcome o s).creds = s.creds := rfl
@[simp] theorem noteOutcome_conditions (o : ActionOutcome) : (noteOutcome o s).conditions = s.conditions := rfl
@[simp] theorem noteOutcome_settings (o : ActionOutcome) : (noteOutcome o s).settings = s.settings := rfl
@[simp] theorem noteOutcome_store (o : ActionOutcome) : (noteOutcome o s).store = s.store := rfl
@[simp] theorem noteOutcome_attn (o : ActionOutcome) : (noteOutcome o s).attn = s.attn := rfl
@[simp] theorem noteOutcome_entropy (o : ActionOutcome) : (noteOutcome o s).entropy = s.entropy := rfl

/-! `setTodo` -/

@[simp] theorem setTodo_pending (todo : List JobStep) : (setTodo todo s).pending = s.pending := rfl
@[simp] theorem setTodo_power (todo : List JobStep) : (setTodo todo s).power = s.power := rfl
@[simp] theorem setTodo_line (todo : List JobStep) : (setTodo todo s).line = s.line := rfl
@[simp] theorem setTodo_gap (todo : List JobStep) : (setTodo todo s).gap = s.gap := rfl
@[simp] theorem setTodo_txNow (todo : List JobStep) : (setTodo todo s).txNow = s.txNow := rfl
@[simp] theorem setTodo_txNext (todo : List JobStep) : (setTodo todo s).txNext = s.txNext := rfl
@[simp] theorem setTodo_stations (todo : List JobStep) : (setTodo todo s).stations = s.stations := rfl
@[simp] theorem setTodo_globalMask (todo : List JobStep) : (setTodo todo s).globalMask = s.globalMask := rfl
@[simp] theorem setTodo_queue (todo : List JobStep) : (setTodo todo s).queue = s.queue := rfl
@[simp] theorem setTodo_fault (todo : List JobStep) : (setTodo todo s).fault = s.fault := rfl
@[simp] theorem setTodo_time (todo : List JobStep) : (setTodo todo s).time = s.time := rfl
@[simp] theorem setTodo_keys (todo : List JobStep) : (setTodo todo s).keys = s.keys := rfl
@[simp] theorem setTodo_revoked (todo : List JobStep) : (setTodo todo s).revoked = s.revoked := rfl
@[simp] theorem setTodo_chains (todo : List JobStep) : (setTodo todo s).chains = s.chains := rfl
@[simp] theorem setTodo_log (todo : List JobStep) : (setTodo todo s).log = s.log := rfl
@[simp] theorem setTodo_certificate (todo : List JobStep) : (setTodo todo s).certificate = s.certificate := rfl
@[simp] theorem setTodo_partResets (todo : List JobStep) : (setTodo todo s).partResets = s.partResets := rfl
@[simp] theorem setTodo_socResets (todo : List JobStep) : (setTodo todo s).socResets = s.socResets := rfl
@[simp] theorem setTodo_stream (todo : List JobStep) : (setTodo todo s).stream = s.stream := rfl
@[simp] theorem setTodo_targets (todo : List JobStep) : (setTodo todo s).targets = s.targets := rfl
@[simp] theorem setTodo_classes (todo : List JobStep) : (setTodo todo s).classes = s.classes := rfl
@[simp] theorem setTodo_timer (todo : List JobStep) : (setTodo todo s).timer = s.timer := rfl
@[simp] theorem setTodo_hold (todo : List JobStep) : (setTodo todo s).hold = s.hold := rfl
@[simp] theorem setTodo_creds (todo : List JobStep) : (setTodo todo s).creds = s.creds := rfl
@[simp] theorem setTodo_conditions (todo : List JobStep) : (setTodo todo s).conditions = s.conditions := rfl
@[simp] theorem setTodo_settings (todo : List JobStep) : (setTodo todo s).settings = s.settings := rfl
@[simp] theorem setTodo_store (todo : List JobStep) : (setTodo todo s).store = s.store := rfl
@[simp] theorem setTodo_attn (todo : List JobStep) : (setTodo todo s).attn = s.attn := rfl
@[simp] theorem setTodo_entropy (todo : List JobStep) : (setTodo todo s).entropy = s.entropy := rfl

/-! `countErased` -/

@[simp] theorem countErased_pending (c k : Nat) : (countErased c k s).pending = s.pending := rfl
@[simp] theorem countErased_power (c k : Nat) : (countErased c k s).power = s.power := rfl
@[simp] theorem countErased_line (c k : Nat) : (countErased c k s).line = s.line := rfl
@[simp] theorem countErased_gap (c k : Nat) : (countErased c k s).gap = s.gap := rfl
@[simp] theorem countErased_txNow (c k : Nat) : (countErased c k s).txNow = s.txNow := rfl
@[simp] theorem countErased_txNext (c k : Nat) : (countErased c k s).txNext = s.txNext := rfl
@[simp] theorem countErased_stations (c k : Nat) : (countErased c k s).stations = s.stations := rfl
@[simp] theorem countErased_globalMask (c k : Nat) : (countErased c k s).globalMask = s.globalMask := rfl
@[simp] theorem countErased_queue (c k : Nat) : (countErased c k s).queue = s.queue := rfl
@[simp] theorem countErased_fault (c k : Nat) : (countErased c k s).fault = s.fault := rfl
@[simp] theorem countErased_time (c k : Nat) : (countErased c k s).time = s.time := rfl
@[simp] theorem countErased_keys (c k : Nat) : (countErased c k s).keys = s.keys := rfl
@[simp] theorem countErased_revoked (c k : Nat) : (countErased c k s).revoked = s.revoked := rfl
@[simp] theorem countErased_chains (c k : Nat) : (countErased c k s).chains = s.chains := rfl
@[simp] theorem countErased_log (c k : Nat) : (countErased c k s).log = s.log := rfl
@[simp] theorem countErased_certificate (c k : Nat) : (countErased c k s).certificate = s.certificate := rfl
@[simp] theorem countErased_partResets (c k : Nat) : (countErased c k s).partResets = s.partResets := rfl
@[simp] theorem countErased_socResets (c k : Nat) : (countErased c k s).socResets = s.socResets := rfl
@[simp] theorem countErased_stream (c k : Nat) : (countErased c k s).stream = s.stream := rfl
@[simp] theorem countErased_targets (c k : Nat) : (countErased c k s).targets = s.targets := rfl
@[simp] theorem countErased_classes (c k : Nat) : (countErased c k s).classes = s.classes := rfl
@[simp] theorem countErased_timer (c k : Nat) : (countErased c k s).timer = s.timer := rfl
@[simp] theorem countErased_hold (c k : Nat) : (countErased c k s).hold = s.hold := rfl
@[simp] theorem countErased_creds (c k : Nat) : (countErased c k s).creds = s.creds := rfl
@[simp] theorem countErased_conditions (c k : Nat) : (countErased c k s).conditions = s.conditions := rfl
@[simp] theorem countErased_settings (c k : Nat) : (countErased c k s).settings = s.settings := rfl
@[simp] theorem countErased_store (c k : Nat) : (countErased c k s).store = s.store := rfl
@[simp] theorem countErased_attn (c k : Nat) : (countErased c k s).attn = s.attn := rfl
@[simp] theorem countErased_entropy (c k : Nat) : (countErased c k s).entropy = s.entropy := rfl

/-! `takeJob` -/

@[simp] theorem takeJob_pending : (takeJob s).pending = s.pending := rfl
@[simp] theorem takeJob_power : (takeJob s).power = s.power := rfl
@[simp] theorem takeJob_line : (takeJob s).line = s.line := rfl
@[simp] theorem takeJob_gap : (takeJob s).gap = s.gap := rfl
@[simp] theorem takeJob_txNow : (takeJob s).txNow = s.txNow := rfl
@[simp] theorem takeJob_txNext : (takeJob s).txNext = s.txNext := rfl
@[simp] theorem takeJob_stations : (takeJob s).stations = s.stations := rfl
@[simp] theorem takeJob_globalMask : (takeJob s).globalMask = s.globalMask := rfl
@[simp] theorem takeJob_fault : (takeJob s).fault = s.fault := rfl
@[simp] theorem takeJob_time : (takeJob s).time = s.time := rfl
@[simp] theorem takeJob_keys : (takeJob s).keys = s.keys := rfl
@[simp] theorem takeJob_revoked : (takeJob s).revoked = s.revoked := rfl
@[simp] theorem takeJob_chains : (takeJob s).chains = s.chains := rfl
@[simp] theorem takeJob_log : (takeJob s).log = s.log := rfl
@[simp] theorem takeJob_certificate : (takeJob s).certificate = s.certificate := rfl
@[simp] theorem takeJob_partResets : (takeJob s).partResets = s.partResets := rfl
@[simp] theorem takeJob_socResets : (takeJob s).socResets = s.socResets := rfl
@[simp] theorem takeJob_stream : (takeJob s).stream = s.stream := rfl
@[simp] theorem takeJob_targets : (takeJob s).targets = s.targets := rfl
@[simp] theorem takeJob_classes : (takeJob s).classes = s.classes := rfl
@[simp] theorem takeJob_timer : (takeJob s).timer = s.timer := rfl
@[simp] theorem takeJob_hold : (takeJob s).hold = s.hold := rfl
@[simp] theorem takeJob_creds : (takeJob s).creds = s.creds := rfl
@[simp] theorem takeJob_conditions : (takeJob s).conditions = s.conditions := rfl
@[simp] theorem takeJob_settings : (takeJob s).settings = s.settings := rfl
@[simp] theorem takeJob_store : (takeJob s).store = s.store := rfl
@[simp] theorem takeJob_attn : (takeJob s).attn = s.attn := rfl
@[simp] theorem takeJob_entropy : (takeJob s).entropy = s.entropy := rfl

/-! `setClass` -/

@[simp] theorem setClass_pending (c : ClassNo) (f : ClassRecord → ClassRecord) :
    (setClass c f s).pending = s.pending := rfl
@[simp] theorem setClass_power (c : ClassNo) (f : ClassRecord → ClassRecord) : (setClass c f s).power = s.power := rfl
@[simp] theorem setClass_line (c : ClassNo) (f : ClassRecord → ClassRecord) : (setClass c f s).line = s.line := rfl
@[simp] theorem setClass_gap (c : ClassNo) (f : ClassRecord → ClassRecord) : (setClass c f s).gap = s.gap := rfl
@[simp] theorem setClass_txNow (c : ClassNo) (f : ClassRecord → ClassRecord) : (setClass c f s).txNow = s.txNow := rfl
@[simp] theorem setClass_txNext (c : ClassNo) (f : ClassRecord → ClassRecord) :
    (setClass c f s).txNext = s.txNext := rfl
@[simp] theorem setClass_stations (c : ClassNo) (f : ClassRecord → ClassRecord) :
    (setClass c f s).stations = s.stations := rfl
@[simp] theorem setClass_globalMask (c : ClassNo) (f : ClassRecord → ClassRecord) :
    (setClass c f s).globalMask = s.globalMask := rfl
@[simp] theorem setClass_queue (c : ClassNo) (f : ClassRecord → ClassRecord) : (setClass c f s).queue = s.queue := rfl
@[simp] theorem setClass_running (c : ClassNo) (f : ClassRecord → ClassRecord) :
    (setClass c f s).running = s.running := rfl
@[simp] theorem setClass_fault (c : ClassNo) (f : ClassRecord → ClassRecord) : (setClass c f s).fault = s.fault := rfl
@[simp] theorem setClass_time (c : ClassNo) (f : ClassRecord → ClassRecord) : (setClass c f s).time = s.time := rfl
@[simp] theorem setClass_keys (c : ClassNo) (f : ClassRecord → ClassRecord) : (setClass c f s).keys = s.keys := rfl
@[simp] theorem setClass_revoked (c : ClassNo) (f : ClassRecord → ClassRecord) :
    (setClass c f s).revoked = s.revoked := rfl
@[simp] theorem setClass_chains (c : ClassNo) (f : ClassRecord → ClassRecord) :
    (setClass c f s).chains = s.chains := rfl
@[simp] theorem setClass_log (c : ClassNo) (f : ClassRecord → ClassRecord) : (setClass c f s).log = s.log := rfl
@[simp] theorem setClass_certificate (c : ClassNo) (f : ClassRecord → ClassRecord) :
    (setClass c f s).certificate = s.certificate := rfl
@[simp] theorem setClass_partResets (c : ClassNo) (f : ClassRecord → ClassRecord) :
    (setClass c f s).partResets = s.partResets := rfl
@[simp] theorem setClass_socResets (c : ClassNo) (f : ClassRecord → ClassRecord) :
    (setClass c f s).socResets = s.socResets := rfl
@[simp] theorem setClass_stream (c : ClassNo) (f : ClassRecord → ClassRecord) :
    (setClass c f s).stream = s.stream := rfl
@[simp] theorem setClass_targets (c : ClassNo) (f : ClassRecord → ClassRecord) :
    (setClass c f s).targets = s.targets := rfl
@[simp] theorem setClass_timer (c : ClassNo) (f : ClassRecord → ClassRecord) : (setClass c f s).timer = s.timer := rfl
@[simp] theorem setClass_hold (c : ClassNo) (f : ClassRecord → ClassRecord) : (setClass c f s).hold = s.hold := rfl
@[simp] theorem setClass_creds (c : ClassNo) (f : ClassRecord → ClassRecord) : (setClass c f s).creds = s.creds := rfl
@[simp] theorem setClass_conditions (c : ClassNo) (f : ClassRecord → ClassRecord) :
    (setClass c f s).conditions = s.conditions := rfl
@[simp] theorem setClass_settings (c : ClassNo) (f : ClassRecord → ClassRecord) :
    (setClass c f s).settings = s.settings := rfl
@[simp] theorem setClass_store (c : ClassNo) (f : ClassRecord → ClassRecord) : (setClass c f s).store = s.store := rfl
@[simp] theorem setClass_attn (c : ClassNo) (f : ClassRecord → ClassRecord) : (setClass c f s).attn = s.attn := rfl
@[simp] theorem setClass_entropy (c : ClassNo) (f : ClassRecord → ClassRecord) :
    (setClass c f s).entropy = s.entropy := rfl

/-! `advanceTime` -/

@[simp] theorem advanceTime_pending : (advanceTime s).pending = s.pending := rfl
@[simp] theorem advanceTime_power : (advanceTime s).power = s.power := rfl
@[simp] theorem advanceTime_line : (advanceTime s).line = s.line := rfl
@[simp] theorem advanceTime_gap : (advanceTime s).gap = s.gap := rfl
@[simp] theorem advanceTime_txNow : (advanceTime s).txNow = s.txNow := rfl
@[simp] theorem advanceTime_txNext : (advanceTime s).txNext = s.txNext := rfl
@[simp] theorem advanceTime_stations : (advanceTime s).stations = s.stations := rfl
@[simp] theorem advanceTime_globalMask : (advanceTime s).globalMask = s.globalMask := rfl
@[simp] theorem advanceTime_queue : (advanceTime s).queue = s.queue := rfl
@[simp] theorem advanceTime_running : (advanceTime s).running = s.running := rfl
@[simp] theorem advanceTime_fault : (advanceTime s).fault = s.fault := rfl
@[simp] theorem advanceTime_keys : (advanceTime s).keys = s.keys := rfl
@[simp] theorem advanceTime_revoked : (advanceTime s).revoked = s.revoked := rfl
@[simp] theorem advanceTime_chains : (advanceTime s).chains = s.chains := rfl
@[simp] theorem advanceTime_log : (advanceTime s).log = s.log := rfl
@[simp] theorem advanceTime_certificate : (advanceTime s).certificate = s.certificate := rfl
@[simp] theorem advanceTime_partResets : (advanceTime s).partResets = s.partResets := rfl
@[simp] theorem advanceTime_socResets : (advanceTime s).socResets = s.socResets := rfl
@[simp] theorem advanceTime_stream : (advanceTime s).stream = s.stream := rfl
@[simp] theorem advanceTime_targets : (advanceTime s).targets = s.targets := rfl
@[simp] theorem advanceTime_classes : (advanceTime s).classes = s.classes := rfl
@[simp] theorem advanceTime_timer : (advanceTime s).timer = s.timer := rfl
@[simp] theorem advanceTime_hold : (advanceTime s).hold = s.hold := rfl
@[simp] theorem advanceTime_creds : (advanceTime s).creds = s.creds := rfl
@[simp] theorem advanceTime_conditions : (advanceTime s).conditions = s.conditions := rfl
@[simp] theorem advanceTime_settings : (advanceTime s).settings = s.settings := rfl
@[simp] theorem advanceTime_store : (advanceTime s).store = s.store := rfl
@[simp] theorem advanceTime_attn : (advanceTime s).attn = s.attn := rfl
@[simp] theorem advanceTime_entropy : (advanceTime s).entropy = s.entropy := rfl

/-! `tickPulse` -/

@[simp] theorem tickPulse_pending : (tickPulse s).pending = s.pending := rfl
@[simp] theorem tickPulse_power : (tickPulse s).power = s.power := rfl
@[simp] theorem tickPulse_line : (tickPulse s).line = s.line := rfl
@[simp] theorem tickPulse_gap : (tickPulse s).gap = s.gap := rfl
@[simp] theorem tickPulse_txNow : (tickPulse s).txNow = s.txNow := rfl
@[simp] theorem tickPulse_txNext : (tickPulse s).txNext = s.txNext := rfl
@[simp] theorem tickPulse_stations : (tickPulse s).stations = s.stations := rfl
@[simp] theorem tickPulse_globalMask : (tickPulse s).globalMask = s.globalMask := rfl
@[simp] theorem tickPulse_queue : (tickPulse s).queue = s.queue := rfl
@[simp] theorem tickPulse_running : (tickPulse s).running = s.running := rfl
@[simp] theorem tickPulse_fault : (tickPulse s).fault = s.fault := rfl
@[simp] theorem tickPulse_keys : (tickPulse s).keys = s.keys := rfl
@[simp] theorem tickPulse_revoked : (tickPulse s).revoked = s.revoked := rfl
@[simp] theorem tickPulse_chains : (tickPulse s).chains = s.chains := rfl
@[simp] theorem tickPulse_log : (tickPulse s).log = s.log := rfl
@[simp] theorem tickPulse_certificate : (tickPulse s).certificate = s.certificate := rfl
@[simp] theorem tickPulse_partResets : (tickPulse s).partResets = s.partResets := rfl
@[simp] theorem tickPulse_socResets : (tickPulse s).socResets = s.socResets := rfl
@[simp] theorem tickPulse_stream : (tickPulse s).stream = s.stream := rfl
@[simp] theorem tickPulse_targets : (tickPulse s).targets = s.targets := rfl
@[simp] theorem tickPulse_classes : (tickPulse s).classes = s.classes := rfl
@[simp] theorem tickPulse_timer : (tickPulse s).timer = s.timer := rfl
@[simp] theorem tickPulse_hold : (tickPulse s).hold = s.hold := rfl
@[simp] theorem tickPulse_creds : (tickPulse s).creds = s.creds := rfl
@[simp] theorem tickPulse_conditions : (tickPulse s).conditions = s.conditions := rfl
@[simp] theorem tickPulse_settings : (tickPulse s).settings = s.settings := rfl
@[simp] theorem tickPulse_store : (tickPulse s).store = s.store := rfl
@[simp] theorem tickPulse_attn : (tickPulse s).attn = s.attn := rfl
@[simp] theorem tickPulse_entropy : (tickPulse s).entropy = s.entropy := rfl

/-! `tickCredentials` -/

@[simp] theorem tickCredentials_pending : (tickCredentials s).pending = s.pending := rfl
@[simp] theorem tickCredentials_power : (tickCredentials s).power = s.power := rfl
@[simp] theorem tickCredentials_line : (tickCredentials s).line = s.line := rfl
@[simp] theorem tickCredentials_gap : (tickCredentials s).gap = s.gap := rfl
@[simp] theorem tickCredentials_txNow : (tickCredentials s).txNow = s.txNow := rfl
@[simp] theorem tickCredentials_txNext : (tickCredentials s).txNext = s.txNext := rfl
@[simp] theorem tickCredentials_stations : (tickCredentials s).stations = s.stations := rfl
@[simp] theorem tickCredentials_globalMask : (tickCredentials s).globalMask = s.globalMask := rfl
@[simp] theorem tickCredentials_queue : (tickCredentials s).queue = s.queue := rfl
@[simp] theorem tickCredentials_running : (tickCredentials s).running = s.running := rfl
@[simp] theorem tickCredentials_fault : (tickCredentials s).fault = s.fault := rfl
@[simp] theorem tickCredentials_time : (tickCredentials s).time = s.time := rfl
@[simp] theorem tickCredentials_keys : (tickCredentials s).keys = s.keys := rfl
@[simp] theorem tickCredentials_revoked : (tickCredentials s).revoked = s.revoked := rfl
@[simp] theorem tickCredentials_chains : (tickCredentials s).chains = s.chains := rfl
@[simp] theorem tickCredentials_log : (tickCredentials s).log = s.log := rfl
@[simp] theorem tickCredentials_certificate : (tickCredentials s).certificate = s.certificate := rfl
@[simp] theorem tickCredentials_partResets : (tickCredentials s).partResets = s.partResets := rfl
@[simp] theorem tickCredentials_socResets : (tickCredentials s).socResets = s.socResets := rfl
@[simp] theorem tickCredentials_stream : (tickCredentials s).stream = s.stream := rfl
@[simp] theorem tickCredentials_targets : (tickCredentials s).targets = s.targets := rfl
@[simp] theorem tickCredentials_classes : (tickCredentials s).classes = s.classes := rfl
@[simp] theorem tickCredentials_timer : (tickCredentials s).timer = s.timer := rfl
@[simp] theorem tickCredentials_hold : (tickCredentials s).hold = s.hold := rfl
@[simp] theorem tickCredentials_settings : (tickCredentials s).settings = s.settings := rfl
@[simp] theorem tickCredentials_store : (tickCredentials s).store = s.store := rfl
@[simp] theorem tickCredentials_attn : (tickCredentials s).attn = s.attn := rfl
@[simp] theorem tickCredentials_entropy : (tickCredentials s).entropy = s.entropy := rfl

/-! `tickGrants` -/

@[simp] theorem tickGrants_pending : (tickGrants s).pending = s.pending := rfl
@[simp] theorem tickGrants_power : (tickGrants s).power = s.power := rfl
@[simp] theorem tickGrants_line : (tickGrants s).line = s.line := rfl
@[simp] theorem tickGrants_gap : (tickGrants s).gap = s.gap := rfl
@[simp] theorem tickGrants_txNow : (tickGrants s).txNow = s.txNow := rfl
@[simp] theorem tickGrants_txNext : (tickGrants s).txNext = s.txNext := rfl
@[simp] theorem tickGrants_globalMask : (tickGrants s).globalMask = s.globalMask := rfl
@[simp] theorem tickGrants_queue : (tickGrants s).queue = s.queue := rfl
@[simp] theorem tickGrants_running : (tickGrants s).running = s.running := rfl
@[simp] theorem tickGrants_fault : (tickGrants s).fault = s.fault := rfl
@[simp] theorem tickGrants_time : (tickGrants s).time = s.time := rfl
@[simp] theorem tickGrants_keys : (tickGrants s).keys = s.keys := rfl
@[simp] theorem tickGrants_revoked : (tickGrants s).revoked = s.revoked := rfl
@[simp] theorem tickGrants_chains : (tickGrants s).chains = s.chains := rfl
@[simp] theorem tickGrants_log : (tickGrants s).log = s.log := rfl
@[simp] theorem tickGrants_certificate : (tickGrants s).certificate = s.certificate := rfl
@[simp] theorem tickGrants_partResets : (tickGrants s).partResets = s.partResets := rfl
@[simp] theorem tickGrants_socResets : (tickGrants s).socResets = s.socResets := rfl
@[simp] theorem tickGrants_stream : (tickGrants s).stream = s.stream := rfl
@[simp] theorem tickGrants_targets : (tickGrants s).targets = s.targets := rfl
@[simp] theorem tickGrants_classes : (tickGrants s).classes = s.classes := rfl
@[simp] theorem tickGrants_timer : (tickGrants s).timer = s.timer := rfl
@[simp] theorem tickGrants_hold : (tickGrants s).hold = s.hold := rfl
@[simp] theorem tickGrants_creds : (tickGrants s).creds = s.creds := rfl
@[simp] theorem tickGrants_conditions : (tickGrants s).conditions = s.conditions := rfl
@[simp] theorem tickGrants_settings : (tickGrants s).settings = s.settings := rfl
@[simp] theorem tickGrants_store : (tickGrants s).store = s.store := rfl
@[simp] theorem tickGrants_attn : (tickGrants s).attn = s.attn := rfl
@[simp] theorem tickGrants_entropy : (tickGrants s).entropy = s.entropy := rfl

/-! `senseReset` -/

@[simp] theorem senseReset_pending : (senseReset s).pending = s.pending := rfl
@[simp] theorem senseReset_power : (senseReset s).power = s.power := rfl
@[simp] theorem senseReset_line : (senseReset s).line = s.line := rfl
@[simp] theorem senseReset_gap : (senseReset s).gap = s.gap := rfl
@[simp] theorem senseReset_txNow : (senseReset s).txNow = s.txNow := rfl
@[simp] theorem senseReset_txNext : (senseReset s).txNext = s.txNext := rfl
@[simp] theorem senseReset_stations : (senseReset s).stations = s.stations := rfl
@[simp] theorem senseReset_globalMask : (senseReset s).globalMask = s.globalMask := rfl
@[simp] theorem senseReset_queue : (senseReset s).queue = s.queue := rfl
@[simp] theorem senseReset_running : (senseReset s).running = s.running := rfl
@[simp] theorem senseReset_fault : (senseReset s).fault = s.fault := rfl
@[simp] theorem senseReset_keys : (senseReset s).keys = s.keys := rfl
@[simp] theorem senseReset_revoked : (senseReset s).revoked = s.revoked := rfl
@[simp] theorem senseReset_chains : (senseReset s).chains = s.chains := rfl
@[simp] theorem senseReset_log : (senseReset s).log = s.log := rfl
@[simp] theorem senseReset_certificate : (senseReset s).certificate = s.certificate := rfl
@[simp] theorem senseReset_partResets : (senseReset s).partResets = s.partResets := rfl
@[simp] theorem senseReset_socResets : (senseReset s).socResets = s.socResets := rfl
@[simp] theorem senseReset_stream : (senseReset s).stream = s.stream := rfl
@[simp] theorem senseReset_targets : (senseReset s).targets = s.targets := rfl
@[simp] theorem senseReset_classes : (senseReset s).classes = s.classes := rfl
@[simp] theorem senseReset_timer : (senseReset s).timer = s.timer := rfl
@[simp] theorem senseReset_hold : (senseReset s).hold = s.hold := rfl
@[simp] theorem senseReset_creds : (senseReset s).creds = s.creds := rfl
@[simp] theorem senseReset_conditions : (senseReset s).conditions = s.conditions := rfl
@[simp] theorem senseReset_settings : (senseReset s).settings = s.settings := rfl
@[simp] theorem senseReset_store : (senseReset s).store = s.store := rfl
@[simp] theorem senseReset_attn : (senseReset s).attn = s.attn := rfl
@[simp] theorem senseReset_entropy : (senseReset s).entropy = s.entropy := rfl

/-! `crossRunning` -/

@[simp] theorem crossRunning_pending : (crossRunning s).pending = s.pending := rfl
@[simp] theorem crossRunning_power : (crossRunning s).power = s.power := rfl
@[simp] theorem crossRunning_line : (crossRunning s).line = s.line := rfl
@[simp] theorem crossRunning_gap : (crossRunning s).gap = s.gap := rfl
@[simp] theorem crossRunning_txNow : (crossRunning s).txNow = s.txNow := rfl
@[simp] theorem crossRunning_txNext : (crossRunning s).txNext = s.txNext := rfl
@[simp] theorem crossRunning_stations : (crossRunning s).stations = s.stations := rfl
@[simp] theorem crossRunning_globalMask : (crossRunning s).globalMask = s.globalMask := rfl
@[simp] theorem crossRunning_queue : (crossRunning s).queue = s.queue := rfl
@[simp] theorem crossRunning_fault : (crossRunning s).fault = s.fault := rfl
@[simp] theorem crossRunning_time : (crossRunning s).time = s.time := rfl
@[simp] theorem crossRunning_keys : (crossRunning s).keys = s.keys := rfl
@[simp] theorem crossRunning_revoked : (crossRunning s).revoked = s.revoked := rfl
@[simp] theorem crossRunning_chains : (crossRunning s).chains = s.chains := rfl
@[simp] theorem crossRunning_log : (crossRunning s).log = s.log := rfl
@[simp] theorem crossRunning_certificate : (crossRunning s).certificate = s.certificate := rfl
@[simp] theorem crossRunning_partResets : (crossRunning s).partResets = s.partResets := rfl
@[simp] theorem crossRunning_socResets : (crossRunning s).socResets = s.socResets := rfl
@[simp] theorem crossRunning_stream : (crossRunning s).stream = s.stream := rfl
@[simp] theorem crossRunning_targets : (crossRunning s).targets = s.targets := rfl
@[simp] theorem crossRunning_classes : (crossRunning s).classes = s.classes := rfl
@[simp] theorem crossRunning_timer : (crossRunning s).timer = s.timer := rfl
@[simp] theorem crossRunning_hold : (crossRunning s).hold = s.hold := rfl
@[simp] theorem crossRunning_creds : (crossRunning s).creds = s.creds := rfl
@[simp] theorem crossRunning_conditions : (crossRunning s).conditions = s.conditions := rfl
@[simp] theorem crossRunning_settings : (crossRunning s).settings = s.settings := rfl
@[simp] theorem crossRunning_store : (crossRunning s).store = s.store := rfl
@[simp] theorem crossRunning_attn : (crossRunning s).attn = s.attn := rfl
@[simp] theorem crossRunning_entropy : (crossRunning s).entropy = s.entropy := rfl

/-! `resetStations` -/

@[simp] theorem resetStations_pending : (resetStations s).pending = s.pending := rfl
@[simp] theorem resetStations_power : (resetStations s).power = s.power := rfl
@[simp] theorem resetStations_line : (resetStations s).line = s.line := rfl
@[simp] theorem resetStations_gap : (resetStations s).gap = s.gap := rfl
@[simp] theorem resetStations_txNow : (resetStations s).txNow = s.txNow := rfl
@[simp] theorem resetStations_txNext : (resetStations s).txNext = s.txNext := rfl
@[simp] theorem resetStations_queue : (resetStations s).queue = s.queue := rfl
@[simp] theorem resetStations_running : (resetStations s).running = s.running := rfl
@[simp] theorem resetStations_fault : (resetStations s).fault = s.fault := rfl
@[simp] theorem resetStations_time : (resetStations s).time = s.time := rfl
@[simp] theorem resetStations_keys : (resetStations s).keys = s.keys := rfl
@[simp] theorem resetStations_revoked : (resetStations s).revoked = s.revoked := rfl
@[simp] theorem resetStations_chains : (resetStations s).chains = s.chains := rfl
@[simp] theorem resetStations_log : (resetStations s).log = s.log := rfl
@[simp] theorem resetStations_certificate : (resetStations s).certificate = s.certificate := rfl
@[simp] theorem resetStations_partResets : (resetStations s).partResets = s.partResets := rfl
@[simp] theorem resetStations_socResets : (resetStations s).socResets = s.socResets := rfl
@[simp] theorem resetStations_stream : (resetStations s).stream = s.stream := rfl
@[simp] theorem resetStations_targets : (resetStations s).targets = s.targets := rfl
@[simp] theorem resetStations_classes : (resetStations s).classes = s.classes := rfl
@[simp] theorem resetStations_timer : (resetStations s).timer = s.timer := rfl
@[simp] theorem resetStations_hold : (resetStations s).hold = s.hold := rfl
@[simp] theorem resetStations_creds : (resetStations s).creds = s.creds := rfl
@[simp] theorem resetStations_conditions : (resetStations s).conditions = s.conditions := rfl
@[simp] theorem resetStations_settings : (resetStations s).settings = s.settings := rfl
@[simp] theorem resetStations_store : (resetStations s).store = s.store := rfl
@[simp] theorem resetStations_attn : (resetStations s).attn = s.attn := rfl
@[simp] theorem resetStations_entropy : (resetStations s).entropy = s.entropy := rfl

/-! `eraseEpochKeys` -/

@[simp] theorem eraseEpochKeys_pending : (eraseEpochKeys s).pending = s.pending := rfl
@[simp] theorem eraseEpochKeys_power : (eraseEpochKeys s).power = s.power := rfl
@[simp] theorem eraseEpochKeys_line : (eraseEpochKeys s).line = s.line := rfl
@[simp] theorem eraseEpochKeys_gap : (eraseEpochKeys s).gap = s.gap := rfl
@[simp] theorem eraseEpochKeys_txNow : (eraseEpochKeys s).txNow = s.txNow := rfl
@[simp] theorem eraseEpochKeys_txNext : (eraseEpochKeys s).txNext = s.txNext := rfl
@[simp] theorem eraseEpochKeys_stations : (eraseEpochKeys s).stations = s.stations := rfl
@[simp] theorem eraseEpochKeys_globalMask : (eraseEpochKeys s).globalMask = s.globalMask := rfl
@[simp] theorem eraseEpochKeys_queue : (eraseEpochKeys s).queue = s.queue := rfl
@[simp] theorem eraseEpochKeys_running : (eraseEpochKeys s).running = s.running := rfl
@[simp] theorem eraseEpochKeys_fault : (eraseEpochKeys s).fault = s.fault := rfl
@[simp] theorem eraseEpochKeys_time : (eraseEpochKeys s).time = s.time := rfl
@[simp] theorem eraseEpochKeys_revoked : (eraseEpochKeys s).revoked = s.revoked := rfl
@[simp] theorem eraseEpochKeys_chains : (eraseEpochKeys s).chains = s.chains := rfl
@[simp] theorem eraseEpochKeys_log : (eraseEpochKeys s).log = s.log := rfl
@[simp] theorem eraseEpochKeys_certificate : (eraseEpochKeys s).certificate = s.certificate := rfl
@[simp] theorem eraseEpochKeys_partResets : (eraseEpochKeys s).partResets = s.partResets := rfl
@[simp] theorem eraseEpochKeys_socResets : (eraseEpochKeys s).socResets = s.socResets := rfl
@[simp] theorem eraseEpochKeys_stream : (eraseEpochKeys s).stream = s.stream := rfl
@[simp] theorem eraseEpochKeys_targets : (eraseEpochKeys s).targets = s.targets := rfl
@[simp] theorem eraseEpochKeys_classes : (eraseEpochKeys s).classes = s.classes := rfl
@[simp] theorem eraseEpochKeys_timer : (eraseEpochKeys s).timer = s.timer := rfl
@[simp] theorem eraseEpochKeys_hold : (eraseEpochKeys s).hold = s.hold := rfl
@[simp] theorem eraseEpochKeys_creds : (eraseEpochKeys s).creds = s.creds := rfl
@[simp] theorem eraseEpochKeys_conditions : (eraseEpochKeys s).conditions = s.conditions := rfl
@[simp] theorem eraseEpochKeys_settings : (eraseEpochKeys s).settings = s.settings := rfl
@[simp] theorem eraseEpochKeys_store : (eraseEpochKeys s).store = s.store := rfl
@[simp] theorem eraseEpochKeys_attn : (eraseEpochKeys s).attn = s.attn := rfl
@[simp] theorem eraseEpochKeys_entropy : (eraseEpochKeys s).entropy = s.entropy := rfl

/-! `clearBootChains` -/

@[simp] theorem clearBootChains_pending : (clearBootChains s).pending = s.pending := rfl
@[simp] theorem clearBootChains_power : (clearBootChains s).power = s.power := rfl
@[simp] theorem clearBootChains_line : (clearBootChains s).line = s.line := rfl
@[simp] theorem clearBootChains_gap : (clearBootChains s).gap = s.gap := rfl
@[simp] theorem clearBootChains_txNow : (clearBootChains s).txNow = s.txNow := rfl
@[simp] theorem clearBootChains_txNext : (clearBootChains s).txNext = s.txNext := rfl
@[simp] theorem clearBootChains_stations : (clearBootChains s).stations = s.stations := rfl
@[simp] theorem clearBootChains_globalMask : (clearBootChains s).globalMask = s.globalMask := rfl
@[simp] theorem clearBootChains_queue : (clearBootChains s).queue = s.queue := rfl
@[simp] theorem clearBootChains_running : (clearBootChains s).running = s.running := rfl
@[simp] theorem clearBootChains_fault : (clearBootChains s).fault = s.fault := rfl
@[simp] theorem clearBootChains_time : (clearBootChains s).time = s.time := rfl
@[simp] theorem clearBootChains_keys : (clearBootChains s).keys = s.keys := rfl
@[simp] theorem clearBootChains_revoked : (clearBootChains s).revoked = s.revoked := rfl
@[simp] theorem clearBootChains_certificate : (clearBootChains s).certificate = s.certificate := rfl
@[simp] theorem clearBootChains_partResets : (clearBootChains s).partResets = s.partResets := rfl
@[simp] theorem clearBootChains_socResets : (clearBootChains s).socResets = s.socResets := rfl
@[simp] theorem clearBootChains_stream : (clearBootChains s).stream = s.stream := rfl
@[simp] theorem clearBootChains_targets : (clearBootChains s).targets = s.targets := rfl
@[simp] theorem clearBootChains_classes : (clearBootChains s).classes = s.classes := rfl
@[simp] theorem clearBootChains_timer : (clearBootChains s).timer = s.timer := rfl
@[simp] theorem clearBootChains_hold : (clearBootChains s).hold = s.hold := rfl
@[simp] theorem clearBootChains_creds : (clearBootChains s).creds = s.creds := rfl
@[simp] theorem clearBootChains_conditions : (clearBootChains s).conditions = s.conditions := rfl
@[simp] theorem clearBootChains_settings : (clearBootChains s).settings = s.settings := rfl
@[simp] theorem clearBootChains_store : (clearBootChains s).store = s.store := rfl
@[simp] theorem clearBootChains_attn : (clearBootChains s).attn = s.attn := rfl
@[simp] theorem clearBootChains_entropy : (clearBootChains s).entropy = s.entropy := rfl

/-! `countSocReset` -/

@[simp] theorem countSocReset_pending : (countSocReset s).pending = s.pending := rfl
@[simp] theorem countSocReset_power : (countSocReset s).power = s.power := rfl
@[simp] theorem countSocReset_line : (countSocReset s).line = s.line := rfl
@[simp] theorem countSocReset_gap : (countSocReset s).gap = s.gap := rfl
@[simp] theorem countSocReset_txNow : (countSocReset s).txNow = s.txNow := rfl
@[simp] theorem countSocReset_txNext : (countSocReset s).txNext = s.txNext := rfl
@[simp] theorem countSocReset_stations : (countSocReset s).stations = s.stations := rfl
@[simp] theorem countSocReset_globalMask : (countSocReset s).globalMask = s.globalMask := rfl
@[simp] theorem countSocReset_queue : (countSocReset s).queue = s.queue := rfl
@[simp] theorem countSocReset_running : (countSocReset s).running = s.running := rfl
@[simp] theorem countSocReset_fault : (countSocReset s).fault = s.fault := rfl
@[simp] theorem countSocReset_time : (countSocReset s).time = s.time := rfl
@[simp] theorem countSocReset_keys : (countSocReset s).keys = s.keys := rfl
@[simp] theorem countSocReset_revoked : (countSocReset s).revoked = s.revoked := rfl
@[simp] theorem countSocReset_chains : (countSocReset s).chains = s.chains := rfl
@[simp] theorem countSocReset_log : (countSocReset s).log = s.log := rfl
@[simp] theorem countSocReset_certificate : (countSocReset s).certificate = s.certificate := rfl
@[simp] theorem countSocReset_partResets : (countSocReset s).partResets = s.partResets := rfl
@[simp] theorem countSocReset_stream : (countSocReset s).stream = s.stream := rfl
@[simp] theorem countSocReset_targets : (countSocReset s).targets = s.targets := rfl
@[simp] theorem countSocReset_classes : (countSocReset s).classes = s.classes := rfl
@[simp] theorem countSocReset_timer : (countSocReset s).timer = s.timer := rfl
@[simp] theorem countSocReset_hold : (countSocReset s).hold = s.hold := rfl
@[simp] theorem countSocReset_creds : (countSocReset s).creds = s.creds := rfl
@[simp] theorem countSocReset_conditions : (countSocReset s).conditions = s.conditions := rfl
@[simp] theorem countSocReset_settings : (countSocReset s).settings = s.settings := rfl
@[simp] theorem countSocReset_store : (countSocReset s).store = s.store := rfl
@[simp] theorem countSocReset_attn : (countSocReset s).attn = s.attn := rfl
@[simp] theorem countSocReset_entropy : (countSocReset s).entropy = s.entropy := rfl

/-! `dropUpdates` -/

@[simp] theorem dropUpdates_pending : (dropUpdates s).pending = s.pending := rfl
@[simp] theorem dropUpdates_power : (dropUpdates s).power = s.power := rfl
@[simp] theorem dropUpdates_line : (dropUpdates s).line = s.line := rfl
@[simp] theorem dropUpdates_gap : (dropUpdates s).gap = s.gap := rfl
@[simp] theorem dropUpdates_txNow : (dropUpdates s).txNow = s.txNow := rfl
@[simp] theorem dropUpdates_txNext : (dropUpdates s).txNext = s.txNext := rfl
@[simp] theorem dropUpdates_stations : (dropUpdates s).stations = s.stations := rfl
@[simp] theorem dropUpdates_globalMask : (dropUpdates s).globalMask = s.globalMask := rfl
@[simp] theorem dropUpdates_queue : (dropUpdates s).queue = s.queue := rfl
@[simp] theorem dropUpdates_running : (dropUpdates s).running = s.running := rfl
@[simp] theorem dropUpdates_fault : (dropUpdates s).fault = s.fault := rfl
@[simp] theorem dropUpdates_time : (dropUpdates s).time = s.time := rfl
@[simp] theorem dropUpdates_keys : (dropUpdates s).keys = s.keys := rfl
@[simp] theorem dropUpdates_revoked : (dropUpdates s).revoked = s.revoked := rfl
@[simp] theorem dropUpdates_chains : (dropUpdates s).chains = s.chains := rfl
@[simp] theorem dropUpdates_log : (dropUpdates s).log = s.log := rfl
@[simp] theorem dropUpdates_certificate : (dropUpdates s).certificate = s.certificate := rfl
@[simp] theorem dropUpdates_partResets : (dropUpdates s).partResets = s.partResets := rfl
@[simp] theorem dropUpdates_socResets : (dropUpdates s).socResets = s.socResets := rfl
@[simp] theorem dropUpdates_classes : (dropUpdates s).classes = s.classes := rfl
@[simp] theorem dropUpdates_timer : (dropUpdates s).timer = s.timer := rfl
@[simp] theorem dropUpdates_hold : (dropUpdates s).hold = s.hold := rfl
@[simp] theorem dropUpdates_creds : (dropUpdates s).creds = s.creds := rfl
@[simp] theorem dropUpdates_conditions : (dropUpdates s).conditions = s.conditions := rfl
@[simp] theorem dropUpdates_settings : (dropUpdates s).settings = s.settings := rfl
@[simp] theorem dropUpdates_store : (dropUpdates s).store = s.store := rfl
@[simp] theorem dropUpdates_attn : (dropUpdates s).attn = s.attn := rfl
@[simp] theorem dropUpdates_entropy : (dropUpdates s).entropy = s.entropy := rfl

/-! `cutTransmitter` -/

@[simp] theorem cutTransmitter_pending : (cutTransmitter s).pending = s.pending := rfl
@[simp] theorem cutTransmitter_power : (cutTransmitter s).power = s.power := rfl
@[simp] theorem cutTransmitter_line : (cutTransmitter s).line = s.line := rfl
@[simp] theorem cutTransmitter_gap : (cutTransmitter s).gap = s.gap := rfl
@[simp] theorem cutTransmitter_stations : (cutTransmitter s).stations = s.stations := rfl
@[simp] theorem cutTransmitter_globalMask : (cutTransmitter s).globalMask = s.globalMask := rfl
@[simp] theorem cutTransmitter_queue : (cutTransmitter s).queue = s.queue := rfl
@[simp] theorem cutTransmitter_running : (cutTransmitter s).running = s.running := rfl
@[simp] theorem cutTransmitter_fault : (cutTransmitter s).fault = s.fault := rfl
@[simp] theorem cutTransmitter_time : (cutTransmitter s).time = s.time := rfl
@[simp] theorem cutTransmitter_keys : (cutTransmitter s).keys = s.keys := rfl
@[simp] theorem cutTransmitter_revoked : (cutTransmitter s).revoked = s.revoked := rfl
@[simp] theorem cutTransmitter_chains : (cutTransmitter s).chains = s.chains := rfl
@[simp] theorem cutTransmitter_log : (cutTransmitter s).log = s.log := rfl
@[simp] theorem cutTransmitter_certificate : (cutTransmitter s).certificate = s.certificate := rfl
@[simp] theorem cutTransmitter_partResets : (cutTransmitter s).partResets = s.partResets := rfl
@[simp] theorem cutTransmitter_socResets : (cutTransmitter s).socResets = s.socResets := rfl
@[simp] theorem cutTransmitter_stream : (cutTransmitter s).stream = s.stream := rfl
@[simp] theorem cutTransmitter_targets : (cutTransmitter s).targets = s.targets := rfl
@[simp] theorem cutTransmitter_classes : (cutTransmitter s).classes = s.classes := rfl
@[simp] theorem cutTransmitter_timer : (cutTransmitter s).timer = s.timer := rfl
@[simp] theorem cutTransmitter_hold : (cutTransmitter s).hold = s.hold := rfl
@[simp] theorem cutTransmitter_creds : (cutTransmitter s).creds = s.creds := rfl
@[simp] theorem cutTransmitter_conditions : (cutTransmitter s).conditions = s.conditions := rfl
@[simp] theorem cutTransmitter_settings : (cutTransmitter s).settings = s.settings := rfl
@[simp] theorem cutTransmitter_store : (cutTransmitter s).store = s.store := rfl
@[simp] theorem cutTransmitter_attn : (cutTransmitter s).attn = s.attn := rfl
@[simp] theorem cutTransmitter_entropy : (cutTransmitter s).entropy = s.entropy := rfl

/-! `State.withPending` -/

@[simp] theorem withPending_power (p : List Instr) : (s.withPending p).power = s.power := rfl
@[simp] theorem withPending_line (p : List Instr) : (s.withPending p).line = s.line := rfl
@[simp] theorem withPending_gap (p : List Instr) : (s.withPending p).gap = s.gap := rfl
@[simp] theorem withPending_txNow (p : List Instr) : (s.withPending p).txNow = s.txNow := rfl
@[simp] theorem withPending_txNext (p : List Instr) : (s.withPending p).txNext = s.txNext := rfl
@[simp] theorem withPending_stations (p : List Instr) : (s.withPending p).stations = s.stations := rfl
@[simp] theorem withPending_globalMask (p : List Instr) : (s.withPending p).globalMask = s.globalMask := rfl
@[simp] theorem withPending_queue (p : List Instr) : (s.withPending p).queue = s.queue := rfl
@[simp] theorem withPending_running (p : List Instr) : (s.withPending p).running = s.running := rfl
@[simp] theorem withPending_fault (p : List Instr) : (s.withPending p).fault = s.fault := rfl
@[simp] theorem withPending_time (p : List Instr) : (s.withPending p).time = s.time := rfl
@[simp] theorem withPending_keys (p : List Instr) : (s.withPending p).keys = s.keys := rfl
@[simp] theorem withPending_revoked (p : List Instr) : (s.withPending p).revoked = s.revoked := rfl
@[simp] theorem withPending_chains (p : List Instr) : (s.withPending p).chains = s.chains := rfl
@[simp] theorem withPending_log (p : List Instr) : (s.withPending p).log = s.log := rfl
@[simp] theorem withPending_certificate (p : List Instr) : (s.withPending p).certificate = s.certificate := rfl
@[simp] theorem withPending_partResets (p : List Instr) : (s.withPending p).partResets = s.partResets := rfl
@[simp] theorem withPending_socResets (p : List Instr) : (s.withPending p).socResets = s.socResets := rfl
@[simp] theorem withPending_stream (p : List Instr) : (s.withPending p).stream = s.stream := rfl
@[simp] theorem withPending_targets (p : List Instr) : (s.withPending p).targets = s.targets := rfl
@[simp] theorem withPending_classes (p : List Instr) : (s.withPending p).classes = s.classes := rfl
@[simp] theorem withPending_timer (p : List Instr) : (s.withPending p).timer = s.timer := rfl
@[simp] theorem withPending_hold (p : List Instr) : (s.withPending p).hold = s.hold := rfl
@[simp] theorem withPending_creds (p : List Instr) : (s.withPending p).creds = s.creds := rfl
@[simp] theorem withPending_conditions (p : List Instr) : (s.withPending p).conditions = s.conditions := rfl
@[simp] theorem withPending_settings (p : List Instr) : (s.withPending p).settings = s.settings := rfl
@[simp] theorem withPending_store (p : List Instr) : (s.withPending p).store = s.store := rfl
@[simp] theorem withPending_attn (p : List Instr) : (s.withPending p).attn = s.attn := rfl
@[simp] theorem withPending_entropy (p : List Instr) : (s.withPending p).entropy = s.entropy := rfl

/-! The fields that the plain updates write -/

@[simp] theorem recomputeAttn_attn : (recomputeAttn s).attn = attnLevel s := rfl
@[simp] theorem lineIdle_line : (lineIdle s).line = .ignoring := rfl
@[simp] theorem lineIdle_gap : (lineIdle s).gap = false := rfl
@[simp] theorem setStation_stations (st : Station) (r : StationRec) :
    (setStation st r s).stations = s.stations.set st r := rfl
@[simp] theorem placeReply_stations (st : Station) (r : Result) (c : Byte) (b : List Byte) (q : Bool) :
    (placeReply st r c b q s).stations
      = s.stations.set st { s.stations.get st with slot := some { result := r, code := c, body := b, notice := !q } } :=
  rfl
@[simp] theorem enqueue_queue (st : Station) (q : Bool) (w : Work) :
    (enqueue st q w s).queue = s.queue ++ [.station { station := st, quiet := q, work := w }] := rfl
@[simp] theorem setKey_keys (slot : Slot) (k : KeySlot) : (setKey slot k s).keys = s.keys.set slot k := rfl
@[simp] theorem setChain_chains (c : ChainNo) (r : Chain) : (setChain c r s).chains = s.chains.set c r := rfl
@[simp] theorem setCred_creds (id : CredId) (c : Credential) : (setCred id c s).creds = s.creds.set id c := rfl
@[simp] theorem fillTarget_targets (i : TargetNo) (t : Target) :
    (fillTarget i t s).targets = s.targets.set i (some t) := rfl
@[simp] theorem fillTarget_stream (i : TargetNo) (t : Target) : (fillTarget i t s).stream = .closed := rfl
@[simp] theorem takeJob_queue : (takeJob s).queue = s.queue.tail := rfl
@[simp] theorem withPending_pending (p : List Instr) : (s.withPending p).pending = p := rfl
@[simp] theorem raiseCond_conditions (k : Condition) :
    (raiseCond k s).conditions = s.conditions.set k.index (some s.time.uptime) := rfl
@[simp] theorem stopTrialTimer_timer : (stopTrialTimer s).timer = .stopped := rfl
@[simp] theorem stopTrialTimer_hold : (stopTrialTimer s).hold = false := rfl
@[simp] theorem startTrialTimer_hold : (startTrialTimer s).hold = false := rfl
@[simp] theorem startTrialTimer_timer :
    (startTrialTimer s).timer = .running (s.time.uptime + BitVec.ofNat 32 s.settings.trialWindow) false := rfl
@[simp] theorem clearHold_hold : (clearHold s).hold = false := rfl
@[simp] theorem dropUpdates_stream : (dropUpdates s).stream = .closed := rfl
@[simp] theorem crossRunning_running :
    (crossRunning s).running = s.running.map fun r => { r with crossed := true } := rfl
@[simp] theorem setTodo_running (todo : List JobStep) :
    (setTodo todo s).running = s.running.map fun r => { r with todo } := rfl
@[simp] theorem setData_running (d : JobData) : (setData d s).running = s.running.map fun r => { r with data := d } := rfl

/-! ATTN's level does not look at ATTN, the line, the queue of commands or the transmitter -/

@[simp] theorem recomputeAttn_idem : recomputeAttn (recomputeAttn s) = recomputeAttn s := rfl
@[simp] theorem attnLevel_lineIdle : attnLevel (lineIdle s) = attnLevel s := rfl
@[simp] theorem attnLevel_handItem (i : TxItem) : attnLevel (handItem i s) = attnLevel s := rfl
@[simp] theorem attnLevel_withPending (p : List Instr) : attnLevel (s.withPending p) = attnLevel s := rfl

end Sys2Proof.Machine
end

