-- ==== Sys2Proof/Laws/Frames.lean ====
section
/-! SUPPORT. How a frame reaches its request: the one path that every request row shares. -/

namespace Sys2Proof.Machine

open Sys2Proof

/-- The code of a request stands for that request. -/
@[simp] theorem ofByte_toByte (c : ReqCode) : ReqCode.ofByte c.toByte = some c := by cases c <;> decide

/-- A code stands for the request that has it. -/
theorem toByte_of_ofByte {b : Byte} {c : ReqCode} (h : ReqCode.ofByte b = some c) : c.toByte = b := by
  simpa using List.find?_some h

/-- The command of a frame is the frame's arrival: a known code is that request's, any other is unknown. -/
theorem exec_ofFrame (st : Station) (code flags : Byte) (body : List Byte) (s : State) :
    exec (Instr.ofFrame st code flags body) s
      = whenOn (frameArrives st code (ReqCode.ofByte code) flags body) s := by
  rcases h : ReqCode.ofByte code with _ | c
  · simp only [Instr.ofFrame, h]
    exact congrArg (fun r => whenOn (frameArrives st code r flags body) s) h
  · obtain rfl := toByte_of_ofByte h
    simp only [Instr.ofFrame, h]
    cases c <;> rfl

/-- The frame of a known request is that request's arrival. -/
theorem exec_request (c : ReqCode) (st : Station) (flags : Byte) (body : List Byte) (s : State) :
    exec (Instr.ofFrame st c.toByte flags body) s = whenOn (requestArrives c st flags body) s := by
  rw [exec_ofFrame, ofByte_toByte]; rfl

/-- An event of a running part: the state it gives, with ATTN recomputed. -/
theorem whenOn_on {f : State → State} {s : State} (h : s.power = .on) : whenOn f s = .next (recomputeAttn (f s)) := by
  simp [whenOn, h]

/-- An event that comes while the part does not run changes nothing. -/
theorem whenOn_off {f : State → State} {s : State} (h : s.power ≠ .on) : whenOn f s = .next s := by
  simp [whenOn, h]

@[simp] theorem requestState_lineIdle (st : Station) (s : State) :
    requestState st (lineIdle s) = requestState st s := rfl

/-- A request from a station that may send, other than FETCH and ABORT, reaches the order of checks with the receipt
TAKEN. -/
theorem requestArrives_taken {c : ReqCode} {st : Station} {flags : Byte} {body : List Byte} {s : State}
    (hs : MaySend st s) (hl : body.length ≤ Config.bodyCap) (hf : c ≠ .fetch) (ha : c ≠ .abort) :
    requestArrives c st flags body s
      = giveReceipt .taken (orderOfChecks st c.toByte (some c) flags body (lineIdle s)) := by
  obtain ⟨-, ht, ho, hr, hi⟩ := hs
  have hin : (s.running.bind Running.holder) ≠ some st ∧ s.queue.any (fun j => j.holder == some st) = false := by
    simp only [requestState] at hi
    split at hi
    · cases hi
    · rename_i h1
      split at hi
      · cases hi
      · rename_i h2
        exact ⟨h1, Bool.eq_false_of_not_eq_true h2⟩
  have hov : overridesStream st (some c) flags body (lineIdle s) = false := by
    have : streamJobInHand st (lineIdle s) = false := by
      have hq : s.queue.find? (fun j => j.holder == some st) = none := by
        simpa [List.find?_eq_none] using hin.2
      rcases hrun : s.running with _ | r
      · simp [streamJobInHand, requestInHand, hrun, hq]
      · have : r.holder ≠ some st := by simpa [hrun] using hin.1
        simp [streamJobInHand, requestInHand, hrun, hq, this]
    simp only [overridesStream]
    by_cases h2 : st = 2
    · subst h2; simp [this]
    · simp [h2]
  have hnot : ¬Config.bodyCap < body.length := by omega
  simp [requestArrives, frameArrives, judgeFrame, receiptStage, hnot, ht, ho, hr, hi, hf, ha, hov]

/-- A frame that ends while an item waits in the transmitter is discarded, and LINK_FRAME is raised (R187). -/
theorem frameArrives_discarded {st : Station} {code : Byte} {req : Option ReqCode} {flags : Byte} {body : List Byte}
    {s : State} (hb : body.length ≤ Config.bodyCap) (hw : s.txNext ≠ none) :
    frameArrives st code req flags body s = raiseCond .linkFrame (lineIdle s) := by
  have hw' : s.txNext.isSome = true := Option.isSome_iff_ne_none.2 hw
  simp [frameArrives, judgeFrame, hw', Nat.not_lt.2 hb]

/-- A request of a part in use that passes checks 1 to 6 goes to its owning block. -/
theorem requestArrives_passes {c : ReqCode} {st : Station} {flags : Byte} {body : List Byte} {s : State}
    (hs : Ready st flags s) (hl : body.length ≤ Config.bodyCap) (hf : c ≠ .fetch) (ha : c ≠ .abort)
    (hlen : lengthOk c body.length = true) (hp : permitted c st body = true)
    (hg : needsGrant c st body s = true → (s.stations.get st).grant ≠ none) :
    requestArrives c st flags body s
      = giveReceipt .taken (takeRequest c st (hasBit flags 0) body (lineIdle s)) := by
  have hng : needsGrant c st body (lineIdle s) = needsGrant c st body s := rfl
  have hh : holdsGrant st (lineIdle s) = holdsGrant st s := rfl
  have : (needsGrant c st body s && !holdsGrant st s) = false := by
    cases h : needsGrant c st body s
    · rfl
    · simpa [holdsGrant, Option.isSome_iff_ne_none] using hg h
  rw [requestArrives_taken hs.1 hl hf ha]
  simp [orderOfChecks, hs.2.1, generalRefusal, hlen, hp, hs.2.2, hng, hh, this]

/-- The command of a request that passes checks 1 to 6, as one equation. -/
theorem exec_passes {c : ReqCode} {st : Station} {flags : Byte} {body : List Byte} {s : State}
    (hs : Ready st flags s) (hl : body.length ≤ Config.bodyCap) (hf : c ≠ .fetch) (ha : c ≠ .abort)
    (hlen : lengthOk c body.length = true) (hp : permitted c st body = true)
    (hg : needsGrant c st body s = true → (s.stations.get st).grant ≠ none) :
    exec (Instr.ofFrame st c.toByte flags body) s
      = .next (recomputeAttn (giveReceipt .taken (takeRequest c st (hasBit flags 0) body (lineIdle s)))) := by
  rw [exec_request, whenOn_on hs.1.1, requestArrives_passes hs hl hf ha hlen hp hg]

end Sys2Proof.Machine
end

