-- ==== Sys2Proof/Laws/Jobs.lean ====
section
/-! SUPPORT. How a job starts, is turned down and ends: the path that every job row shares. -/

namespace Sys2Proof.Machine

open Sys2Proof

/-- What the engine's taking of a job leaves, when the job may start. -/
theorem takeJob_of {j : Job} {rest : List Job} {s : State} (h : MayStart j rest s) :
    takeJob s = { s with queue := rest, running := some (fresh j [] .blank []) } := by
  simp [takeJob, h.2.2.2]

/-- The job that may start is the engine's next. -/
theorem nextJob_of {j : Job} {rest : List Job} {s : State} (h : MayStart j rest s) : nextJob s = some j := by
  simp [nextJob, h.2.1, h.2.2.1, h.2.2.2]

/-- A station job that may start is handed to its own start. -/
theorem whenOn_onStart {st : Station} {q : Bool} {w : Work} {rest : List Job} {s : State}
    {start : StationJob → Option (State → State)} {f : State → State} (h : MayStart (stationJob st q w) rest s)
    (hf : start { station := st, quiet := q, work := w } = some f) :
    whenOn (onStart start) s
      = .next (recomputeAttn (f { s with queue := rest, running := some (fresh (stationJob st q w) [] .blank []) })) := by
  rw [whenOn_on h.1, ← takeJob_of h]
  simp [onStart, nextJob_of h, hf]

/-- A running station job whose checks fail ends with its refusal, its notes undone. -/
theorem failJob_of {st : Station} {q : Bool} {w : Work} {r : Result} {body : List Byte} {t : State}
    (h : t.running = some (fresh (stationJob st q w) [] .blank [])) :
    failJob r body t = endJob r body (releaseWork w t) := by
  simp [failJob, h]

/-- A job that writes nothing has nothing left to do once it is launched. -/
@[simp] theorem runFree_nil (s : State) : runFree [] s = setTodo [] s := rfl

/-- A job whose next step writes the store waits for that write. -/
theorem runFree_write {x : JobStep} {rest : List JobStep} {s : State} (h : x.writes s = true) :
    runFree (x :: rest) s = setTodo (x :: rest) s := by simp [runFree, h]

/-- A step that writes nothing is done at once. -/
theorem runFree_free {x : JobStep} {rest : List JobStep} {s : State} (h : x.writes s = false) :
    runFree (x :: rest) s = runFree rest (x.complete s) := by simp [runFree, h]

/-- A step that writes nothing leaves the store. -/
theorem complete_free {x : JobStep} {s : State} (h : x.writes s = false) :
    x.complete s = { x.act s with store := s.store } := by simp [JobStep.complete, h]

/-- A step that writes lands in the store. -/
theorem complete_write {x : JobStep} {s : State} (h : x.writes s = true) :
    x.complete s = { x.act s with store := x.land s } := by simp [JobStep.complete, h]

/-- The end of the running job, once its steps are done. -/
theorem whenOn_onEnd {r done : Running} {s t : State} {is : Job → Bool} {fin : Running → State → State}
    (hp : s.power = .on) (hr : s.running = some r) (hi : is r.job = true) (ht : finishSteps s = t)
    (hd : t.running = some done) : whenOn (onEnd is fin) s = .next (recomputeAttn (fin done t)) := by
  rw [whenOn_on hp]
  simp [onEnd, hr, hi, ht, hd]

/-- A job with no step left has none to finish. -/
theorem finishSteps_done {r : Running} {s : State} (hr : s.running = some r) (ht : r.todo = []) : finishSteps s = s := by
  cases s
  simp only at hr
  subst hr
  simp [finishSteps, setTodo, ht]
  cases r
  simp_all

/-- The last step of a job, as its end does it. -/
theorem finishSteps_one {r : Running} {x : JobStep} {s : State} (hr : s.running = some r) (ht : r.todo = [x]) :
    finishSteps s = setTodo [] (x.finish s) := by
  simp [finishSteps, hr, ht]

/-- The end of a job that belongs to a station places its reply. -/
theorem endJob_of {r : Running} {st : Station} {result : Result} {body : List Byte} {s : State}
    (hr : s.running = some r) (hh : r.holder = some st) :
    endJob result body s = placeReply st result r.job.code body r.job.quiet { s with running := none } := by
  simp [endJob, hr, hh]

/-- The end of a job that belongs to no station places no reply. -/
theorem endJob_none {r : Running} {result : Result} {body : List Byte} {s : State}
    (hr : s.running = some r) (hh : r.holder = none) : endJob result body s = { s with running := none } := by
  simp [endJob, hr, hh]

@[simp] theorem holder_fresh (j : Job) (todo : List JobStep) (d : JobData) (o : List ActionOutcome) :
    (fresh j todo d o).holder = j.holder := rfl

@[simp] theorem holder_crossed (r : Running) (h : r.crossed = true) : r.holder = none := by simp [Running.holder, h]

end Sys2Proof.Machine
end

