-- ==== Sys2Proof/Laws/PerInstr.lean ====
section
/-! SUPPORT. What a command is as syntax, one lemma for each row: a frame has a station and a body, nothing else has
either, and a well-formed command is one whose body fits and whose unknown code is unknown. -/

namespace Sys2Proof.Laws.FrameShape

open Sys2Proof Sys2Proof.Machine

/-- A command has a station exactly when it has a body; a frame ends no job and takes no power away; the command is
well-formed exactly when its body fits the line interface and a code given as unknown is unknown (R183, R206). -/
def Statement (c : Instr) : Prop :=
  (frameStation c).isSome = isFrame c
    ∧ (isFrame c = true → mayWrite c = false ∧ endsPower c = false)
    ∧ (c.wellFormed = true ↔
        (∀ body, c.frameBody? = some body → body.length ≤ Config.bodyCap)
          ∧ ∀ st code flags body, c = .unknownRequestFrame st code flags body → ReqCode.ofByte code = none)

/-- A frame of a request the part knows. -/
theorem of_request (c : Instr) (st : Station) (body : List Byte) (hs : frameStation c = some st)
    (hb : c.frameBody? = some body) (hw : mayWrite c = false) (he : endsPower c = false)
    (hu : c.codeUnknown = true) (hn : ∀ st code flags body, c ≠ .unknownRequestFrame st code flags body) :
    Statement c := by
  refine ⟨by simp [hs, isFrame, hb], fun _ => ⟨hw, he⟩, ?_⟩
  simp only [Instr.wellFormed, hu, Bool.and_true, Instr.bodyFits, hb, decide_eq_true_eq, Option.some.injEq]
  exact ⟨fun h => ⟨fun _ e => e ▸ h, fun a b c d e => (hn a b c d e).elim⟩, fun h => h.1 body rfl⟩

/-- A command that is no frame. -/
theorem of_event (c : Instr) (hs : frameStation c = none) (hb : c.frameBody? = none) (hu : c.codeUnknown = true)
    (hn : ∀ st code flags body, c ≠ .unknownRequestFrame st code flags body) : Statement c := by
  refine ⟨by simp [hs, isFrame, hb], fun h => by simp [isFrame, hb] at h, ?_⟩
  simp only [Instr.wellFormed, hu, Bool.and_true, Instr.bodyFits, hb, true_iff]
  exact ⟨(fun _ e => nomatch e), fun a b c d e => (hn a b c d e).elim⟩

theorem fetch (st : Station) (flags : Byte) (body : List Byte) : Statement (.fetch st flags body) :=
  of_request _ st body rfl rfl rfl rfl rfl nofun

theorem abort (st : Station) (flags : Byte) (body : List Byte) : Statement (.abort st flags body) :=
  of_request _ st body rfl rfl rfl rfl rfl nofun

theorem status (st : Station) (flags : Byte) (body : List Byte) : Statement (.status st flags body) :=
  of_request _ st body rfl rfl rfl rfl rfl nofun

theorem conditions (st : Station) (flags : Byte) (body : List Byte) : Statement (.conditions st flags body) :=
  of_request _ st body rfl rfl rfl rfl rfl nofun

theorem clearConditions (st : Station) (flags : Byte) (body : List Byte) : Statement (.clearConditions st flags body) :=
  of_request _ st body rfl rfl rfl rfl rfl nofun

theorem setNoticeMask (st : Station) (flags : Byte) (body : List Byte) : Statement (.setNoticeMask st flags body) :=
  of_request _ st body rfl rfl rfl rfl rfl nofun

theorem closeStage (st : Station) (flags : Byte) (body : List Byte) : Statement (.closeStage st flags body) :=
  of_request _ st body rfl rfl rfl rfl rfl nofun

theorem settingsRead (st : Station) (flags : Byte) (body : List Byte) : Statement (.settingsRead st flags body) :=
  of_request _ st body rfl rfl rfl rfl rfl nofun

theorem settingsWrite (st : Station) (flags : Byte) (body : List Byte) : Statement (.settingsWrite st flags body) :=
  of_request _ st body rfl rfl rfl rfl rfl nofun

theorem ownerReset (st : Station) (flags : Byte) (body : List Byte) : Statement (.ownerReset st flags body) :=
  of_request _ st body rfl rfl rfl rfl rfl nofun

theorem keyGenerate (st : Station) (flags : Byte) (body : List Byte) : Statement (.keyGenerate st flags body) :=
  of_request _ st body rfl rfl rfl rfl rfl nofun

theorem keyImport (st : Station) (flags : Byte) (body : List Byte) : Statement (.keyImport st flags body) :=
  of_request _ st body rfl rfl rfl rfl rfl nofun

theorem keySign (st : Station) (flags : Byte) (body : List Byte) : Statement (.keySign st flags body) :=
  of_request _ st body rfl rfl rfl rfl rfl nofun

theorem keyVerify (st : Station) (flags : Byte) (body : List Byte) : Statement (.keyVerify st flags body) :=
  of_request _ st body rfl rfl rfl rfl rfl nofun

theorem keyDerive (st : Station) (flags : Byte) (body : List Byte) : Statement (.keyDerive st flags body) :=
  of_request _ st body rfl rfl rfl rfl rfl nofun

theorem keyErase (st : Station) (flags : Byte) (body : List Byte) : Statement (.keyErase st flags body) :=
  of_request _ st body rfl rfl rfl rfl rfl nofun

theorem keyInfo (st : Station) (flags : Byte) (body : List Byte) : Statement (.keyInfo st flags body) :=
  of_request _ st body rfl rfl rfl rfl rfl nofun

theorem keyPublic (st : Station) (flags : Byte) (body : List Byte) : Statement (.keyPublic st flags body) :=
  of_request _ st body rfl rfl rfl rfl rfl nofun

theorem chainExtend (st : Station) (flags : Byte) (body : List Byte) : Statement (.chainExtend st flags body) :=
  of_request _ st body rfl rfl rfl rfl rfl nofun

theorem chainFreeze (st : Station) (flags : Byte) (body : List Byte) : Statement (.chainFreeze st flags body) :=
  of_request _ st body rfl rfl rfl rfl rfl nofun

theorem chainRead (st : Station) (flags : Byte) (body : List Byte) : Statement (.chainRead st flags body) :=
  of_request _ st body rfl rfl rfl rfl rfl nofun

theorem logRead (st : Station) (flags : Byte) (body : List Byte) : Statement (.logRead st flags body) :=
  of_request _ st body rfl rfl rfl rfl rfl nofun

theorem quote (st : Station) (flags : Byte) (body : List Byte) : Statement (.quote st flags body) :=
  of_request _ st body rfl rfl rfl rfl rfl nofun

theorem identityRead (st : Station) (flags : Byte) (body : List Byte) : Statement (.identityRead st flags body) :=
  of_request _ st body rfl rfl rfl rfl rfl nofun

theorem updateOpen (st : Station) (flags : Byte) (body : List Byte) : Statement (.updateOpen st flags body) :=
  of_request _ st body rfl rfl rfl rfl rfl nofun

theorem updateData (st : Station) (flags : Byte) (body : List Byte) : Statement (.updateData st flags body) :=
  of_request _ st body rfl rfl rfl rfl rfl nofun

theorem updateAbort (st : Station) (flags : Byte) (body : List Byte) : Statement (.updateAbort st flags body) :=
  of_request _ st body rfl rfl rfl rfl rfl nofun

theorem targetPrepare (st : Station) (flags : Byte) (body : List Byte) : Statement (.targetPrepare st flags body) :=
  of_request _ st body rfl rfl rfl rfl rfl nofun

theorem targetList (st : Station) (flags : Byte) (body : List Byte) : Statement (.targetList st flags body) :=
  of_request _ st body rfl rfl rfl rfl rfl nofun

theorem targetDiscard (st : Station) (flags : Byte) (body : List Byte) : Statement (.targetDiscard st flags body) :=
  of_request _ st body rfl rfl rfl rfl rfl nofun

theorem targetActivate (st : Station) (flags : Byte) (body : List Byte) : Statement (.targetActivate st flags body) :=
  of_request _ st body rfl rfl rfl rfl rfl nofun

theorem bootQuery (st : Station) (flags : Byte) (body : List Byte) : Statement (.bootQuery st flags body) :=
  of_request _ st body rfl rfl rfl rfl rfl nofun

theorem bootConfirm (st : Station) (flags : Byte) (body : List Byte) : Statement (.bootConfirm st flags body) :=
  of_request _ st body rfl rfl rfl rfl rfl nofun

theorem floorRead (st : Station) (flags : Byte) (body : List Byte) : Statement (.floorRead st flags body) :=
  of_request _ st body rfl rfl rfl rfl rfl nofun

theorem credSet (st : Station) (flags : Byte) (body : List Byte) : Statement (.credSet st flags body) :=
  of_request _ st body rfl rfl rfl rfl rfl nofun

theorem credVerify (st : Station) (flags : Byte) (body : List Byte) : Statement (.credVerify st flags body) :=
  of_request _ st body rfl rfl rfl rfl rfl nofun

theorem credRelease (st : Station) (flags : Byte) (body : List Byte) : Statement (.credRelease st flags body) :=
  of_request _ st body rfl rfl rfl rfl rfl nofun

theorem credClear (st : Station) (flags : Byte) (body : List Byte) : Statement (.credClear st flags body) :=
  of_request _ st body rfl rfl rfl rfl rfl nofun

theorem credInfo (st : Station) (flags : Byte) (body : List Byte) : Statement (.credInfo st flags body) :=
  of_request _ st body rfl rfl rfl rfl rfl nofun

theorem grantDrop (st : Station) (flags : Byte) (body : List Byte) : Statement (.grantDrop st flags body) :=
  of_request _ st body rfl rfl rfl rfl rfl nofun

theorem unknownRequestFrame (st : Station) (code : Byte) (flags : Byte) (body : List Byte) : Statement (.unknownRequestFrame st code flags body) := by
  refine ⟨rfl, fun _ => ⟨rfl, rfl⟩, ?_⟩
  simp only [Instr.wellFormed, Instr.bodyFits, Instr.codeUnknown, Instr.frameBody?, Bool.and_eq_true,
    decide_eq_true_eq, Option.isNone_iff_eq_none, Option.some.injEq, Instr.unknownRequestFrame.injEq]
  constructor
  · rintro ⟨hl, hc⟩
    exact ⟨fun _ e => e ▸ hl, fun _ _ _ _ e => e.2.1 ▸ hc⟩
  · rintro ⟨hl, hc⟩
    exact ⟨hl _ rfl, hc _ _ _ _ ⟨rfl, rfl, rfl, rfl⟩⟩

theorem keyGenerateJobStart : Statement .keyGenerateJobStart :=
  of_event _ rfl rfl rfl nofun

theorem keyGenerateJobEnd : Statement .keyGenerateJobEnd :=
  of_event _ rfl rfl rfl nofun

theorem keyImportJobStart : Statement .keyImportJobStart :=
  of_event _ rfl rfl rfl nofun

theorem keyImportJobEnd : Statement .keyImportJobEnd :=
  of_event _ rfl rfl rfl nofun

theorem keyDeriveJobStart : Statement .keyDeriveJobStart :=
  of_event _ rfl rfl rfl nofun

theorem keyDeriveJobEnd : Statement .keyDeriveJobEnd :=
  of_event _ rfl rfl rfl nofun

theorem keySignJobStart : Statement .keySignJobStart :=
  of_event _ rfl rfl rfl nofun

theorem keySignJobEnd : Statement .keySignJobEnd :=
  of_event _ rfl rfl rfl nofun

theorem keyVerifyJobStart : Statement .keyVerifyJobStart :=
  of_event _ rfl rfl rfl nofun

theorem keyVerifyJobEnd : Statement .keyVerifyJobEnd :=
  of_event _ rfl rfl rfl nofun

theorem keyEraseJobStart : Statement .keyEraseJobStart :=
  of_event _ rfl rfl rfl nofun

theorem keyEraseJobEnd : Statement .keyEraseJobEnd :=
  of_event _ rfl rfl rfl nofun

theorem chainExtendJobStart : Statement .chainExtendJobStart :=
  of_event _ rfl rfl rfl nofun

theorem chainExtendJobEnd : Statement .chainExtendJobEnd :=
  of_event _ rfl rfl rfl nofun

theorem quoteJobStart : Statement .quoteJobStart :=
  of_event _ rfl rfl rfl nofun

theorem quoteJobEnd : Statement .quoteJobEnd :=
  of_event _ rfl rfl rfl nofun

theorem updateOpenJobStart : Statement .updateOpenJobStart :=
  of_event _ rfl rfl rfl nofun

theorem updateOpenJobEnd : Statement .updateOpenJobEnd :=
  of_event _ rfl rfl rfl nofun

theorem updateDataJobStart : Statement .updateDataJobStart :=
  of_event _ rfl rfl rfl nofun

theorem updateDataJobEnd : Statement .updateDataJobEnd :=
  of_event _ rfl rfl rfl nofun

theorem targetActivateJobStart : Statement .targetActivateJobStart :=
  of_event _ rfl rfl rfl nofun

theorem targetActivateJobEnd : Statement .targetActivateJobEnd :=
  of_event _ rfl rfl rfl nofun

theorem bootConfirmJobStart : Statement .bootConfirmJobStart :=
  of_event _ rfl rfl rfl nofun

theorem bootConfirmJobEnd : Statement .bootConfirmJobEnd :=
  of_event _ rfl rfl rfl nofun

theorem credSetJobStart : Statement .credSetJobStart :=
  of_event _ rfl rfl rfl nofun

theorem credSetJobEnd : Statement .credSetJobEnd :=
  of_event _ rfl rfl rfl nofun

theorem credVerifyJobStart : Statement .credVerifyJobStart :=
  of_event _ rfl rfl rfl nofun

theorem credVerifyChargeWritten : Statement .credVerifyChargeWritten :=
  of_event _ rfl rfl rfl nofun

theorem credVerifyJobEnd : Statement .credVerifyJobEnd :=
  of_event _ rfl rfl rfl nofun

theorem credReleaseJobStart : Statement .credReleaseJobStart :=
  of_event _ rfl rfl rfl nofun

theorem credReleaseJobEnd : Statement .credReleaseJobEnd :=
  of_event _ rfl rfl rfl nofun

theorem credClearJobStart : Statement .credClearJobStart :=
  of_event _ rfl rfl rfl nofun

theorem credClearJobEnd : Statement .credClearJobEnd :=
  of_event _ rfl rfl rfl nofun

theorem settingsWriteJobStart : Statement .settingsWriteJobStart :=
  of_event _ rfl rfl rfl nofun

theorem settingsWriteJobEnd : Statement .settingsWriteJobEnd :=
  of_event _ rfl rfl rfl nofun

theorem trialAccountJobStart : Statement .trialAccountJobStart :=
  of_event _ rfl rfl rfl nofun

theorem trialAccountJobEnd : Statement .trialAccountJobEnd :=
  of_event _ rfl rfl rfl nofun

theorem ownerResetJobStart : Statement .ownerResetJobStart :=
  of_event _ rfl rfl rfl nofun

theorem ownerResetJobEnd : Statement .ownerResetJobEnd :=
  of_event _ rfl rfl rfl nofun

theorem storeWriteComplete : Statement .storeWriteComplete :=
  of_event _ rfl rfl rfl nofun

theorem storeWriteFailed (landed : Bool) : Statement (.storeWriteFailed landed) :=
  of_event _ rfl rfl rfl nofun

theorem decisecondTick (samples : PhaseSamples) : Statement (.decisecondTick samples) :=
  of_event _ rfl rfl rfl nofun

theorem decayTick (samples : PhaseSamples) : Statement (.decayTick samples) :=
  of_event _ rfl rfl rfl nofun

theorem lockoutEnd (id : CredId) (samples : PhaseSamples) : Statement (.lockoutEnd id samples) :=
  of_event _ rfl rfl rfl nofun

theorem grantExpiry (st : Station) (samples : PhaseSamples) : Statement (.grantExpiry st samples) :=
  of_event _ rfl rfl rfl nofun

theorem idleDeadlineExpiry (samples : PhaseSamples) : Statement (.idleDeadlineExpiry samples) :=
  of_event _ rfl rfl rfl nofun

theorem trialTimerExpiry (samples : PhaseSamples) : Statement (.trialTimerExpiry samples) :=
  of_event _ rfl rfl rfl nofun

theorem gapTimeout (samples : PhaseSamples) : Statement (.gapTimeout samples) :=
  of_event _ rfl rfl rfl nofun

theorem socrstPulseEnd (samples : PhaseSamples) : Statement (.socrstPulseEnd samples) :=
  of_event _ rfl rfl rfl nofun

theorem buttonHoldEvent : Statement .buttonHoldEvent :=
  of_event _ rfl rfl rfl nofun

theorem socResetSensed : Statement .socResetSensed :=
  of_event _ rfl rfl rfl nofun

theorem partReset (input : StartUpInput) : Statement (.partReset input) :=
  of_event _ rfl rfl rfl nofun

theorem addressCharacter (value : Byte) : Statement (.addressCharacter value) :=
  of_event _ rfl rfl rfl nofun

theorem dataCharacter (value : Byte) : Statement (.dataCharacter value) :=
  of_event _ rfl rfl rfl nofun

theorem badCharacter (kind : BadKind) : Statement (.badCharacter kind) :=
  of_event _ rfl rfl rfl nofun

theorem txItemEnd : Statement .txItemEnd :=
  of_event _ rfl rfl rfl nofun

theorem socrstSenseReleased : Statement .socrstSenseReleased :=
  of_event _ rfl rfl rfl nofun

theorem powerLost (landed : Bool) : Statement (.powerLost landed) :=
  of_event _ rfl rfl rfl nofun

theorem startUpEnd (senseLow : Bool) : Statement (.startUpEnd senseLow) :=
  of_event _ rfl rfl rfl nofun

end Sys2Proof.Laws.FrameShape
end

