-- ==== Sys2Proof/Laws/Sense.lean ====
section
/-! SUPPORT. What the sense sampler does with the samples that it reads (R155). -/

namespace Sys2Proof.Machine

open Sys2Proof

/-- The three things that one sample can do, each with what brings it. -/
theorem senseSample_cases (s : State) (low : Bool) :
    (low = true ∧ s.time.senseLow = true ∧ s.time.senseAsserted = false ∧ senseSample s low = socReset s)
    ∨ (low = false ∧ s.time.senseLow = false ∧ s.time.senseAsserted = true ∧ senseSample s low = senseReleased s)
    ∨ ((low = s.time.senseLow → low = s.time.senseAsserted)
        ∧ senseSample s low = { s with time := { s.time with senseLow := low } }) := by
  cases low <;> cases hl : s.time.senseLow <;> cases ha : s.time.senseAsserted <;> simp [senseSample, hl, ha]

@[simp] theorem readSense_nil (s : State) : readSense [] s = s := rfl

@[simp] theorem readSense_cons (low : Bool) (rest : List Bool) (s : State) :
    readSense (low :: rest) s = readSense rest (senseSample s low) := rfl

/-- Samples read in two runs are samples read in one. -/
theorem readSense_append (xs ys : List Bool) (s : State) : readSense (xs ++ ys) s = readSense ys (readSense xs s) :=
  List.foldl_append

/-- What every single sample keeps, every run of them keeps. -/
theorem readSense_keeps {P : State → Prop} (h : ∀ s low, P s → P (senseSample s low)) :
    ∀ (samples : List Bool) (s : State), P s → P (readSense samples s)
  | [], _, hs => hs
  | low :: rest, s, hs => readSense_keeps h rest (senseSample s low) (h s low hs)

/-- Undoing a waiting job's notes is nothing to the sense sampler. -/
theorem undoJob_sense (j : Job) (s : State) :
    (undoJob j s).time.senseAsserted = s.time.senseAsserted ∧ (undoJob j s).time.senseLow = s.time.senseLow := by
  have hw (w : Work) : (releaseWork w s).time.senseAsserted = s.time.senseAsserted
      ∧ (releaseWork w s).time.senseLow = s.time.senseLow := by
    cases w <;> simp only [releaseWork, clearHold] <;> first | exact ⟨rfl, rfl⟩ | simp | (split <;> simp)
  have hs (w : Work) (s : State) : (releaseStream w s).time = s.time := by cases w <;> rfl
  cases j with
  | station j => simpa [undoJob, hs] using hw j.work
  | trialAccount => exact ⟨rfl, rfl⟩
  | ownerReset a b => exact ⟨rfl, rfl⟩

theorem foldl_undoJob_sense (q : List Job) (s : State) :
    (q.foldl (fun s j => undoJob j s) s).time.senseAsserted = s.time.senseAsserted
      ∧ (q.foldl (fun s j => undoJob j s) s).time.senseLow = s.time.senseLow := by
  induction q generalizing s with
  | nil => exact ⟨rfl, rfl⟩
  | cons j q ih => simpa only [List.foldl_cons, (undoJob_sense j s).1, (undoJob_sense j s).2] using ih (undoJob j s)

/-- A sensed SoC reset leaves the sampler ASSERTED, with a low sample read last. -/
theorem socReset_sense (s : State) :
    (socReset s).time.senseAsserted = true ∧ (socReset s).time.senseLow = true := by
  simpa [socReset, removeStationJobs, senseReset] using foldl_undoJob_sense s.queue (stopTrialTimer (senseReset s))

/-- A sensed SoC reset is the same whichever sample the sampler held. -/
theorem socReset_holding (s : State) (low : Bool) :
    socReset { s with time := { s.time with senseLow := low } } = socReset s := rfl

/-- Holding the sample that is held changes nothing. -/
theorem holding_self {s : State} {low : Bool} (h : s.time.senseLow = low) :
   { s with time := { s.time with senseLow := low } } = s := by subst h; rfl

/-- Two low samples are a sensed SoC reset in RELEASED, and are held in ASSERTED. -/
theorem readSense_lows (s : State) :
    readSense [true, true] s
      = if s.time.senseAsserted then { s with time := { s.time with senseLow := true } } else socReset s := by
  have hs : senseSample (socReset s) true = socReset s := by
    rw [senseSample, if_neg (by simp [socReset_sense s])]; exact holding_self (socReset_sense s).2
  cases hl : s.time.senseLow <;> cases ha : s.time.senseAsserted <;>
    simp only [readSense_cons, readSense_nil, senseSample, hl, ha] <;> simp
  · rfl
  · simpa [senseSample, hl, ha] using hs

/-- Two high samples leave the sampler RELEASED, whatever it was. -/
theorem readSense_highs (s : State) :
    readSense [false, false] s = senseReleased s := by
  cases hl : s.time.senseLow <;> cases ha : s.time.senseAsserted <;>
    simp [senseSample, hl, ha, senseReleased]

end Sys2Proof.Machine
end

