-- ==== Sys2Proof/Laws/StartUp.lean ====
section
/-! SUPPORT. What the steps of start-up do, by what goes wrong in them. -/

namespace Sys2Proof.Machine

open Sys2Proof

/-- With nothing going wrong a step of start-up is the step, and the write it makes is counted. -/
theorem startUpStep_none (s : State) (n : Nat) (step : JobStep) :
    startUpStep .none { state := s, writes := n, stopped := false, dead := false } step
      = { state := step.complete s, writes := if step.writes s then n + 1 else n, stopped := false, dead := false } := by
  by_cases h : step.writes s <;> simp [startUpStep, h]

/-- Once start-up has stopped, or power is lost, no later step is made (R204). -/
theorem startUpStep_stopped (trouble : StartUpTrouble) {b : StartingUp} (step : JobStep)
    (h : b.stopped = true ∨ b.dead = true) : startUpStep trouble b step = b := by
  rcases h with h | h <;> simp [startUpStep, h]

/-- The same for a list of steps. -/
theorem startUpSteps_stopped (trouble : StartUpTrouble) {b : StartingUp} (steps : List JobStep)
    (h : b.stopped = true ∨ b.dead = true) : startUpSteps trouble steps b = b := by
  have fold : ∀ l : List JobStep, l.foldl (startUpStep trouble) b = b := fun l => by
    induction l with
    | nil => rfl
    | cons x rest ih => rw [List.foldl_cons, startUpStep_stopped trouble x h, ih]
  simp only [startUpSteps]
  induction steps with
  | nil => rfl
  | cons x rest ih => rw [List.foldl_cons, fold, ih]

@[simp] theorem startUpSteps_nil (trouble : StartUpTrouble) (b : StartingUp) : startUpSteps trouble [] b = b := rfl

/-- Steps that bring nothing with them are made one after the other. -/
theorem startUpSteps_cons (trouble : StartUpTrouble) (step : JobStep) (rest : List JobStep) (b : StartingUp)
    (h : step.follow b.state = []) :
    startUpSteps trouble (step :: rest) b = startUpSteps trouble rest (startUpStep trouble b step) := by
  simp [startUpSteps, h]

/-- A class at rest has no deferred action for start-up to finish. -/
theorem deferredSteps_atRest {c : ClassNo} {r : ClassRecord} {s : State} (h : s.classes.get c = some r)
    (hr : r.AtRest) : deferredSteps c s = [] := by simp [deferredSteps, h, hr.2]

/-- Without a class in a trial state there is nothing to account (R103). -/
theorem trialClass_none {s : State} (h : ∀ c r, s.classes.get c = some r → r.state = .steady) :
    trialClass s = none := by
  simp only [trialClass, List.findSome?_eq_none_iff]
  intro c _
  cases hc : s.classes.get c with
  | none => rfl
  | some r => simp [h c r hc]

/-- A part reset of a part without power is its start-up. -/
theorem partReset_off {input : StartUpInput} {s : State} (h : s.power = .off) :
    exec (.partReset input) s
      = .next (startUp input.bad input.trouble (State.blank s.pending (.startUp false) s.store s.entropy)) := by
  simp [exec, execPartReset, partReset, h]

end Sys2Proof.Machine
end

