-- ==== Sys2Proof/Laws/Sweep.lean ====
section
/-! SUPPORT. What the sweep leaves of the stream, in the words of R82 and R83, and of the targets. -/

namespace Sys2Proof.Machine

open Sys2Proof

/-- The sweep for a slot leaves the stream as R83 says. -/
@[simp] theorem sweepKey_stream (slot : Slot) (s : State) : (sweepKey slot s).stream = s.stream.afterSlot slot := by
  simp only [sweepKey, failStale, dropTargets, Stream.afterSlot]
  cases s.stream <;> simp only [Stream.sweepable, beq_iff_eq] <;> try split
  all_goals simp_all [failStream, raiseCond]

/-- The sweep for a class's floor leaves the stream as R82 says. -/
@[simp] theorem sweepClassFloor_stream (c : ClassNo) (bankChanged : Bool) (s : State) :
    (sweepClassFloor c bankChanged s).stream = s.stream.afterFloor c (floorOf c s) := by
  simp only [sweepClassFloor, failStale, dropTargets, Stream.afterFloor]
  cases s.stream <;> simp only [Stream.sweepable, Bool.and_eq_true, beq_iff_eq, decide_eq_true_eq] <;> try split
  all_goals simp_all [failStream, raiseCond]

/-- The sweep for a slot empties the targets that the slot signed. -/
@[simp] theorem sweepKey_targets (slot : Slot) (s : State) :
    (sweepKey slot s).targets = s.targets.map fun t => t.filter fun t => !(t.signer == slot) := by
  simp only [sweepKey, failStale, dropTargets]
  cases s.stream <;> simp only [Stream.sweepable] <;> try split
  all_goals simp_all [failStream, raiseCond]

end Sys2Proof.Machine
end

