-- ==== Sys2Proof/Tests/Slice0.lean ====
section
/-! SUPPORT. Small tests of single commands, with results worked out by hand from the spec, and for each statement a
concrete state and operands that meet its hypotheses. -/

namespace Sys2Proof.Tests

open Sys2Proof Sys2Proof.Machine

/-! ### A small part to test on: all four stations OPEN, nothing factory-made -/

def labImage : ImageRecord :=
  { version := 3, digest := .replicate 32 7, label := [0x61], signer := 2, stale := false }

def labClass : ClassRecord :=
  { floor := 2, active := .a, state := .steady, deferred := [], imageA := some labImage, imageB := none }

def labStore : Store :=
  { revocation := [], keys := .replicate 64 none, creds := .replicate 16 none, classes := .replicate 4 labClass,
    partResets := 1, certificate := [0xC0], settings := .default, resetMark := false }

def lab : State :=
  { State.blank [] .on labStore 0 with
    stations := .replicate 4 { StationRec.waiting with state := .opened }
    classes := .replicate 4 (some labClass)
    certificate := some [0xC0]
    partResets := 1
    time := { TimeBase.start with uptime := 98, firstTick := false } }

/-- A SIGNING key for every station, with both signing usages. -/
def labKey : KeyRecord :=
  { material := .signing (.replicate 32 1) (.replicate 64 2), origin := .generated, persistence := .persistent,
    usage := 0x03, mask := 0x0F, binding := none, ownerHeld := false, fingerprint := .replicate 32 9, label := [] }

/-- A vendor update key for stations 0 to 2. -/
def labVendor : KeyRecord :=
  { labKey with material := .verifying (.replicate 64 5), origin := .factory, usage := 0x08, mask := 0x07,
                fingerprint := .replicate 32 8 }

/-- A secret for every station. -/
def labSecret : KeyRecord :=
  { labKey with material := .secret (.replicate 32 4), usage := 0x20, fingerprint := .replicate 32 10 }

/-- The part with a key in slot 6, and vendor keys in slots 2 and 3. -/
def labKeys : State :=
  setKey 6 (.active labKey) (setKey 2 (.active labVendor)
    (setKey 3 (.active { labVendor with fingerprint := .replicate 32 6 }) lab))

def labCred : CredRecord :=
  { contents := { kind := .verifier, label := [], grants := true, freeRelease := false, releaseMask := 0,
                  salt := .replicate 16 0, verifier := .replicate 32 0, value := [] },
    penalty := 104, streak := 2, lockout := .absent }

def labPass : CredRecord :=
  { contents := { kind := .secret, label := [0x77], grants := false, freeRelease := true, releaseMask := 0x0C,
                  salt := .replicate 16 0, verifier := .replicate 32 0, value := [0x70, 0x71] },
    penalty := 0, streak := 0, lockout := .absent }

/-- The part with credential 0 claimed and the secret credential 3. -/
def labCreds : State := setCred 3 (.held labPass) (setCred 0 (.held labCred) lab)

/-- A grant of credential 0 for a station. -/
def withGrant (st : Station) (s : State) : State :=
  setStation st { s.stations.get st with grant := some { credential := 0, deadline := 3098 } } s

def labTarget : Target :=
  { cls := 1, bank := .b, version := 5, digest := .replicate 32 3, label := [], signer := 2, trial := false,
    actions := [] }

def labTargets : State := { labKeys with targets := labKeys.targets.set 0 (some labTarget) }

def labManifest : Manifest :=
  { raw := [1], cls := 1, bank := .b, trial := false, autoPrepare := false, version := 5, imageLength := 600,
    imageDigest := .replicate 32 3, signer := 2, label := [], actions := [], signature := .replicate 64 0 }

/-- BUTTON reads high through a phase. -/
def labHigh : PhaseSamples := ⟨.replicate 26 false, []⟩

/-- BUTTON reads low in the first 25 periods of a phase, and high in the twenty-sixth. -/
def labLow25 : PhaseSamples := ⟨(Tbl.replicate 26 true).set 25 false, []⟩

/-- The part with a job running. -/
def runs (j : Job) (todo : List JobStep) (d : JobData) (s : State) : State :=
  { s with running := some (fresh j todo d []) }

/-- The part with a job waiting. -/
def waits (j : Job) (s : State) : State := { s with queue := [j] }

/-! ### What a command leaves, part by part -/

def after (c : Instr) (s : State) : Option State :=
  match exec c s with
  | .next t => some t
  | _ => none

/-- The reply that a command leaves in a station's slot. -/
def reply (st : Station) (c : Instr) (s : State) : Option (Result × List Byte) :=
  (after c s).bind fun t => (t.stations.get st).slot.map fun r => (r.result, r.body)

/-- The item that the transmitter has under way after a command. -/
def item (c : Instr) (s : State) : Option TxItem := (after c s).bind State.txNow

/-- The requests that wait after a command. -/
def waiting (c : Instr) (s : State) : Option (List Job) := (after c s).map State.queue

/-- What the running job has computed after a command, and its steps still to do. -/
def running (c : Instr) (s : State) : Option (JobData × List JobStep) :=
  (after c s).bind fun t => t.running.map fun r => (r.data, r.todo)

/-- Whether no job runs after a command. -/
def engineFree (c : Instr) (s : State) : Option Bool := (after c s).map fun t => t.running.isNone

/-! ### WellFormed (R183, R206) -/

theorem test_wellFormed_refuses_long_body : (Instr.updateData 2 0 (List.replicate 1101 0)).wellFormed = false := by
  decide +kernel

theorem test_wellFormed_takes_longest_body : (Instr.updateData 2 0 (List.replicate 1100 0)).wellFormed = true := by
  decide +kernel

theorem test_wellFormed_refuses_known_code : (Instr.unknownRequestFrame 0 57 0 []).wellFormed = false := by decide

theorem test_wellFormed_takes_unknown_code : (Instr.unknownRequestFrame 0 99 0 []).wellFormed = true := by decide

/-! ### One step -/

theorem test_step_takes_front :
    (match step { lab with pending := [.txItemEnd, .buttonHoldEvent] } with | .next t => t.pending | _ => [])
      = [.buttonHoldEvent] := by decide

theorem test_no_word_spells_a_command : decodeTableWord 8 57 = none := by decide

/-! ### Request frames, each from a station that may send it -/

/-- An empty slot answers NOTHING with request state NONE (R168, R189, R207). -/
theorem test_fetch :
    (match item (.fetch 1 0 []) lab with | some (.frame bytes) => bytes.take 5 | _ => []) = [1, 1, 0, 1, 0] := by
  decide

theorem test_abort : item (.abort 2 0 []) lab = some (.receipt .none) := by decide

/-- The 33 bytes of R210. -/
theorem test_status :
    reply 2 (.status 2 0 []) labCreds
      = some (.ok, [0, 1, 1, 1, 1, 0, 0, 0, 0, 255, 0, 0, 0, 0, 0, 98, 0, 0, 0, 0, 0, 0, 0, 1, 1, 0, 0, 0, 0, 0, 0, 0,
          0]) := by decide

theorem test_conditions :
    (reply 3 (.conditions 3 0 []) (raiseCond .linkFrame lab)).map (fun r => (r.2.length, r.2.take 10))
      = some (78, [1, 1, 0, 0, 0, 0, 98, 0, 1, 1]) := by decide

/-- The enables reported are the stored ones, whatever enables are in force (R194). -/
theorem test_conditions_stored_enables :
    (reply 3 (.conditions 3 0 []) { lab with settings := { lab.settings with enables := 0 } }).map (fun r => r.2.take 10)
      = some [0, 1, 0, 0, 0, 0, 0, 0, 1, 1] := by decide

/-- LINK_FRAME and LOCKOUT_STARTED go, NV_WRITE_FAILED is a FAULT condition and stays (R195). -/
theorem test_clearConditions :
    reply 3 (.clearConditions 3 0 [0x02, 0x81])
        (raiseCond .linkFrame (raiseCond .lockoutStarted (raiseCond .nvWriteFailed lab)))
      = some (.ok, [2, 0]) := by decide

theorem test_setNoticeMask : reply 2 (.setNoticeMask 2 0 [1, 1]) lab = some (.ok, [1, 1]) := by decide

theorem test_closeStage : reply 1 (.closeStage 1 0 []) lab = some (.ok, [1, 2, 1, 1]) := by decide

/-- The defaults of R201: 96, 6,000, 3,000, 100, all but LINK_FRAME; 96 in use. -/
theorem test_settingsRead :
    reply 1 (.settingsRead 1 0 []) lab = some (.ok, [96, 0x17, 0x70, 0x0B, 0xB8, 0, 100, 0x07, 0xFE, 96]) := by
  decide

theorem test_settingsWrite :
    waiting (.settingsWrite 0 1 [0x1F, 97, 0, 0, 0xFF, 0xFF, 0, 49, 7, 0xFF]) lab
      = some [stationJob 0 true (.settingsWrite
          { selection := 0x1F, addressBase := 97, trialWindow := 0, grantWindow := 65535, buttonHold := 49,
            enables := 0x07FF })] := by decide

theorem test_ownerReset :
    waiting (.ownerReset 2 1 []) (withGrant 2 lab) = some [.ownerReset (some true) false] := by decide

theorem test_keyGenerate :
    (after (.keyGenerate 1 0 (creatingBody 7 1 2 0x0F 1 0 0 (.replicate 32 0))) lab).map (fun t => t.keys.get 7)
      = some (.reserved false) := by decide

/-- A 31-byte secret fails the length check (R19). -/
theorem test_keyImport :
    reply 1 (.keyImport 1 0 (creatingBody 7 3 0x20 0x0F 0 0 0 (.replicate 32 0) ++ 31 :: List.replicate 31 1)) lab
      = some (.badLength, []) := by decide

theorem test_keySign :
    waiting (.keySign 0 0 (6 :: List.replicate 32 0)) labKeys
      = some [stationJob 0 false (.keySign 6 (.replicate 32 9) (.replicate 32 0))] := by decide

theorem test_keyVerify :
    reply 0 (.keyVerify 0 0 (6 :: List.replicate 96 0)) labKeys = some (.keyUsage, []) := by decide

/-- The child's mask is the request's and the parent's (R21). -/
theorem test_keyDerive :
    waiting (.keyDerive 2 0 [6, 9, 0x20, 0x06, 1, 0x41]) (setKey 6 (.active { labSecret with mask := 0x0C }) lab)
      = some [stationJob 2 false (.keyDerive 6 (.replicate 32 10) [0x41] 9 0x20 0x04 [])] := by decide

theorem test_keyErase : reply 0 (.keyErase 0 0 [2]) labKeys = some (.notPermitted, []) := by decide

theorem test_keyInfo :
    reply 3 (.keyInfo 3 0 [6]) labKeys
      = some (.ok, [6, 2, 1, 2, 0, 3, 0x0F, 0] ++ List.replicate 34 0 ++ List.replicate 32 9 ++ [0]) := by
  decide

theorem test_keyPublic :
    reply 3 (.keyPublic 3 0 [6]) labKeys = some (.ok, List.replicate 64 2 ++ List.replicate 32 9) := by
  decide

theorem test_chainExtend :
    reply 2 (.chainExtend 2 0 (5 :: List.replicate 32 1)) lab = some (.notPermitted, []) := by decide

theorem test_chainFreeze :
    reply 2 (.chainFreeze 2 0 [9]) lab = some (.ok, 9 :: List.replicate 34 0 ++ [1]) := by decide

/-- Chain 11 is the last: a run of one fits, a run of two does not (R44). -/
theorem test_chainRead :
    reply 0 (.chainRead 0 0 [11, 1]) lab = some (.ok, 11 :: List.replicate 35 0 ++ [0])
      ∧ reply 0 (.chainRead 0 0 [11, 2]) lab = some (.badArgument, []) := by decide

theorem test_logRead :
    reply 0 (.logRead 0 0 [0, 8])
        { lab with log := [{ chain := 10, measurement := .replicate 32 5, tag := [0x74], station := none, uptime := 98 }] }
      = some (.ok, [1, 1, 0, 10, 255, 0, 0, 0, 98] ++ List.replicate 32 5 ++ [1, 0x74]) := by decide

/-- Selection 1,093 of the worked example of the formats chapter. -/
theorem test_quote :
    waiting (.quote 3 0 ([6, 4, 0x45] ++ List.replicate 8 1)) labKeys
      = some [stationJob 3 false (.quote 6 (.replicate 32 9) 1093 (List.replicate 8 1))] := by decide

theorem test_identityRead :
    reply 0 (.identityRead 0 0 []) lab = some (.ok, [0, 1, 0xC0] ++ List.replicate 97 0) := by decide

theorem test_updateOpen :
    (after (.updateOpen 2 0 [1, 1]) lab).map State.stream = some (.checking [1] 512) := by decide

theorem test_updateData :
    reply 2 (.updateData 2 0 (List.replicate 257 0)) { lab with stream := .receiving labManifest 256 0 [] 700 }
      = some (.badLength, [5, 18]) := by decide +kernel

theorem test_updateAbort :
    reply 2 (.updateAbort 2 0 []) { lab with stream := .failed [1] 256 300 .timeout }
      = some (.ok, [5, 0, 0, 1, 44, 67]) := by decide

theorem test_targetPrepare :
    reply 2 (.targetPrepare 2 0 []) { labKeys with stream := .verified labManifest 256 600 }
      = some (.ok, [0, 1, 1, 1, 0, 2, 0, 5] ++ List.replicate 32 3 ++ [0, 0]) := by decide

theorem test_targetList :
    (reply 2 (.targetList 2 0 []) labTargets).map (fun r => (r.2.length, r.2.drop 42))
      = some (56, [1, 0, 2, 0, 3, 0, 4, 0, 5, 0, 6, 0, 7, 0]) := by decide

theorem test_targetDiscard :
    (after (.targetDiscard 2 0 [0]) labTargets).map (fun t => t.targets.get 0) = some none := by decide

theorem test_targetActivate :
    waiting (.targetActivate 2 0 [0]) labTargets = some [stationJob 2 false (.targetActivate 0)] := by decide

theorem test_bootQuery :
    reply 0 (.bootQuery 0 0 [1]) lab
      = some (.ok, [1, 0, 0, 2, 0, 0, 0, 3] ++ List.replicate 32 7 ++ [2, 1, 0x61, 1, 0]) := by decide

theorem test_bootConfirm : reply 2 (.bootConfirm 2 0 [1]) lab = some (.streamState, []) := by decide

theorem test_floorRead : reply 3 (.floorRead 3 0 []) lab = some (.ok, [0, 2, 0, 2, 0, 2, 0, 2]) := by decide

/-- The claim needs no grant (R118). -/
theorem test_credSet :
    (after (.credSet 2 0 [0, 1, 1, 0, 0, 0x31]) lab).map (fun t => t.creds.get 0) = some .reserved := by
  decide

theorem test_credVerify :
    waiting (.credVerify 3 0 [0, 0x31]) labCreds = some [stationJob 3 false (.credVerify 0 [0x31])] := by
  decide

theorem test_credRelease :
    waiting (.credRelease 2 0 [3]) labCreds = some [stationJob 2 false (.credRelease 3)] := by decide

theorem test_credClear :
    reply 2 (.credClear 2 0 [0]) (withGrant 2 labCreds) = some (.notPermitted, []) := by decide

theorem test_credInfo :
    reply 2 (.credInfo 2 0 [0]) (withGrant 2 labCreds)
      = some (.ok, [0, 2, 1, 1, 0, 0, 0, 104, 2, 0, 0, 0, 1, 1, 0, 0x0B, 0xB8]) := by decide

theorem test_grantDrop : reply 2 (.grantDrop 2 0 []) (withGrant 2 lab) = some (.ok, [1, 0]) := by decide

theorem test_unknownRequestFrame :
    reply 0 (.unknownRequestFrame 0 99 0 []) lab = some (.unknownRequest, []) := by decide

/-! ### Starts and ends of jobs -/

def labNew : NewKey :=
  { slot := 7, usage := 0x20, mask := 0x0F, persistence := .persistent, ownerHeld := true, binding := .unbound,
    label := [] }

/-- The part with slot 7 RESERVED. -/
def labReserved : State := setKey 7 (.reserved false) labKeys

/-- The grant has gone: NO_GRANT, and the slot is EMPTY again (R15, R18). -/
theorem test_keyGenerateJobStart :
    let s := waits (stationJob 1 false (.keyGenerate labNew .secret)) labReserved
    reply 1 .keyGenerateJobStart s = some (.noGrant, [])
      ∧ (after .keyGenerateJobStart s).map (fun t => t.keys.get 7) = some .empty := by decide

/-- A generated SIGNING key's reply carries its public key (R18). -/
theorem test_keyGenerateJobEnd :
    reply 1 .keyGenerateJobEnd (runs (stationJob 1 false (.keyGenerate labNew .signing)) [] (.key labKey) labReserved)
      = some (.ok, [7, 2, 1, 2, 0, 3, 0x0F, 0] ++ List.replicate 34 0 ++ List.replicate 32 9 ++ [0]
          ++ List.replicate 64 2) := by decide

/-- The public key field of a generated SECRET key's reply is zeros (R18, R205). -/
theorem test_keyGenerateJobEnd_secret :
    reply 1 .keyGenerateJobEnd (runs (stationJob 1 false (.keyGenerate labNew .secret)) [] (.key labSecret) labReserved)
      = some (.ok, [7, 2, 3, 2, 0, 0x20, 0x0F, 0] ++ List.replicate 34 0 ++ List.replicate 32 10 ++ [0]
          ++ List.replicate 64 0) := by decide

theorem test_keyImportJobStart :
    reply 1 .keyImportJobStart (waits (stationJob 1 false (.keyImport labNew (.secret (.replicate 32 0)))) labReserved)
      = some (.noGrant, []) := by decide

/-- A PERSISTENT key is in the store when its job has ended (R18, R20). -/
theorem test_keyImportJobEnd :
    (after .keyImportJobEnd
        (runs (stationJob 1 false (.keyImport labNew labSecret.material)) [.keyRecord 7] (.key labSecret)
          labReserved)).map (fun t => (t.keys.get 7, t.store.keys.get 7))
      = some (.active labSecret, some labSecret) := by decide

theorem test_keyDeriveJobStart :
    reply 1 .keyDeriveJobStart
        (waits (stationJob 1 false (.keyDerive 5 (.replicate 32 9) [1] 7 0x20 0x0F [])) labReserved)
      = some (.slotEmpty, []) := by decide

/-- A SoC reset has ended the epoch of the key: it is erased at once (R28). -/
theorem test_keyDeriveJobEnd :
    let job := stationJob 1 false (.keyDerive 6 (.replicate 32 9) [1] 7 0x20 0x0F [])
    (after .keyDeriveJobEnd
        { labReserved with
          running := some { fresh job [] (.key { labSecret with persistence := .epoch }) [] with crossed := true } }).map
        (fun t => t.keys.get 7) = some .empty := by decide

/-- Chain 6 holds zeros, not the bound value (R14). -/
theorem test_keySignJobStart :
    reply 0 .keySignJobStart
        (waits (stationJob 0 false (.keySign 6 (.replicate 32 9) (.replicate 32 0)))
          (setKey 6 (.active { labKey with binding := some { chain := 6, value := .replicate 32 1 } }) lab))
      = some (.bindingMismatch, []) := by decide

theorem test_keySignJobEnd :
    reply 0 .keySignJobEnd
        (runs (stationJob 0 false (.keySign 6 (.replicate 32 9) (.replicate 32 0))) [] (.signature (.replicate 64 0xAA))
          labKeys)
      = some (.ok, List.replicate 64 0xAA) := by decide

/-- The noted fingerprint has been revoked (R11). -/
theorem test_keyVerifyJobStart :
    reply 0 .keyVerifyJobStart
        (waits (stationJob 0 false (.keyVerify 6 (.replicate 32 11) (.replicate 32 0) (.replicate 64 0)))
          { labKeys with revoked := [.replicate 32 11] })
      = some (.revoked, []) := by decide

theorem test_keyVerifyJobEnd :
    reply 0 .keyVerifyJobEnd
        (runs (stationJob 0 false (.keyVerify 6 (.replicate 32 9) (.replicate 32 0) (.replicate 64 0))) []
          (.verdict false) labKeys)
      = some (.signatureInvalid, []) := by decide

theorem test_keyEraseJobStart :
    running .keyEraseJobStart (waits (stationJob 0 false (.keyErase 6 (.replicate 32 9))) labKeys)
      = some (.blank, [.keyRemove 6]) := by decide

theorem test_keyEraseJobEnd :
    (after .keyEraseJobEnd
        (runs (stationJob 0 false (.keyErase 6 (.replicate 32 9))) [.keyRemove 6] .blank labKeys)).map
        (fun t => (t.keys.get 6, t.store.keys.get 6)) = some (.empty, none) := by decide

theorem test_chainExtendJobStart :
    reply 2 .chainExtendJobStart
        (waits (stationJob 2 false (.chainExtend 6 (.replicate 32 1) []))
          { lab with chains := lab.chains.set 6 { Chain.cleared with frozen := true } })
      = some (.chainFrozen, []) := by decide

/-- Chain, value, count 1, and the new entry's index 0 (R34). -/
theorem test_chainExtendJobEnd :
    reply 2 .chainExtendJobEnd
        (runs (stationJob 2 false (.chainExtend 6 (.replicate 32 1) [])) [] (.chainValue (.replicate 32 0xEE)) lab)
      = some (.ok, 6 :: List.replicate 32 0xEE ++ [0, 1, 1, 0]) := by decide

theorem test_quoteJobStart :
    reply 3 .quoteJobStart (waits (stationJob 3 false (.quote 7 (.replicate 32 9) 1093 (List.replicate 8 1))) labKeys)
      = some (.slotEmpty, []) := by decide

theorem test_quoteJobEnd :
    reply 3 .quoteJobEnd
        (runs (stationJob 3 false (.quote 6 (.replicate 32 9) 1093 (List.replicate 8 1))) [] (.statement [1, 2]) labKeys)
      = some (.ok, [1, 2]) := by decide

/-- A byte string that is no manifest fails the form check (R69). -/
theorem test_updateOpenJobStart :
    running .updateOpenJobStart (waits (stationJob 2 false .updateOpen) { lab with stream := .checking [1] 256 })
      = some (.manifestBad .badArgument, []) := by decide

theorem test_updateOpenJobEnd :
    reply 2 .updateOpenJobEnd
        (runs (stationJob 2 false .updateOpen) [] (.manifestBad .rollback) { lab with stream := .checking [1] 256 })
      = some (.rollback, [5, 65]) := by decide

/-- While its job runs the chunk is not counted (section 4.10). -/
theorem test_updateDataJobStart :
    (after .updateDataJobStart
        (waits (stationJob 2 false (.updateData [2])) { lab with stream := .absorbing labManifest 256 1 [1] })).map
        State.stream = some (.absorbing labManifest 256 1 [1]) := by decide

theorem test_updateDataJobEnd :
    let s := runs (stationJob 2 false (.updateData [2])) [] .blank { lab with stream := .absorbing labManifest 256 1 [1] }
    reply 2 .updateDataJobEnd s = some (.ok, [2, 0, 0, 0, 2])
      ∧ (after .updateDataJobEnd s).map State.stream = some (.receiving labManifest 256 2 [1, 2] 698) := by decide

/-- Version 1 is below the floor 2 (R94). -/
theorem test_targetActivateJobStart :
    reply 2 .targetActivateJobStart
        (waits (stationJob 2 false (.targetActivate 0))
          { labKeys with targets := lab.targets.set 0 (some { labTarget with version := 1 }) })
      = some (.rollback, []) := by decide

/-- Class 1, bank B, version 5, TRIAL_PENDING (R96). -/
theorem test_targetActivateJobEnd :
    let t := { labTarget with trial := true }
    reply 2 .targetActivateJobEnd
        (runs (stationJob 2 false (.targetActivate 0)) [.activateTrial t, .emptyTarget 0] (.image t) labTargets)
      = some (.ok, [1, 1, 0, 5, 1]) := by decide

theorem test_bootConfirmJobStart :
    reply 2 .bootConfirmJobStart (waits (stationJob 2 false (.bootConfirm 1)) lab) = some (.streamState, []) := by
  decide

theorem test_bootConfirmJobEnd :
    reply 2 .bootConfirmJobEnd (runs (stationJob 2 false (.bootConfirm 1)) [] .blank lab)
      = some (.ok, [1, 0, 0, 3, 0, 2]) := by decide

def labParams : CredParams :=
  { id := 0, kind := .verifier, label := [], grants := true, freeRelease := false, releaseMask := 0, secret := [0x31] }

theorem test_credSetJobStart :
    reply 2 .credSetJobStart (waits (stationJob 2 false (.credSet labParams true true)) labCreds)
      = some (.noGrant, []) := by decide

/-- A change keeps the penalty and the streak, and ends the grant it was made with (R120). -/
theorem test_credSetJobEnd :
    reply 2 .credSetJobEnd
        (runs (stationJob 2 false (.credSet labParams true true)) [.credRecord 0] (.credential labCred.contents)
          (withGrant 2 labCreds))
      = some (.ok, [0, 2, 1, 1, 0, 0, 0, 104, 2, 0, 0, 0, 1, 0, 0, 0, 0]) := by decide

/-- 630 ds remain, as in the governor's first worked example at 2,000. -/
theorem test_credVerifyJobStart :
    reply 2 .credVerifyJobStart
        (waits (stationJob 2 false (.credVerify 0 [0x31]))
          (setCred 0 (.held { labCred with lockout := .deadline 728 }) lab))
      = some (.locked, [0x02, 0x76]) := by decide

/-- Failure 3 of the governor's first worked example: 104 and 64 make 168. -/
theorem test_credVerifyChargeWritten :
    (after .credVerifyChargeWritten
        (runs (stationJob 2 false (.credVerify 0 [0x31])) [.charge 0] (.comparison 0 0 false) labCreds)).map
        (fun t => (t.store.creds.get 0).map fun r => (r.penalty, r.streak)) = some (some (168, 3)) := by
  decide

/-- Its lockout is 324 ds. -/
theorem test_credVerifyJobEnd :
    reply 2 .credVerifyJobEnd
        (runs (stationJob 2 false (.credVerify 0 [0x31])) [] (.comparison 168 64 false) labCreds)
      = some (.mismatch, [0x01, 0x44]) := by decide

theorem test_credReleaseJobStart :
    running .credReleaseJobStart (waits (stationJob 2 false (.credRelease 3)) labCreds)
      = some (.value [2, 0x70, 0x71], []) := by decide

theorem test_credReleaseJobEnd :
    reply 2 .credReleaseJobEnd (runs (stationJob 2 false (.credRelease 3)) [] (.value [2, 0x70, 0x71]) labCreds)
      = some (.ok, [2, 0x70, 0x71]) := by decide

theorem test_credClearJobStart :
    reply 2 .credClearJobStart (waits (stationJob 2 false (.credClear 3)) labCreds) = some (.noGrant, []) := by
  decide

theorem test_credClearJobEnd :
    (after .credClearJobEnd (runs (stationJob 2 false (.credClear 3)) [.credRemove 3] .blank labCreds)).map
        (fun t => t.creds.get 3) = some .empty := by decide

/-- 97 is rounded down to 96; the durations come into 600 to 36,000, 300 to 18,000 and 50 to 300 (R202). -/
theorem test_settingsWriteJobStart :
    running .settingsWriteJobStart
        (waits (stationJob 0 false (.settingsWrite
          { selection := 0x0F, addressBase := 97, trialWindow := 599, grantWindow := 18001, buttonHold := 49,
            enables := 0 })) lab)
      = some (.newSettings { addressBase := 96, trialWindow := 600, grantWindow := 18000, buttonHold := 50,
                             enables := 0x07FE }, [.settingsRecord]) := by decide

/-- The address base in use stays until the next part reset (R202). -/
theorem test_settingsWriteJobEnd :
    (after .settingsWriteJobEnd
        (runs (stationJob 0 false (.settingsWrite
          { selection := 1, addressBase := 8, trialWindow := 0, grantWindow := 0, buttonHold := 0, enables := 0 }))
          [.settingsRecord] (.newSettings { Settings.default with addressBase := 8 }) lab)).map
        (fun t => (t.settings.addressBase, t.store.settings.addressBase)) = some (96, 8) := by decide

/-- The part with class 1 in a trial of bank B. -/
def labTrial (state : ClassState) : State :=
  { labKeys with classes := labKeys.classes.set 1 (some { labClass with state, imageB := some labImage }) }

theorem test_trialAccountJobStart :
    running .trialAccountJobStart (waits .trialAccount (labTrial (.booting .b 2)))
      = some (.accounted 1 true, [.account 1]) := by decide

/-- The first boot of a trial leaves two attempts and starts the timer, 6,000 ds ahead of 98 (R100, R103). -/
theorem test_trialAccountJobEnd :
    (after .trialAccountJobEnd (runs .trialAccount [.account 1] (.accounted 1 false) (labTrial (.pending .b 3)))).map
        (fun t => ((t.classes.get 1).map ClassRecord.state, t.timer))
      = some (some (.booting .b 2), .running 6098 false) := by decide

theorem test_ownerResetJobStart :
    reply 2 .ownerResetJobStart (waits (.ownerReset (some false) false) lab) = some (.noGrant, []) := by
  decide

theorem test_ownerResetJobEnd :
    reply 2 .ownerResetJobEnd (runs (.ownerReset (some false) false) [] (.erased 2 1) lab) = some (.ok, [2, 1]) := by
  decide

/-! ### Store writes -/

theorem test_storeWriteComplete :
    (after .storeWriteComplete
        (runs (stationJob 0 false (.credClear 3)) [.credRemove 3] .blank
          { labCreds with store := { labStore with creds := labStore.creds.set 3 (some ⟨labPass.contents, 0, 0⟩) } })).map
        (fun t => (t.store.creds.get 3, t.running.map Running.todo)) = some (none, some []) := by decide

theorem test_storeWriteFailed :
    let s := runs (stationJob 2 false (.credClear 3)) [.credRemove 3] .blank labCreds
    reply 2 (.storeWriteFailed false) s = some (.nvFailed, [])
      ∧ (after (.storeWriteFailed false) s).map State.fault = some true := by decide

/-- A removal of the owner reset mark that fails leaves the mark standing (R198, R200). -/
theorem test_storeWriteFailed_mark :
    (after (.storeWriteFailed true)
        (runs (.ownerReset none true) [.markRemove] (.erased 0 0) { lab with store := { labStore with resetMark := true } })).map
        (fun t => t.store.resetMark) = some true := by decide

/-! ### Time -/

theorem test_decisecondTick :
    (after (.decisecondTick labHigh) lab).map (fun t => (t.time.uptime, t.time.phase)) = some (99, 1) := by
  decide

/-- A phase of 25 periods is low, one of 26 is mixed and judges nothing (R150, R156). -/
theorem test_decisecondTick_button :
    (after (.decisecondTick labLow25) { lab with time := { lab.time with phase := 1 } }).map (fun t => t.time.button)
        = some .holding
      ∧ (after (.decisecondTick labLow25) lab).map (fun t => t.time.button) = some .released := by decide

/-- The count comes to 100 (R154). -/
theorem test_decayTick :
    (after (.decayTick labHigh) { labCreds with time := { lab.time with uptime := 99 } }).map
        (fun t => (heldCred? 0 t).map CredRecord.penalty) = some (some 103) := by decide

theorem test_lockoutEnd :
    (after (.lockoutEnd 0 labHigh) (setCred 0 (.held { labCred with lockout := .deadline 99 }) lab)).map
        (fun t => (heldCred? 0 t).map CredRecord.lockout) = some (some .absent) := by decide

theorem test_grantExpiry :
    (after (.grantExpiry 2 labHigh) { withGrant 2 lab with time := { lab.time with uptime := 3097 } }).map
        (holdsGrant 2) = some false := by decide

theorem test_idleDeadlineExpiry :
    (after (.idleDeadlineExpiry labHigh) { lab with stream := .receiving labManifest 256 5 [] 99 }).map State.stream
      = some (.failed [1] 256 5 .timeout) := by decide

theorem test_trialTimerExpiry :
    (after (.trialTimerExpiry labHigh) { lab with timer := .running 99 false }).map (fun t => (t.timer, t.time.pulse))
      = some (.expired, .driving 0) := by decide

theorem test_gapTimeout :
    (after (.gapTimeout labHigh) { lab with line := .assembling 1 [3] }).map State.line = some .ignoring := by
  decide

theorem test_socrstPulseEnd :
    (after (.socrstPulseEnd labHigh) { lab with time := { lab.time with pulse := .driving 1 } }).map
        (fun t => t.time.pulse) = some .idle := by decide

theorem test_buttonHoldEvent :
    waiting .buttonHoldEvent { lab with time := { lab.time with button := .holding, held := 99, threshold := 100 } }
      = some [.ownerReset none true] := by decide

/-! ### Resets -/

/-- The condition of a failed attempt comes with the timer's start, not with the record's write (R103, R174). -/
theorem test_trialAccount_order :
    let s := waits .trialAccount (labTrial (.booting .b 2))
    (match execAll [.trialAccountJobStart, .storeWriteComplete] s with
        | .next t => some (t.timer, t.conditions.get 5) | _ => none) = some (.stopped, none)
      ∧ (match execAll [.trialAccountJobStart, .storeWriteComplete, .trialAccountJobEnd] s with
        | .next t => some (t.timer, t.conditions.get 5) | _ => none) = some (.running 6098 false, some 98) := by
  decide

theorem test_socResetSensed :
    (after .socResetSensed lab).map
        (fun t => ((List.finRange 4).map (fun st => (t.stations.get st).state), t.queue, t.socResets))
      = some ([.opened, .waiting, .waiting, .waiting], [.trialAccount], 1) := by decide

/-- A tick at which the sense sampler reads these samples, and none of the button's is low. -/
def labSense (sense : List Bool) : Instr := .decisecondTick { labHigh with sense }

/-- A single low sample between high ones changes nothing; one that the sampler still holds makes a pair (R155). -/
theorem test_socResetSensed_single :
    (after (labSense [true, false, true]) lab).map (fun t => (t.socResets, t.time.senseLow)) = some (0, true)
      ∧ (after (labSense [true]) { lab with time := { lab.time with senseLow := true } }).map
          (fun t => (t.socResets, t.time.senseAsserted)) = some (1, true) := by decide

/-- A single high sample between low ones changes nothing, two bring the sampler back (R155). -/
theorem test_socrstSenseReleased :
    let s := { lab with time := { lab.time with senseAsserted := true, senseLow := true } }
    (after .socrstSenseReleased s).map (fun t => t.time.senseAsserted) = some false
      ∧ (after (labSense [false, true, true]) s).map (fun t => (t.time.senseAsserted, t.socResets)) = some (true, 0) := by
  decide

theorem test_powerLost :
    (after (.powerLost true) (runs (stationJob 0 false (.keyErase 6 (.replicate 32 9))) [.keyRemove 6] .blank
        { labKeys with store := { labStore with keys := labStore.keys.set 6 (some labKey) } })).map
        (fun t => (t.power, t.store.keys.get 6)) = some (.off, none) := by decide

theorem test_partReset :
    (after (.partReset { landed := false, bad := [], trouble := .none }) lab).map
        (fun t => (t.power, t.partResets, t.store.partResets)) = some (.startUp false, 2, 2) := by decide

/-- A credential record that fails its check is EMPTY in working state, stays in the store, and leaves the part
unclaimed (R134); NV_INTEGRITY is raised (R203). -/
theorem test_partReset_bad :
    let s := { lab with store := { labStore with
      creds := labStore.creds.set 0 (some { contents := labCred.contents, penalty := 40, streak := 1 }) } }
    (after (.partReset { landed := false, bad := [.credential 0], trouble := .none }) s).map
        (fun t => (t.creds.get 0, t.store.creds == s.store.creds, t.conditions.get 10)) = some (.empty, true, some 0) := by
  decide

theorem test_startUpEnd :
    (after (.startUpEnd true) { lab with power := .startUp true }).map
        (fun t => (t.power, t.time.senseAsserted, t.timer)) = some (.on, true, .running 6098 false) := by
  decide

/-! ### The trust line -/

/-- The default base is 96, so that 98 is station 2's address (R181, R201). -/
theorem test_addressCharacter :
    (after (.addressCharacter 98) lab).map State.line = some (.selected 2) := by decide

theorem test_dataCharacter :
    (after (.dataCharacter 57) { lab with line := .selected 2 }).map State.line = some (.assembling 2 [57]) := by
  decide

theorem test_badCharacter :
    item (.badCharacter .framing) { lab with line := .assembling 1 [3] } = some (.receipt .frameBad) := by
  decide

theorem test_txItemEnd :
    item .txItemEnd { lab with txNow := some (.receipt .taken), txNext := some (.receipt .held) }
      = some (.receipt .held) := by decide

/-- The CRC of the check text (R185). -/
theorem test_crc : crc16 [0x31, 0x32, 0x33, 0x34, 0x35, 0x36, 0x37, 0x38, 0x39] = 0x29B1 := by decide +kernel

/-! ### What the statements suppose: a state and operands for each hypothesis, at the ends of its range -/

/-- The part with a station in another state. -/
def stationIs (st : Station) (x : StationState) (s : State) : State :=
  setStation st { s.stations.get st with state := x } s

/-- The part with a reply in a station's slot. -/
def holdsReply (st : Station) (s : State) : State := placeReply st .ok 57 [1] false s

/-- A job of station 2 that has nothing to undo. -/
def labJob : Job := stationJob 2 false (.credVerify 0 [0x31])

/-- The part with other jobs around a job in its queue. -/
def amid (j : Job) (s : State) : State := { s with queue := [stationJob 3 true (.credVerify 0 [1]), j, .trialAccount] }

def labSettings : SettingsParams :=
  { selection := 1, addressBase := 8, trialWindow := 0, grantWindow := 0, buttonHold := 0, enables := 0 }

theorem not_active_of_empty {slot : Slot} {s : State} (h : s.keys.get slot = .empty) (k : KeyRecord) :
    s.keys.get slot ≠ .active k := by simp [h]

theorem not_held_of_empty {id : CredId} {s : State} (h : s.creds.get id = .empty) (r : CredRecord) :
    s.creds.get id ≠ .held r := by simp [h]

theorem witness_StepTakesFrontCommand : lab.pending = [] := by decide

theorem witness_ResetLeavesShippedPart : 4 ≤ (4 : Slot).val ∧ 4 ≤ (63 : Slot).val ∧ ¬4 ≤ (3 : Slot).val := by decide

theorem witness_ExecLeavesQueue : ∃ t, exec .txItemEnd { lab with txNow := some .remnant } = .next t := ⟨_, rfl⟩

theorem witness_RefusedFramesLeaveNoTrace :
    (lab.power = .on ∧ lab.txNext = none ∧ (List.replicate 8 (0 : Byte)).length ≤ Config.bodyCap)
      ∧ ((stationIs 1 .waiting lab).stations.get 1).state = .waiting
      ∧ (((stationIs 1 .closed lab).stations.get 1).state = .closed ∧ (2 : Byte) ≠ 1 ∧ (2 : Byte) ≠ 3)
      ∧ (((waits labJob lab).stations.get 2).state = .opened ∧ (57 : Byte) ≠ 1 ∧ (57 : Byte) ≠ 2 ∧ (57 : Byte) ≠ 50
          ∧ requestState 2 (waits labJob lab) ≠ .idle)
      ∧ (requestState 1 (holdsReply 1 lab) = .idle ∧ ((holdsReply 1 lab).stations.get 1).slot ≠ none) := by decide

/-- An UPDATE_ABORT met by BUSY: another request of station 2 in hand, bad flags, a body, another station. -/
theorem witness_RefusedFramesLeaveNoTrace_abort :
    (∀ q w, stationJob 2 q w ∈ (waits labJob lab).queue → w ≠ .updateOpen ∧ ∀ chunk, w ≠ .updateData chunk)
      ∧ (waits labJob lab).running = none
      ∧ requestState 2 (waits (stationJob 2 false .updateOpen) lab) ≠ .idle
      ∧ (2 : Byte) &&& 0xFE ≠ 0 ∧ ([0] : List Byte) ≠ []
      ∧ requestState 3 (waits (stationJob 3 false (.credVerify 0 [1])) lab) ≠ .idle := by
  refine ⟨fun q w h => ?_, rfl, by decide, by decide, by decide, by decide⟩
  cases List.mem_singleton.1 h
  exact ⟨nofun, nofun⟩

theorem witness_OrderOfChecks :
    MaySend 2 lab ∧ Ready 2 1 lab ∧ (2 : Byte) &&& 0xFE ≠ 0 ∧ (1 : Byte) &&& 0xFE = 0
      ∧ ReqCode.ofByte 58 = none ∧ ReqCode.ofByte 57 = some .floorRead
      ∧ lengthOk .floorRead 1 = false
      ∧ (lengthOk .ownerReset 0 = true ∧ permitted .ownerReset 3 [] = false)
      ∧ (lengthOk .floorRead 0 = true ∧ permitted .floorRead 3 [] = true
          ∧ MaySend 3 { lab with fault := true } ∧ ({ lab with fault := true } : State).fault = true)
      ∧ (lengthOk .ownerReset 0 = true ∧ permitted .ownerReset 2 [] = true ∧ lab.fault = false
          ∧ needsGrant .ownerReset 2 [] lab = true ∧ (lab.stations.get 2).grant = none) := by decide

theorem witness_FetchCollectsReply :
    (lab.power = .on ∧ lab.txNext = none)
      ∧ ((stationIs 1 .waiting lab).stations.get 1).state = .waiting
      ∧ ((stationIs 1 .closed lab).stations.get 1).state ≠ .waiting
      ∧ ((holdsReply 1 lab).stations.get 1).slot = some { result := .ok, code := 57, body := [1], notice := true }
      ∧ (lab.stations.get 1).slot = none := by decide

theorem witness_AbortWithdrawsWaitingRequest :
    (flagsOk 1 = true ∧ (lab.stations.get 2).state = .opened ∧ requestState 2 lab = .idle)
      ∧ requestState 2 (runs labJob [] .blank lab) = .running
      ∧ (requestState 2 (amid labJob lab) = .waiting
          ∧ (amid labJob lab).queue = [stationJob 3 true (.credVerify 0 [1])] ++ labJob :: [.trialAccount]
          ∧ ∀ j ∈ [stationJob 3 true (.credVerify 0 [1])] ++ [Job.trialAccount], j.holder ≠ some 2)
      ∧ (let s := runs (stationJob 3 false (.credVerify 0 [2])) [] .blank (amid (stationJob 2 false .updateOpen) lab)
         s.running ≠ none ∧ requestState 2 s = .waiting
          ∧ s.queue = [stationJob 3 true (.credVerify 0 [1])] ++ stationJob 2 false .updateOpen :: [.trialAccount]) := by
  decide

/-- What each kind of reservation that ABORT gives back looks like before it. -/
theorem witness_AbortWithdrawsWaitingRequest_reservations :
    labReserved.keys.get labNew.slot = .reserved false
      ∧ (setCred 0 .reserved lab).creds.get labParams.id = .reserved
      ∧ ({ lab with stream := .absorbing labManifest 256 1 [1] } : State).stream = .absorbing labManifest 256 1 [1]
      ∧ ({ lab with timer := .running 99 true, hold := true } : State).timer = .running 99 true := by decide

theorem witness_ReportsAreAnsweredInFaultMode :
    (let s := stationIs 1 .closed { lab with fault := true }
     s.power = .on ∧ s.txNext = none ∧ (s.stations.get 1).state ≠ .waiting ∧ requestState 1 s = .idle
      ∧ (s.stations.get 1).slot = none)
      ∧ MaySend 3 { lab with fault := true } ∧ flagsOk 1 = true
      ∧ ((setKey 0 (.active labKey) lab).keys.get 0 = .active labKey
          ∧ labKey.material = .signing (.replicate 32 1) (.replicate 64 2) ∧ lab.certificate = some [0xC0])
      ∧ (({ lab with certificate := none } : State).certificate = none ∧ lab.keys.get 0 = .empty
          ∧ (setKey 0 (.active labVendor) lab).keys.get 0 = .active labVendor) := by
  decide

theorem witness_ReportsAreAnsweredInFaultMode_verifying (priv : Bytes 32) (pub : Bytes 64) :
    labVendor.material ≠ .signing priv pub := nofun

theorem witness_ListingRequestsReport :
    Ready 0 0 lab ∧ Ready 3 1 lab ∧ (∀ c, lab.classes.get c = some labClass)
      ∧ ((3 : Byte) = byte (3 : ClassNo) ∧ 4 ≤ (4 : Byte).toNat ∧ (15 : Byte) = byte (15 : CredId)
          ∧ 16 ≤ (16 : Byte).toNat)
      ∧ (Ready 1 0 (waits .trialAccount lab) ∧ Job.trialAccount ∈ (waits .trialAccount lab).queue)
      ∧ (Ready 1 0 (runs .trialAccount [] .blank lab) ∧ Job.trialAccount ∉ lab.queue ∧ lab.running = none) := by
  decide

/-- A job that is no accounting runs. -/
theorem witness_ListingRequestsReport_runs :
    Ready 1 0 (runs labJob [] .blank lab) ∧ ∀ x, (runs labJob [] .blank lab).running = some x → x.job ≠ .trialAccount :=
  ⟨by decide, fun x h => by cases h; nofun⟩

theorem witness_KeysAreReadByAnyStation :
    Ready 3 0 labReserved ∧ 64 ≤ (64 : Byte).toNat ∧ (63 : Byte) = byte (63 : Slot)
      ∧ labReserved.keys.get 63 = .empty ∧ labReserved.keys.get 7 = .reserved false
      ∧ labReserved.keys.get 6 = .active labKey ∧ labReserved.keys.get 2 = .active labVendor
      ∧ labVendor.material = .verifying (.replicate 64 5) ∧ labSecret.material = .secret (.replicate 32 4) := by decide

theorem witness_ChainReadAndLogReadReport :
    Ready 0 0 lab ∧ 11 < (12 : Byte).toNat ∧ 12 < (11 : Byte).toNat + (2 : Byte).toNat
      ∧ (0 < (1 : Byte).toNat ∧ (11 : Byte).toNat ≤ 11 ∧ (11 : Byte).toNat + (1 : Byte).toNat ≤ 12)
      ∧ 127 < (128 : Byte).toNat ∧ 8 < (9 : Byte).toNat ∧ (127 : Byte).toNat ≤ 127 ∧ (8 : Byte).toNat ≤ 8 := by decide

theorem witness_StationRequestsChangeTheStationTable :
    Ready 2 0 lab ∧ Ready 3 0 lab ∧ Ready 0 0 lab ∧ (0x08 : Byte) &&& 0xF8 ≠ 0 ∧ (0x07 : Byte) &&& 0xF8 = 0
      ∧ (∀ i : Fin 11, lab.conditions.get i
          = if i.val < 9 ∧ ((0x07 : Byte) ++ (0xFF : Byte)).getLsbD i.val = true then none else lab.conditions.get i)
      ∧ 3 ≤ (3 : Byte).toNat ∧ (2 : Byte).toNat < 3 := by decide

theorem witness_ChainFreezeSetsTheFlag :
    Ready 2 0 lab ∧ chainRight 2 (5 : Byte).toNat = false ∧ chainRight 2 (10 : Byte).toNat = false
      ∧ (9 : Byte) = byte (9 : ChainNo) ∧ chainRight 2 (9 : ChainNo) = true ∧ chainRight 2 (6 : ChainNo) = true := by
  decide

theorem witness_GrantDropEndsOwnGrant :
    Ready 2 0 (withGrant 2 lab) ∧ Ready 1 0 lab ∧ Ready 3 0 lab
      ∧ ((withGrant 2 lab).stations.get 2).grant = some { credential := 0, deadline := 3098 }
      ∧ (lab.stations.get 3).grant = none := by decide

theorem witness_UpdateAbortClosesStream :
    (lab.power = .on ∧ lab.txNext = none ∧ (lab.stations.get 2).state = .opened ∧ lab.fault = false
        ∧ requestState 2 lab = .idle ∧ (lab.stations.get 2).slot = none)
      ∧ (requestState 2 (amid (stationJob 2 false .updateOpen) lab) = .waiting
          ∧ (amid (stationJob 2 false .updateOpen) lab).queue
            = [stationJob 3 true (.credVerify 0 [1])] ++ stationJob 2 false .updateOpen :: [.trialAccount])
      ∧ ((runs (stationJob 2 true (.updateData [1])) [] .blank lab).running
            = some (fresh (stationJob 2 true (.updateData [1])) [] .blank [])
          ∧ (Work.updateData [1]).isStream = true) := by decide

theorem witness_TargetsAreFilledAndDiscarded :
    (let s := { labTargets with stream := .verified { labManifest with trial := true } 256 600 }
     Ready 2 0 s ∧ s.classes.get 1 = some labClass ∧ labClass.floor ≤ labManifest.version
      ∧ s.keys.get labManifest.signer = .active labVendor ∧ labManifest.cls ≠ 2 ∧ labClass.active ≠ labManifest.bank
      ∧ s.targets.get 1 = none ∧ ∀ j < (1 : TargetNo), s.targets.get j ≠ none)
      ∧ ({ labManifest with version := 1 } : Manifest).version < labClass.floor
      ∧ lab.stream = .closed ∧ labTargets.targets.get 0 = some labTarget ∧ labTargets.targets.get 7 = none
      ∧ (lab.keys.get labManifest.signer = .empty ∧ labClass.floor ≤ labManifest.version)
      ∧ (let m := { labManifest with trial := true, bank := .a }
         m.trial = true ∧ labClass.active = m.bank ∧ ({ m with cls := 2 } : Manifest).cls = 2)
      ∧ (∀ i, ({ labKeys with targets := .replicate 8 (some labTarget) } : State).targets.get i ≠ none)
      ∧ 8 ≤ (8 : Byte).toNat := by decide

theorem witness_TargetsAreFilledAndDiscarded_closed (m : Manifest) (limit n : Nat) :
    lab.stream ≠ .verified m limit n := nofun

theorem witness_UseChecksAtTake :
    Ready 2 0 labKeys ∧ (6 : Byte) = byte (6 : Slot) ∧ MayUse 6 0 2 labKey labKeys ∧ MayUse 6 1 2 labKey labKeys
      ∧ MayUse 6 5 2 labSecret (setKey 6 (.active labSecret) lab)
      ∧ MayUse 6 2 2 { labVendor with usage := 0x04 } (setKey 6 (.active { labVendor with usage := 0x04 }) lab)
      ∧ (0x0F : Byte) &&& 0xF0 = 0 ∧ 8 ≤ (List.replicate 8 (0 : Byte)).length
      ∧ (List.replicate 32 (0 : Byte)).length ≤ 32
      ∧ (0x20 : Byte) &&& ~~~labSecret.usage = 0 ∧ (0x04 : Byte) &&& labSecret.mask ≠ 0
      ∧ labKeys.keys.get 63 = .empty ∧ 6 ≤ (63 : Slot).val := by decide

/-- Each way in which the use checks fail. -/
theorem witness_UseChecksAtTake_refused :
    UseRefused 64 1 2 labKeys .badArgument ∧ UseRefused 5 1 2 labKeys .slotEmpty ∧ UseRefused 6 2 2 labKeys .keyUsage
      ∧ UseRefused 6 1 2 (setKey 6 (.active { labKey with mask := 0x01 }) lab) .notPermitted :=
  ⟨.inl ⟨by decide, rfl⟩, .inr ⟨5, by decide, .inl ⟨not_active_of_empty (by decide), rfl⟩⟩,
    .inr ⟨6, by decide, .inr ⟨labKey, by decide, .inl ⟨by decide, rfl⟩⟩⟩,
    .inr ⟨6, by decide, .inr ⟨{ labKey with mask := 0x01 }, by decide, .inr ⟨by decide, by decide, rfl⟩⟩⟩⟩

theorem witness_CreatingRequestsReserve :
    Ready 2 0 (withGrant 2 lab) ∧ 6 ≤ (6 : Slot).val ∧ lab.keys.get 6 = .empty ∧ lab.keys.get 63 = .empty
      ∧ (0x0F : Byte) ≠ 0 ∧ (0x0F : Byte) &&& 0xF0 = 0 ∧ (0x03 : Byte) &&& 0xFC = 0
      ∧ (List.replicate 16 (0 : Byte)).length ≤ 16 ∧ (11 : Byte) = byte (11 : ChainNo)
      ∧ ((withGrant 2 lab).stations.get 2).grant ≠ none ∧ hasBit 2 0 = false ∧ hasBit 2 1 = true
      ∧ ownerUpdateCount lab < 2 := by decide

theorem witness_ErasingAndVendorSlots :
    Ready 2 0 labKeys ∧ 64 ≤ (64 : Byte).toNat ∧ (5 : Byte).toNat < 6
      ∧ (let s := setKey 7 (.active labSecret) labKeys
         Ready 2 0 s ∧ MayUse 7 5 2 labSecret s ∧ (0x0F : Byte) &&& labSecret.mask ≠ 0 ∧ 1 ≤ [(1 : Byte)].length
          ∧ s.keys.get 6 ≠ .empty)
      ∧ labKeys.keys.get 6 ≠ .empty ∧ labKeys.keys.get 6 = .active labKey ∧ hasBit labKey.mask 2 = true
      ∧ labKey.ownerHeld = false ∧ labKey.persistence = .persistent
      ∧ (setKey 6 (.active { labSecret with persistence := .epoch }) lab).keys.get 6
          = .active { labSecret with persistence := .epoch }
      ∧ ({ labTargets with stream := .verified { labManifest with signer := 6 } 256 600 } : State).stream
          = .verified { labManifest with signer := 6 } 256 600 := by decide

theorem witness_ErasingAndVendorSlots_vendor (slot : Slot) (h : (2 : Byte) = byte slot) (k : KeyRecord)
    (hk : labKeys.keys.get slot = .active k) : k.ownerHeld = false := by
  have h2 : ∀ x : Slot, (2 : Byte) = byte x → x = 2 := by decide
  obtain rfl := h2 slot h
  rw [show labKeys.keys.get 2 = .active labVendor from by decide] at hk
  cases hk
  rfl

theorem witness_ChainExtendIsTaken :
    Ready 2 0 lab ∧ (List.replicate 32 (0 : Byte)).length < 33 ∧ 49 < (List.replicate 50 (0 : Byte)).length
      ∧ (List.replicate 16 (0 : Byte)).length ≤ 16 ∧ chainRight 2 (10 : Byte).toNat = false
      ∧ chainRight 2 (9 : ChainNo) = true ∧ (lab.chains.get 9).frozen = false
      ∧ (({ lab with chains := lab.chains.set 9 { Chain.cleared with frozen := true } } : State).chains.get 9).frozen
          = true := by decide

theorem witness_StreamRequestsAreTaken :
    (let s := { lab with stream := .receiving labManifest 256 344 [] 700 }
     Ready 2 0 s ∧ 344 + (List.replicate 256 (0 : Byte)).length ≤ labManifest.imageLength
      ∧ labManifest.imageLength < 345 + (List.replicate 256 (0 : Byte)).length
      ∧ 256 < (List.replicate 257 (0 : Byte)).length)
      ∧ Ready 2 0 { lab with stream := .failed [1] 256 5 .timeout }
      ∧ Ready 2 0 { lab with stream := .verified labManifest 256 600 }
      ∧ Ready 2 0 { lab with stream := .checking [1] 256 }
      ∧ Ready 2 0 { lab with stream := .absorbing labManifest 256 5 [] } := by decide +kernel

theorem witness_ActivateAndConfirmAreTaken :
    Ready 2 0 labTargets ∧ 8 ≤ (8 : Byte).toNat ∧ 4 ≤ (4 : Byte).toNat ∧ (7 : Byte) = byte (7 : TargetNo)
      ∧ labTargets.targets.get 7 = none ∧ labTargets.targets.get 0 ≠ none
      ∧ (∀ timer ∈ [TrialTimer.stopped, .expired, .running 99 true],
          Ready 2 0 { labTrial (.booting .b 2) with timer }
            ∧ ({ labTrial (.booting .b 2) with timer } : State).classes.get 1
              = some { labClass with state := .booting .b 2, imageB := some labImage }) := by decide

theorem witness_ActivateAndConfirmAreTaken_steady (bank : Bank) (n : Nat) : labClass.state ≠ .booting bank n := nofun

theorem witness_CredentialRequestsAreTaken :
    Ready 2 0 labCreds ∧ Ready 3 0 (withGrant 3 labCreds) ∧ labCreds.creds.get 15 = .empty
      ∧ labCreds.creds.get 0 = .held labCred ∧ labCreds.creds.get 3 = .held labPass
      ∧ (setCred 0 .reserved lab).creds.get 0 = .reserved
      ∧ (List.replicate 24 (0 : Byte)).length ≤ 24 ∧ (List.replicate 64 (0 : Byte)).length ≤ 64
      ∧ 16 ≤ (16 : Byte).toNat ∧ (15 : Byte) = byte (15 : CredId)
      ∧ ((withGrant 3 labCreds).stations.get 3).grant ≠ none ∧ (labCreds.stations.get 2).grant = none
      ∧ labCred.contents.kind = .verifier ∧ labPass.contents.kind = .secret
      ∧ labPass.contents.freeRelease = true ∧ hasBit labPass.contents.releaseMask 2 = true
      ∧ hasBit (0x08 : Byte) 2 = false := by decide

theorem witness_OwnerRequestsAreTaken :
    Ready 0 0 lab ∧ Ready 2 0 (withGrant 2 lab) ∧ ((withGrant 2 lab).stations.get 2).grant ≠ none
      ∧ (0x20 : Byte) &&& 0xE0 ≠ 0 ∧ (0x1F : Byte) &&& 0xE0 = 0 ∧ (0x08 : Byte) &&& 0xF8 ≠ 0
      ∧ (0x07 : Byte) &&& 0xF8 = 0
      ∧ (amid (.ownerReset none true) (withGrant 2 lab)).queue
          = [stationJob 3 true (.credVerify 0 [1])] ++ .ownerReset none true :: [.trialAccount]
      ∧ (∀ j ∈ [stationJob 3 true (.credVerify 0 [1])] ++ [Job.trialAccount], j.isOwnerReset = false)
      ∧ (let t := amid (.ownerReset (some true) true) lab
         t.power = .on ∧ t.txNext = none ∧ (t.stations.get 2).state = .opened ∧ t.running = none
          ∧ t.queue = [stationJob 3 true (.credVerify 0 [1])] ++ .ownerReset (some true) true :: [.trialAccount]
          ∧ ∀ j ∈ [stationJob 3 true (.credVerify 0 [1])] ++ [Job.trialAccount], j.holder ≠ some 2) := by decide

/-- The queue of a part at rest holds no owner reset. -/
theorem witness_OwnerRequestsAreTaken_none (a : Option Bool) (b : Bool) : Job.ownerReset a b ∉ lab.queue := nofun

/-- Another station's job runs while the owner reset waits. -/
theorem witness_OwnerRequestsAreTaken_runs :
    let t := runs (stationJob 3 false (.credVerify 0 [1])) [] .blank (amid (.ownerReset (some true) true) lab)
    t.power = .on ∧ t.txNext = none ∧ (t.stations.get 2).state = .opened
      ∧ (∀ r, t.running = some r → r.holder ≠ some 2)
      ∧ t.queue = [stationJob 3 true (.credVerify 0 [1])] ++ .ownerReset (some true) true :: [.trialAccount] :=
  ⟨rfl, rfl, by decide, fun r h => by cases h; decide, rfl⟩

theorem witness_KeyUsingJobsCheckAndAnswer :
    MayStart (stationJob 2 false (.keySign 6 (.replicate 32 9) (.replicate 32 0))) []
        (waits (stationJob 2 false (.keySign 6 (.replicate 32 9) (.replicate 32 0))) labKeys)
      ∧ MayStart (stationJob 2 false (.keyVerify 6 (.replicate 32 9) (.replicate 32 0) (.replicate 64 0))) []
        (waits (stationJob 2 false (.keyVerify 6 (.replicate 32 9) (.replicate 32 0) (.replicate 64 0))) labKeys)
      ∧ MayStart (stationJob 2 false (.keyDerive 6 (.replicate 32 9) [1] 7 0x20 1 [])) []
        (waits (stationJob 2 false (.keyDerive 6 (.replicate 32 9) [1] 7 0x20 1 [])) labReserved)
      ∧ labReserved.keys.get 7 = .reserved false
      ∧ (runs (stationJob 2 false (.keySign 6 (.replicate 32 9) (.replicate 32 0))) [] (.signature (.replicate 64 1))
          labKeys).running
        = some (fresh (stationJob 2 false (.keySign 6 (.replicate 32 9) (.replicate 32 0))) []
            (.signature (.replicate 64 1)) [])
      ∧ labVendor.material = .verifying (.replicate 64 5) := by decide

theorem witness_KeyUsingJobsCheckAndAnswer_fit :
    KeyFit 6 (.replicate 32 9) labKey labKeys ∧ KeyFit 2 (.replicate 32 8) labVendor labKeys :=
  ⟨⟨by decide, rfl, nofun⟩, ⟨by decide, rfl, nofun⟩⟩

/-- Each way in which a key fails its checks at job start. -/
theorem witness_KeyUsingJobsCheckAndAnswer_unfit :
    KeyUnfit 7 (.replicate 32 9) labKeys .slotEmpty
      ∧ KeyUnfit 7 (.replicate 32 9) { labKeys with revoked := [.replicate 32 9] } .revoked
      ∧ KeyUnfit 6 (.replicate 32 9)
          (setKey 6 (.active { labKey with binding := some { chain := 11, value := .replicate 32 1 } }) lab)
          .bindingMismatch :=
  ⟨.inl ⟨fun k h => (not_active_of_empty (by decide) k h).elim, .inr ⟨by decide, rfl⟩⟩,
    .inl ⟨fun k h => (not_active_of_empty (by decide) k h).elim, .inl ⟨by decide, rfl⟩⟩,
    .inr ⟨_, { chain := 11, value := .replicate 32 1 }, rfl, rfl, rfl, by decide, rfl⟩⟩

theorem witness_QuoteJobSignsSnapshot :
    (let j := stationJob 2 false (.quote 6 (.replicate 32 9) 1093 (List.replicate 32 1))
     MayStart j [] (waits j labKeys)
      ∧ (runs j [] (.statement [1]) labKeys).running = some (fresh j [] (.statement [1]) []))
      ∧ labKey.material = .signing (.replicate 32 1) (.replicate 64 2)
      ∧ ∀ c, labKeys.classes.get c = some labClass := by decide

theorem witness_GenerateAndImportJobsStart :
    (let j := stationJob 2 false (.keyGenerate labNew .secret)
     MayStart j [] (waits j labReserved) ∧ (labReserved.stations.get 2).grant = none ∧ labNew.ownerHeld = true
      ∧ labReserved.keys.get labNew.slot = .reserved false)
      ∧ (let j := stationJob 2 false (.keyImport labNew labSecret.material)
         MayStart j [] (waits j labReserved))
      ∧ ((withGrant 2 labReserved).stations.get 2).grant ≠ none := by decide

/-- With no ACTIVE key and nothing revoked, the first draw is free. -/
theorem witness_GenerateAndImportJobsStart_draw :
    fingerprintFree (drawMaterial .secret (lab.entropy + 0)).fingerprint (setKey 7 (.reserved false) lab) = true := rfl

theorem witness_GenerateAndImportJobsStart_import :
    labSecret.material.fingerprint ∈ [labSecret.material.fingerprint]
      ∧ (∃ slot k, (setKey 63 (.active { labKey with fingerprint := labSecret.material.fingerprint }) lab).keys.get slot
          = .active k ∧ k.fingerprint = labSecret.material.fingerprint)
      ∧ labSecret.material.fingerprint ∉ lab.revoked :=
  ⟨List.mem_singleton.mpr rfl, ⟨63, _, rfl, rfl⟩, nofun⟩

theorem witness_DeriveJobAndCreatingEnds :
    (let j := stationJob 2 false (.keyDerive 6 (.replicate 32 10) [1] 7 0x20 1 [])
     let s := setKey 7 (.reserved false) (setKey 6 (.active labSecret) lab)
     MayStart j [] (waits j s) ∧ labSecret.material = .secret (.replicate 32 4) ∧ s.keys.get 7 = .reserved false
      ∧ (runs j [] (.key labSecret) s).running = some (fresh j [] (.key labSecret) []))
      ∧ (runs (stationJob 2 false (.keyImport labNew labSecret.material)) [.keyRecord 7] (.key labSecret)
          labReserved).power = .on := by decide

theorem witness_DeriveJobAndCreatingEnds_fit :
    KeyFit 6 (.replicate 32 10) labSecret (setKey 7 (.reserved false) (setKey 6 (.active labSecret) lab)) :=
  ⟨by decide, rfl, nofun⟩

theorem witness_EraseJobErases :
    (let j := stationJob 2 false (.keyErase 6 (.replicate 32 9))
     MayStart j [] (waits j labKeys) ∧ labKeys.keys.get 6 = .active labKey ∧ labKey.fingerprint = .replicate 32 9
      ∧ (runs j [.keyRemove 6] .blank labKeys).running = some (fresh j [.keyRemove 6] .blank []))
      ∧ ({ labKey with ownerHeld := true } : KeyRecord).ownerHeld = true ∧ (labKeys.stations.get 2).grant = none
      ∧ ((withGrant 2 labKeys).stations.get 2).grant ≠ none := by decide

/-- The erased slot has signed the stream. -/
theorem witness_EraseJobErases_stream :
    let x := Stream.receiving { labManifest with signer := 6 } 256 5 [] 700
    x.afterSlot 6 ≠ x ∧ x.afterSlot 7 = x := by decide

theorem witness_ExtendJobExtendsChain :
    (let j := stationJob 2 false (.chainExtend 9 (.replicate 32 1) [])
     MayStart j [] (waits j lab) ∧ (lab.chains.get 9).frozen = false
      ∧ (runs j [] (.chainValue (.replicate 32 0)) lab).running = some (fresh j [] (.chainValue (.replicate 32 0)) []))
      ∧ (let e : LogEntry := { chain := 10, measurement := .replicate 32 5, tag := [], station := none, uptime := 9 }
         (List.replicate 127 e).length < 128 ∧ 128 ≤ (List.replicate 128 e).length) := by decide +kernel

theorem witness_ManifestJobMovesStream :
    (let j := stationJob 2 false .updateOpen
     let s := { labKeys with stream := .checking [1] 256 }
     MayStart j [] (waits j s) ∧ s.power = .on
      ∧ (runs j [] (.manifestOk labManifest) s).running = some (fresh j [] (.manifestOk labManifest) [])
      ∧ (runs j [] (.manifestBad .rollback) s).running = some (fresh j [] (.manifestBad .rollback) []))
      ∧ labKeys.keys.get 2 = .active labVendor ∧ labVendor.material = .verifying (.replicate 64 5)
      ∧ hasBit labVendor.usage 3 = true ∧ lab.keys.get 2 = .empty := by decide

/-- A manifest written out byte by byte, for class 1, bank B, version 5 and an image of 600 bytes, signed in slot 2. -/
def labRaw : List Byte :=
  [1, 1, 1, 0, 0, 5, 0, 0, 2, 0x58] ++ List.replicate 32 3 ++ [2, 0] ++ [0] ++ List.replicate 64 0

theorem witness_ManifestJobMovesStream_parse : Manifest.parse labRaw = some { labManifest with raw := labRaw } := by
  decide +kernel

/-- The same with one action, that revokes slot 3. -/
def labRawRevoke : List Byte :=
  [1, 1, 1, 0, 0, 5, 0, 0, 2, 0x58] ++ List.replicate 32 3 ++ [2, 0] ++ [1, 1, 3] ++ List.replicate 64 0

theorem witness_ManifestJobMovesStream_actions :
    Manifest.parse [] = none
      ∧ Manifest.parse labRawRevoke = some { labManifest with raw := labRawRevoke, actions := [.revoke 3] }
      ∧ labKeys.classes.get labManifest.cls = some labClass ∧ labClass.floor ≤ labManifest.version
      ∧ labManifest.cls ≠ 2 := by decide +kernel

/-- Each way in which its actions pass or fail: good and with a survivor, with no room in the list, with no survivor
of a signer out of the vendor slots, and not good. -/
theorem witness_ManifestJobMovesStream_outcomes (key : Bytes 64) :
    ((3 : Nat) < 6 ∧ [Action.revoke 3].countP (fun b => b.slot == 3) = 1
        ∧ labKeys.keys.get 3 = .active { labVendor with fingerprint := .replicate 32 6 } ∧ (3 : Slot) ≠ labManifest.signer)
      ∧ (labKeys.keys.get 2 = .active labVendor ∧ hasBit labVendor.usage 3 = true ∧ Action.revoke 2 ∉ [Action.revoke 3])
      ∧ 32 < (List.replicate 32 labKey.fingerprint).length + 1
      ∧ (∀ x : Slot, x.val < 6 → (setKey 6 (.active labVendor) (setKey 3 (.active labVendor) lab)).keys.get x ≠ .empty →
          Action.revoke x.val ∈ [Action.revoke 3])
      ∧ ¬(6 : Nat) < 6
      ∧ ([Action.install 5 key].countP (fun b => b.slot == 5) = 1 ∧ lab.keys.get 5 = .empty
          ∧ digest key.list ∉ lab.revoked ∧ digest key.list ∈ [digest key.list]) :=
  ⟨by decide, by decide, by simp, by decide, by decide, rfl, by decide, nofun, List.mem_singleton.mpr rfl⟩

theorem witness_ManifestLayoutParses :
    5 < 65536 ∧ 1 ≤ 67108864 ∧ (List.replicate 16 (0x61 : Byte)).length ≤ 16
      ∧ [Action.revoke 255, .install 5 (.replicate 64 1), .revoke 0].length ≤ 3
      ∧ (∀ a ∈ [Action.revoke 255, .install 5 (.replicate 64 1), .revoke 0], a.slot < 256)
      ∧ ([0] : List Byte) ≠ [] ∧ 107 < labRaw.length := by decide

theorem witness_ChunkJobAbsorbs :
    (let j := stationJob 2 false (.updateData [2])
     let s := { labTargets with stream := .absorbing { labManifest with autoPrepare := true } 256 599 [1] }
     MayStart j [] (waits j s) ∧ (runs j [] .blank s).running = some (fresh j [] .blank [])
      ∧ labManifest.imageLength ≤ 599 + [(2 : Byte)].length ∧ 598 + [(2 : Byte)].length < labManifest.imageLength
      ∧ s.classes.get 1 = some labClass ∧ labClass.floor ≤ labManifest.version
      ∧ s.keys.get labManifest.signer = .active labVendor ∧ s.targets.get 1 = none
      ∧ ∀ i < (1 : TargetNo), s.targets.get i ≠ none)
      ∧ (∀ i, ({ lab with targets := .replicate 8 (some labTarget) } : State).targets.get i ≠ none) := by decide

/-- A SoC reset has crossed the manifest job and the chunk job. -/
theorem witness_ChunkJobAbsorbs_crossed :
    (let r : Running := { fresh (stationJob 2 false .updateOpen) [] (.manifestBad .rollback) [] with crossed := true }
     ({ lab with running := some r } : State).running = some r ∧ lab.power = .on)
      ∧ (let r : Running := { fresh (stationJob 2 false (.updateData [2])) [] .blank [] with crossed := true }
         ({ lab with running := some r } : State).running = some r) := by decide

/-- Each refusal of an AUTO_PREPARE: below the floor, the signer gone, a trial of the active bank. -/
theorem witness_ChunkJobAbsorbs_refused :
    ({ labManifest with version := 1 } : Manifest).version < labClass.floor ∧ lab.keys.get labManifest.signer = .empty
      ∧ labClass.floor ≤ labManifest.version
      ∧ (let m := { labManifest with trial := true, bank := .a }
         ¬(m.trial = true → m.cls ≠ 2 ∧ labClass.active ≠ m.bank)) := by decide

theorem witness_ChunkJobAbsorbs_digest :
    digest ([1] ++ [2]) = { labManifest with imageDigest := digest [1, 2] }.imageDigest
      ∧ digest [1, 2] ≠ (digest [1, 2]).map fun b => ~~~b := by
  refine ⟨rfl, fun h => ?_⟩
  have h0 := congrArg (fun t : Bytes 32 => t.list[0]?) h
  generalize Config.digestByte = f at h0
  simp only [digest, Tbl.ofFn, Tbl.map, List.getElem?_map] at h0
  cases h1 : ((List.finRange 32)[0]? : Option (Fin 32)) with
  | none => simp at h1
  | some i =>
    simp only [h1, Option.map_some, Option.some.injEq] at h0
    bv_omega

theorem witness_ActivateJobChecksAndTrials :
    (let j := stationJob 2 false (.targetActivate 0)
     MayStart j [] (waits j labTargets) ∧ MayStart j [] (waits j lab) ∧ lab.targets.get 0 = none
      ∧ labTargets.targets.get 0 = some labTarget ∧ labTargets.classes.get 1 = some labClass
      ∧ labClass.state = .steady ∧ labClass.floor ≤ labTarget.version
      ∧ labTargets.keys.get labTarget.signer = .active labVendor
      ∧ ({ labTarget with version := 1 } : Target).version < labClass.floor
      ∧ (labTrial (.pending .b 3)).classes.get 1
          = some { labClass with state := .pending .b 3, imageB := some labImage })
      ∧ ({ labTarget with trial := true } : Target).trial = true
      ∧ ∀ c, labTargets.classes.get c = some labClass := by decide

theorem witness_PermanentActivationRaisesFloor :
    let j := stationJob 2 false (.targetActivate 0)
    MayStart j [] (waits j labTargets) ∧ labTargets.targets.get 0 = some labTarget ∧ labTarget.trial = false
      ∧ labTarget.actions = [] ∧ labTargets.classes.get 1 = some labClass ∧ labClass.state = .steady
      ∧ labClass.floor ≤ labTarget.version ∧ labTargets.keys.get labTarget.signer = .active labVendor := by decide

/-- A stream below the raised floor, and one of another class. -/
theorem witness_PermanentActivationRaisesFloor_stream :
    let x := Stream.verified { labManifest with version := 4 } 256 600
    x.afterFloor 1 5 ≠ x ∧ x.afterFloor 1 4 = x ∧ x.afterFloor 0 5 = x := by decide

theorem witness_ConfirmMakesTrialPermanent :
    let j := stationJob 2 false (.bootConfirm 1)
    let s := { labTrial (.booting .b 2) with hold := true, timer := .running 90 true }
    MayStart j [] (waits j s)
      ∧ s.classes.get 1 = some { labClass with state := .booting .b 2, imageB := some labImage }
      ∧ s.hold = true ∧ labClass.deferred = [] ∧ Bank.b ≠ labClass.active ∧ lab.hold = false := by decide

theorem witness_DeferredActionsApplyOrSkip :
    labKeys.classes.get 1 = some labClass ∧ labClass.image labClass.active = some labImage
      ∧ ((3 : Slot).val < 6 ∧ labKeys.keys.get 3 = .active { labVendor with fingerprint := .replicate 32 6 }
          ∧ labImage.signer ≠ 3 ∧ labKeys.revoked.length < 32
          ∧ (2 : Slot) ≠ 3 ∧ (2 : Slot).val < 6 ∧ labKeys.keys.get 2 = .active labVendor ∧ hasBit labVendor.usage 3 = true)
      ∧ (6 ≤ (6 : Slot).val ∧ labImage.signer = 2)
      ∧ (lab.keys.get 5 = .empty ∧ labKeys.keys.get 3 ≠ .empty) := by decide

theorem witness_DeferredActionsApplyOrSkip_install (key : Bytes 64) :
    digest key.list ∉ lab.revoked ∧ (¬∃ x j, lab.keys.get x = .active j ∧ j.fingerprint = digest key.list)
      ∧ digest key.list ∈ [digest key.list] :=
  ⟨nofun, fun ⟨x, j, h, _⟩ => not_active_of_empty ((by decide : ∀ x, lab.keys.get x = .empty) x) j h,
    List.mem_singleton.mpr rfl⟩

theorem witness_DeferredActionsApplyOrSkip_full : 32 ≤ (List.replicate 32 labKey.fingerprint).length := by simp

/-- An action that applies, and one that names its own signer. -/
theorem witness_DeferredActionsApplyOrSkip_applies :
    ActionApplies (.revoke 3) 2 labKeys ∧ ¬ActionApplies (.revoke 2) 2 labKeys := by
  refine ⟨⟨3, { labVendor with fingerprint := .replicate 32 6 }, by decide, by decide, by decide, by decide, by decide, 2,
    labVendor, by decide, by decide, by decide, by decide⟩, ?_⟩
  rintro ⟨slot, k, h, -, -, ne, -⟩
  exact ne (Fin.ext h)

theorem witness_DeferredActionsApplyOrSkip_applies_install (key : Bytes 64) :
    ActionApplies (.install 5 key) 2 lab ∧ ¬ActionApplies (.install 3 key) 2 labKeys := by
  refine ⟨⟨5, rfl, by decide, by decide, nofun, fun x j h => ?_⟩, ?_⟩
  · exact (not_active_of_empty ((by decide : ∀ x, lab.keys.get x = .empty) x) j h).elim
  · rintro ⟨slot, h, -, empty, -⟩
    obtain rfl : slot = 3 := Fin.ext h
    exact absurd empty (by decide)

theorem witness_DeferredActionsApplyOrSkip_jobs :
    (let s := runs labJob [.action 1 (.revoke 3), .clearDeferred 1] .blank labKeys
     s.power = .on ∧ s.running = some (fresh labJob (.action 1 (.revoke 3) :: [.clearDeferred 1]) .blank []))
      ∧ (let j := stationJob 2 false (.targetActivate 0)
         let t := { labTarget with actions := [.revoke 3] }
         let s := waits j { labKeys with targets := labKeys.targets.set 0 (some t) }
         MayStart j [] s ∧ s.targets.get 0 = some t ∧ t.trial = false ∧ t.cls = 1 ∧ labClass.state = .steady
          ∧ labClass.floor ≤ t.version ∧ s.keys.get t.signer = .active labVendor)
      ∧ (let j := stationJob 2 false (.bootConfirm 1)
         let r := { labClass with state := .booting .b 2, deferred := [.revoke 3], imageB := some labImage }
         let s := waits j { labKeys with classes := labKeys.classes.set 1 (some r), hold := true }
         MayStart j [] s ∧ s.classes.get 1 = some r ∧ s.hold = true ∧ r.image .b = some labImage
          ∧ r.image r.active = some labImage ∧ Bank.b ≠ r.active) := by decide

/-- A part without power whose store holds vendor keys in slots 2 and 3 and, for class 1, a record. -/
def labOff (r : ClassRecord) : State :=
  State.blank [] .off { labStore with
    keys := (labStore.keys.set 2 (some labVendor)).set 3 (some { labVendor with fingerprint := .replicate 32 6 })
    classes := labStore.classes.set 1 r } 0

theorem witness_DeferredActionsApplyOrSkip_startUp :
    let r := { labClass with deferred := [.revoke 3] }
    MayStartUp (labOff r) ∧ (labOff r).store.resetMark = false ∧ (labOff r).store.classes.get 1 = r ∧ r.state = .steady
      ∧ (∀ other, other ≠ 1 → ((labOff r).store.classes.get other).AtRest)
      ∧ ActionApplies (.revoke 3) 2 (upFrom (labOff r)) ∧ ¬ActionApplies (.revoke 2) 2 (upFrom (labOff r)) := by
  refine ⟨by decide, rfl, by decide, rfl, by decide, ⟨3, { labVendor with fingerprint := .replicate 32 6 }, by decide,
    by decide, by decide, by decide, by decide, 2, labVendor, by decide, by decide, by decide, by decide⟩, ?_⟩
  rintro ⟨slot, k, h, -, -, ne, -⟩
  exact ne (Fin.ext h)

theorem witness_TrialAccountingCountsBoots :
    MayStart .trialAccount [] (waits .trialAccount lab) ∧ (∀ c, lab.classes.get c = some labClass)
      ∧ (∀ state ∈ [ClassState.pending .b 3, .booting .b 2, .booting .b 0],
          (labTrial state).classes.get 1 = some { labClass with state, imageB := some labImage }
            ∧ ∀ x : ClassNo, x ≠ 1 → (labTrial state).classes.get x = some labClass) := by decide

/-- The job at its end: with nothing to do, after its write, before it, and with a revert to make. -/
theorem witness_TrialAccountingCountsBoots_end :
    ∀ crossed ∈ [true, false],
      let job (todo : List JobStep) (d : JobData) : Running := { fresh .trialAccount todo d [] with crossed }
      let revert : List JobStep :=
        [.revert 1, .marker { kind := .revert, cls := 1, version := labImage.version }, .raise .trialReverted]
      (∀ r ∈ [job [] .blank, job [] (.accounted 1 true), job [.account 1] (.accounted 1 true), job revert .blank],
        { labTrial (.booting .b 0) with running := some r }.running = some r)
        ∧ (labTrial (.booting .b 0)).power = .on
        ∧ (labTrial (.booting .b 0)).classes.get 1
          = some { labClass with state := .booting .b 0, imageB := some labImage } := by decide

theorem witness_TrialAccountingCountsBoots_startUp :
    ∀ state ∈ [ClassState.pending .b 3, .booting .b 2, .booting .b 0],
      let r := { labClass with state, imageB := some labImage }
      MayStartUp (labOff r) ∧ (labOff r).store.resetMark = false ∧ (labOff r).store.classes.get 1 = r ∧ r.state ≠ .steady
        ∧ r.image .b = some labImage ∧ (labOff r).store.revocation = []
        ∧ ∀ other, other ≠ 1 → ((labOff r).store.classes.get other).AtRest := by decide

/-- A SoC reset has crossed the accounting, before and after its write. -/
theorem witness_TrialAccountingCountsBoots_crossed :
    ∀ todo ∈ [[], [JobStep.account 1]],
      let r : Running := { fresh .trialAccount todo (.accounted 1 true) [] with crossed := true }
      let x := { labTrial (.booting .b 2) with running := some r }
      x.power = .on ∧ x.running = some r
        ∧ x.classes.get 1 = some { labClass with state := .booting .b 2, imageB := some labImage } := by decide

theorem witness_CredSetJobStores :
    (let j := stationJob 2 false (.credSet labParams true true)
     MayStart j [] (waits j labCreds) ∧ (labCreds.stations.get 2).grant = none
      ∧ ((withGrant 2 labCreds).stations.get 2).grant ≠ none ∧ labCreds.creds.get 0 = .held labCred
      ∧ (runs j [.credRecord 0] (.credential labCred.contents) labCreds).running
        = some (fresh j [.credRecord 0] (.credential labCred.contents) []))
      ∧ (let j := stationJob 2 false (.credSet labParams false false)
         MayStart j [] (waits j (setCred 0 .reserved lab))
          ∧ (runs j [.credRecord 0] (.credential labCred.contents) (setCred 0 .reserved lab)).running
            = some (fresh j [.credRecord 0] (.credential labCred.contents) [])) := by decide

theorem witness_CredSetJobStores_unset (r : CredRecord) : lab.creds.get 0 ≠ .held r := not_held_of_empty (by decide) r

theorem witness_VerifyJobChargesBeforeComparing :
    MayStart labJob [] (waits labJob labCreds) ∧ labCreds.creds.get 0 = .held labCred ∧ labCred.lockout = .absent
      ∧ (setCred 0 (.held { labCred with lockout := .deadline 99 }) lab).creds.get 0
          = .held { labCred with lockout := .deadline 99 }
      ∧ (99 : Count) ≠ lab.time.uptime
      ∧ (setCred 0 (.held { labCred with lockout := .pending 36000 }) lab).creds.get 0
          = .held { labCred with lockout := .pending 36000 }
      ∧ (runs labJob [.charge 0, .compare 0 [0x31], .success 0] (.comparison 0 0 false) labCreds).running
          = some (fresh labJob [.charge 0, .compare 0 [0x31], .success 0] (.comparison 0 0 false) []) := by decide

theorem witness_VerifyJobLocksOrGrants :
    labCreds.creds.get 0 = .held labCred ∧ labCred.contents.grants = true ∧ labPass.contents.grants = false
      ∧ (runs labJob [] (.comparison 127 56 false) labCreds).running = some (fresh labJob [] (.comparison 127 56 false) [])
      ∧ (runs labJob [.success 0] (.comparison 168 64 true) labCreds).running
          = some (fresh labJob [.success 0] (.comparison 168 64 true) [])
      ∧ lockoutDelay 127 = 0 := by decide

/-- A mismatch across which a SoC reset has gone by. -/
theorem witness_VerifyJobLocksOrGrants_crossed :
    let r : Running := { fresh labJob [] (.comparison 168 64 false) [] with crossed := true }
    ({ labCreds with running := some r } : State).running = some r ∧ lockoutDelay 168 ≠ 0 := by decide

theorem witness_LockoutDelayIsTheTable : 127 < 128 ∧ 128 ≤ 128 ∧ 1023 ≤ 1023 ∧ 854 ≤ 855 := by decide

theorem witness_ReleaseClearAndSettingsJobs :
    (let j := stationJob 2 false (.credRelease 3)
     MayStart j [] (waits j labCreds) ∧ labCreds.creds.get 3 = .held labPass ∧ labPass.contents.kind = .secret
      ∧ labPass.contents.freeRelease = true ∧ hasBit labPass.contents.releaseMask 2 = true
      ∧ (runs j [] (.value [0]) labCreds).running = some (fresh j [] (.value [0]) []))
      ∧ (let j := stationJob 2 false (.credClear 3)
         MayStart j [] (waits j (withGrant 2 labCreds)) ∧ ((withGrant 2 labCreds).stations.get 2).grant ≠ none
          ∧ (runs j [.credRemove 3] .blank labCreds).running = some (fresh j [.credRemove 3] .blank []))
      ∧ (let j := stationJob 2 false (.settingsWrite labSettings)
         MayStart j [] (waits j lab) ∧ (lab.stations.get 2).grant = none
          ∧ (runs j [.settingsRecord] (.newSettings .default) lab).running
            = some (fresh j [.settingsRecord] (.newSettings .default) [])) := by decide

theorem witness_OwnerResetErasesOwner :
    MayStart (.ownerReset (some true) false) [] (waits (.ownerReset (some true) false) lab)
      ∧ (lab.stations.get 2).grant = none
      ∧ MayStart (.ownerReset none true) [] (waits (.ownerReset none true) labCreds)
      ∧ ((withGrant 2 labCreds).stations.get 2).grant ≠ none
      ∧ (let r : Running := fresh (.ownerReset none true) [.markRemove] (.erased 0 0) []
         let s := runs (.ownerReset none true) [.markRemove] (.erased 0 0) labCreds
         s.power = .on ∧ s.running = some r ∧ r.job = .ownerReset none true ∧ r.todo = .markRemove :: []) := by decide

/-- A standing mark, with a credential and an owner-held key to erase. -/
theorem witness_OwnerResetErasesOwner_startUp :
    let s := State.blank [] .off { labStore with
      keys := labStore.keys.set 6 (some { labKey with ownerHeld := true })
      creds := labStore.creds.set 0 (some ⟨labCred.contents, 0, 0⟩), resetMark := true } 0
    MayStartUp s ∧ s.store.resetMark = true ∧ ∀ c, (s.store.classes.get c).AtRest := by decide

theorem witness_StoreWritesCompleteOrFail :
    (runs labJob [] .blank labCreds).running = some (fresh labJob [] .blank [])
      ∧ (runs labJob [.keyRecord 7] (.key labKey) lab).running = some (fresh labJob [.keyRecord 7] (.key labKey) [])
      ∧ (runs labJob [.credRecord 0] (.credential labCred.contents) labCreds).running
          = some (fresh labJob [.credRecord 0] (.credential labCred.contents) [])
      ∧ (runs labJob [.settingsRecord] (.newSettings .default) lab).running
          = some (fresh labJob [.settingsRecord] (.newSettings .default) [])
      ∧ JobStep.writes (.keyRemove 7) lab = true := by decide

/-- A failing write of one station's job, with a creating request of another and an accounting waiting. -/
theorem witness_StoreWritesCompleteOrFail_law :
    EngineLaw { runs labJob [.keyRemove 7] .blank labReserved with
      queue := [stationJob 3 true (.keyGenerate { labNew with slot := 7 } .secret), .trialAccount] } := by
  unfold EngineLaw; decide

/-- The same with each other kind of reservation: a slot, a target, an id and the hold. The failing job is a claim. -/
theorem witness_StoreWritesCompleteOrFail_reservations :
    let claim := stationJob 2 false (.credSet labParams false false)
    let s := { runs claim [.credRecord 0] (.credential labCred.contents)
        (setCred 0 .reserved (setKey 8 (.reserved false) labReserved)) with
      queue := [stationJob 0 false (.keyImport labNew labSecret.material),
                stationJob 1 false (.keyDerive 6 (.replicate 32 9) [1] 8 0x20 1 [])] }
    EngineLaw s ∧ s.keys.get labNew.slot = .reserved false ∧ s.keys.get 8 = .reserved false
      ∧ s.creds.get labParams.id = .reserved ∧ JobStep.writes (.credRecord 0) s = true := by
  unfold EngineLaw; decide

theorem witness_StoreWritesCompleteOrFail_hold :
    EngineLaw { runs (stationJob 3 true (.credClear 3)) [.credRemove 3] .blank (labTrial (.booting .b 2)) with
      queue := [stationJob 2 false (.bootConfirm 1)], hold := true, timer := .running 90 true } := by
  unfold EngineLaw; decide

theorem witness_StoreWritesCompleteOrFail_unset (g : CredRecord) : (setCred 0 .reserved lab).creds.get 0 ≠ .held g := by
  rw [show (setCred 0 .reserved lab).creds.get 0 = .reserved from by decide]; nofun

theorem witness_TickReachesItsReceivers :
    lab.power = .on ∧ lab.line = .ignoring
      ∧ ({ lab with line := .selected 1, gap := true } : State).line ≠ .ignoring
      ∧ ({ lab with timer := .running 99 false, hold := true } : State).timer = .running (lab.time.uptime + 1) false
      ∧ lab.hold = false
      ∧ ({ lab with stream := .receiving labManifest 256 5 [] 99 } : State).stream
          = .receiving labManifest 256 5 [] (lab.time.uptime + 1)
      ∧ (TimeBase.start.firstTick = true
          ∧ (setCred 0 (.held { labCred with lockout := .pending 64 }) lab).creds.get 0
            = .held { labCred with lockout := .pending 64 })
      ∧ lab.time.firstTick = false := by decide

theorem witness_TickReachesItsReceivers_closed (m : Manifest) (limit n : Nat) (absorbed : List Byte) (now : Count) :
    lab.stream ≠ .receiving m limit n absorbed now := nofun

/-- A part in start-up, and one without power. -/
theorem witness_TickReachesItsReceivers_startUp :
    ({ lab with power := .startUp true } : State).power = .startUp true ∧ Power.startUp true ≠ .on
      ∧ (labOff labClass).power = .off ∧ Power.off ≠ .on := by decide

theorem witness_TickEventsHappenWhenDue :
    (((99 : Count) + 1).toNat % 100 = 0)
      ∧ (setCred 0 (.held { labCred with lockout := .deadline 99 }) lab).creds.get 0
          = .held { labCred with lockout := .deadline (lab.time.uptime + 1) }
      ∧ (({ withGrant 2 lab with time := { lab.time with uptime := 3097 } } : State).stations.get 2).grant
          = some { credential := 0, deadline := 3097 + 1 }
      ∧ ({ lab with stream := .receiving labManifest 256 5 [] 99 } : State).stream
          = .receiving labManifest 256 5 [] (lab.time.uptime + 1)
      ∧ (({ lab with timer := .running 99 false } : State).timer = .running (lab.time.uptime + 1) false
          ∧ lab.hold = false)
      ∧ (({ lab with line := .selected 3 } : State).line ≠ .ignoring ∧ lab.gap = false)
      ∧ ({ lab with time := { lab.time with pulse := .driving 1 } } : State).time.pulse = .driving 1
      ∧ lab.time.firstTick = false ∧ TimeBase.start.firstTick = true ∧ lab.time.button = .released
      ∧ ((∀ i : Fin 26, i.val < 25 → labLow25.button.get i = true) ∧ (∀ i : Fin 26, i.val < 26 → labHigh.button.get i = false)
          ∧ ¬(∀ i : Fin 26, i.val < 26 → labLow25.button.get i = true) ∧ ¬(∀ i : Fin 26, i.val < 26 → labLow25.button.get i = false))
      ∧ (let s := { amid (.ownerReset (some true) false) lab with
                      time := { lab.time with button := .holding, held := 98, threshold := 100 } }
         s.time.button = .holding ∧ s.time.held + 1 < s.time.threshold ∧ s.time.threshold ≤ (99 : Nat) + 1
          ∧ s.queue = [stationJob 3 true (.credVerify 0 [1])] ++ .ownerReset (some true) false :: [.trialAccount]) := by
  decide

theorem witness_SocResetEndsTheBoot :
    lab.power = .on ∧ lab.time.senseAsserted = false
      ∧ ({ lab with time := { lab.time with senseAsserted := true, senseLow := true } } : State).time.senseAsserted = true
      ∧ labKeys.keys.get 6 = .active labKey
      ∧ (let w := stationJob 1 false (.keyGenerate labNew .secret)
         w ∈ (waits w labReserved).queue ∧ labReserved.keys.get labNew.slot = .reserved false)
      ∧ lab.queue = [] ∧ lab.fault = false ∧ ({ lab with fault := true } : State).fault = true := by decide

/-- A sample that is held, and the second of two low and of two high ones. -/
theorem witness_SocResetEndsTheBoot_samples :
    (Instr.lockoutEnd 3 = .lockoutEnd 3 ∧ (true = lab.time.senseLow → true = lab.time.senseAsserted))
      ∧ (let s : State := { lab with time := { lab.time with senseLow := true } }
         true = s.time.senseLow ∧ true ≠ s.time.senseAsserted)
      ∧ (let s : State := { lab with time := { lab.time with senseAsserted := true } }
         false = s.time.senseLow ∧ false ≠ s.time.senseAsserted) := by
  refine ⟨⟨rfl, by decide⟩, by decide, by decide⟩

/-- A waiting OWNER_RESET_JOB that a request alone has queued, and one that a button hold keeps. -/
theorem witness_SocResetEndsTheBoot_queue :
    (amid (.ownerReset (some true) false) lab).queue
        = [stationJob 3 true (.credVerify 0 [1]), .ownerReset (some true) false, .trialAccount]
      ∧ (amid (.ownerReset (some true) true) lab).queue
        = [stationJob 3 true (.credVerify 0 [1]), .ownerReset (some true) true, .trialAccount] := by decide

theorem witness_SocResetEndsTheBoot_reservations :
    let j := stationJob 2 false (.credSet labParams false false)
    let s := waits j (setCred 3 (.held labPass) (setCred 0 .reserved lab))
    j ∈ s.queue ∧ s.creds.get labParams.id = .reserved ∧ s.creds.get 3 = .held labPass := by decide

/-- A stored key that the revocation list holds, and the start before the last that can be counted. -/
theorem witness_PartResetRebuildsFromStore :
    (let s := State.blank [] .off { labStore with keys := labStore.keys.set 6 (some labKey)
                                                  revocation := [labKey.fingerprint], partResets := 4294967294 } 0
     MayStartUp s ∧ s.store.resetMark = false ∧ (∀ c, (s.store.classes.get c).AtRest)
      ∧ RecordId.keySlot 6 ∈ [RecordId.keySlot 6] ∧ s.store.has (.keySlot 6) = true)
      ∧ (∀ slot k, (labOff labClass).store.keys.get slot = some k → k.fingerprint ∉ (labOff labClass).store.revocation)
      ∧ (State.blank [] .off { labStore with resetMark := true } 0).store.resetMark = true
      ∧ lab.power ≠ .off
      ∧ ({ lab with power := .startUp true } : State).power = .startUp true
      ∧ ({ lab with power := .startUp false } : State).power = .startUp false :=
  ⟨by decide, fun _ _ _ => nofun, rfl, by decide, rfl, rfl⟩

/-- A standing mark and a class in a trial, both with a record that fails its check, beside a stored key, a credential
and a count that fail theirs. -/
theorem witness_PartResetRebuildsFromStore_bad :
    let s := State.blank [] .off { labStore with keys := labStore.keys.set 6 (some labKey)
                                                 classes := labStore.classes.set 1 { labClass with state := .booting .b 1 }
                                                 resetMark := true, partResets := 4294967295 } 0
    let bad : List RecordId := [.ownerResetMark, .classRecord 1, .keySlot 6, .credential 0, .partResetCount]
    s.power = .off ∧ RecordId.ownerResetMark ∈ bad
      ∧ (∀ c, RecordId.classRecord c ∉ bad → (s.store.classes.get c).AtRest)
      ∧ bad.any s.store.has = true ∧ RecordId.revocationList ∉ bad := by decide

/-- A whole frame of FLOOR_READ whose CRC agrees, with an item that waits in the transmitter, and a part that takes no
character yet. -/
theorem witness_LineFollowsItsTable_waiting :
    (let now := requestFrame 57 0 []
     now = now.dropLast ++ [now.getLastD 0] ∧ now.dropLast ≠ [] ∧ nat16At now 2 ≤ 1100
      ∧ now.length = nat16At now 2 + 6
      ∧ nat16At now (nat16At now 2 + 4) = (crc16 (now.take (nat16At now 2 + 4))).toNat)
      ∧ ({ lab with txNow := some .remnant, txNext := some (.receipt .taken) } : State).txNext ≠ none
      ∧ (Instr.floorRead 1 0 []).frameBody? = some [] ∧ isFrame (.floorRead 1 0 []) = true
      ∧ ({ lab with power := .startUp true } : State).power ≠ .on := by decide +kernel

theorem witness_LineFollowsItsTable :
    lab.power = .on
      ∧ ((96 : Byte).toNat = lab.settings.addressBase + (0 : Station) ∧ (99 : Byte).toNat = lab.settings.addressBase + (3 : Station))
      ∧ ((95 : Byte).toNat < lab.settings.addressBase ∧ lab.settings.addressBase + 4 ≤ (100 : Byte).toNat)
      ∧ ({ lab with line := .assembling 1 [57, 0, 0] } : State).line = .assembling 1 [57, 0, 0]
      ∧ (let now : List Byte := [57, 0, 4] ++ [0x4C]; now.length = 4 ∧ nat16At now 2 ≤ 1100)
      ∧ (let now : List Byte := [57, 0, 4] ++ [0x4D]; now.length = 4 ∧ 1100 < nat16At now 2)
      ∧ (let now : List Byte := [57, 0, 0, 0, 0] ++ [0]
         4 < now.length ∧ now.length = nat16At now 2 + 6
          ∧ nat16At now (nat16At now 2 + 4) ≠ (crc16 (now.take (nat16At now 2 + 4))).toNat)
      ∧ ({ lab with txNow := some .remnant } : State).txNow = some .remnant := by decide +kernel

theorem witness_FrameByCharactersIsTheCommand :
    lab.power = .on ∧ AttnLaw lab ∧ (99 : Byte).toNat = lab.settings.addressBase + (3 : Station)
      ∧ (List.replicate 9 (0 : Byte)).length ≤ Config.bodyCap := by decide

theorem witness_AttnFollowsItsRule :
    AttnLaw { lab with pending := [.socResetSensed] }
      ∧ ∃ t, step { lab with pending := [.socResetSensed] } = .next t := ⟨by decide, _, rfl⟩

theorem witness_LogReplaysToChains :
    EvidenceLaw { lab with pending := [.socResetSensed] }
      ∧ ∃ t, step { lab with pending := [.socResetSensed] } = .next t := by
  refine ⟨⟨by decide, by decide, ?_⟩, _, rfl⟩
  intro r st quiet c m tag v h
  cases h

theorem witness_EachStationHoldsOneRequest :
    EngineLaw { amid labJob lab with pending := [.socResetSensed] }
      ∧ ∃ t, step { amid labJob lab with pending := [.socResetSensed] } = .next t :=
  ⟨by unfold EngineLaw; decide, _, rfl⟩

/-- A credential at the governor's ends: penalty 1,023, streak 255, 36,000 ds of lockout left. -/
def labLocked : CredRecord := { labCred with penalty := 1023, streak := 255, lockout := .deadline 36098 }

theorem witness_GovernorStaysInItsBounds :
    (∃ t, step { setCred 0 (.held labLocked) lab with pending := [.txItemEnd] } = .next t)
      ∧ GovernorLaw { setCred 0 (.held labLocked) lab with pending := [.txItemEnd] } := by
  refine ⟨⟨_, rfl⟩, ?_⟩
  have hs : ∀ id : CredId, labStore.creds.get id = none := by decide
  have hc : ∀ id : CredId, (setCred 0 (.held labLocked) lab).creds.get id = if id = 0 then .held labLocked else .empty := by
    decide
  refine ⟨fun id r h => ?_, fun id c h => absurd ((hs id).symm.trans h) nofun⟩
  obtain rfl : labLocked = r := by
    have h := (hc id).symm.trans h
    split at h <;> cases h
    rfl
  exact ⟨by decide, by decide, (⟨by decide, by decide⟩ :
      1 ≤ ((36098 : Count) - 98).toNat ∧ ((36098 : Count) - 98).toNat ≤ 36000), fun h => (h rfl).elim,
    fun c h => absurd ((hs id).symm.trans h) nofun⟩

theorem witness_GovernorStaysInItsBounds_revocation :
    (∃ t, step { lab with revoked := List.replicate 32 labKey.fingerprint } = .next t)
      ∧ RevocationLaw { lab with revoked := List.replicate 32 labKey.fingerprint } := ⟨⟨_, rfl⟩, by simp, by decide⟩

/-- The part with a SIGNING key in slot 6 and a secret in slot 7. -/
def labTwo : State := setKey 6 (.active labKey) (setKey 7 (.active labSecret) lab)

theorem witness_FingerprintsStayDistinct :
    (labTwo.withPending [.socResetSensed]).pending = .socResetSensed :: []
      ∧ isPartReset .socResetSensed = false ∧ FactoryKeysDiffer (labTwo.withPending [.socResetSensed])
      ∧ KeyLaw (labTwo.withPending [.socResetSensed])
      ∧ ∃ t, step (labTwo.withPending [.socResetSensed]) = .next t := by
  suffices h : ∀ a b j k, labTwo.keys.get a = .active j → labTwo.keys.get b = .active k → a ≠ b →
      j.fingerprint ≠ k.fingerprint from
    ⟨rfl, rfl, fun a b j k ha hb hab _ _ => h a b j k ha hb hab, ⟨fun _ _ _ h => List.not_mem_nil h,
      fun a b j k ha hb hab _ => h a b j k ha hb hab, fun r k h => nomatch (h : (none : Option Running) = some r)⟩,
      _, rfl⟩
  intro a b j k ha hb hab
  have hs : ∀ slot k, labTwo.keys.get slot = .active k → (slot = 6 ∧ k = labKey) ∨ (slot = 7 ∧ k = labSecret) := by
    intro slot k h
    have hk : ∀ x : Slot, labTwo.keys.get x = if x = 6 then .active labKey else if x = 7 then .active labSecret else .empty := by
      decide
    have h := (hk slot).symm.trans h
    split at h
    · cases h; exact .inl ⟨‹_›, rfl⟩
    · split at h <;> cases h
      exact .inr ⟨‹_›, rfl⟩
  rcases hs a j ha with ⟨rfl, rfl⟩ | ⟨rfl, rfl⟩ <;> rcases hs b k hb with ⟨rfl, rfl⟩ | ⟨rfl, rfl⟩
  · exact absurd rfl hab
  · decide
  · decide
  · exact absurd rfl hab

theorem witness_FingerprintsStayDistinct_startUp :
    (labOff labClass).power = .off
      ∧ (∀ a b j k, (labOff labClass).store.keys.get a = some j → (labOff labClass).store.keys.get b = some k → a ≠ b →
          j.fingerprint ≠ k.fingerprint)
      ∧ ∃ t, exec (.partReset { landed := false, bad := [], trouble := .none }) (labOff labClass) = .next t := by
  refine ⟨rfl, fun a b j k ha hb hab => ?_, _, rfl⟩
  have hs : ∀ slot : Slot, (labOff labClass).store.keys.get slot = if slot = 2 then some labVendor
      else if slot = 3 then some { labVendor with fingerprint := .replicate 32 6 } else none := by decide
  rw [hs] at ha hb
  split at ha <;> split at hb
  · exact absurd (‹a = 2›.trans ‹b = 2›.symm) hab
  · split at hb <;> cases hb
    cases ha; decide
  · split at ha <;> cases ha
    cases hb; decide
  · split at ha <;> cases ha
    split at hb <;> cases hb
    exact absurd (‹a = 3›.trans ‹b = 3›.symm) hab

theorem witness_StationsDoNotInterfere :
    frameStation (.floorRead 1 0 []) = some 1 ∧ (Instr.floorRead 1 0 []).codeUnknown = true ∧ (2 : Station) ≠ 1
      ∧ (∃ t, exec (.floorRead 1 0 []) lab = .next t) ∧ ∀ flags body, Instr.floorRead 1 0 [] ≠ .closeStage 1 flags body :=
  ⟨rfl, rfl, by decide, ⟨_, rfl⟩, nofun⟩

theorem witness_StoreIsWrittenByJobsAlone :
    mayWrite (.floorRead 1 0 []) = false ∧ endsPower .socResetSensed = false
      ∧ (∃ t, exec .socResetSensed { lab with fault := true } = .next t)
      ∧ isJobEnd .credVerifyJobEnd = true
      ∧ (let r : Running := { fresh labJob [] (.comparison 168 64 false) [] with crossed := true }
         r.crossed = true ∧ ∃ t, exec .credVerifyJobEnd { labCreds with running := some r } = .next t) :=
  ⟨rfl, rfl, ⟨_, rfl⟩, rfl, rfl, _, rfl⟩

theorem witness_FloorsAndRevocationsOnlyGrow :
    endsPower .targetActivateJobEnd = false ∧ lab.classes.get 1 = some labClass
      ∧ sensesReset .targetActivateJobEnd labTargets = false ∧ sensesReset .socResetSensed labTargets = true
      ∧ (∃ t, exec .targetActivateJobEnd labTargets = .next t)
      ∧ (({ lab with chains := lab.chains.set 11 { Chain.cleared with frozen := true } } : State).chains.get 11).frozen
          = true := ⟨rfl, by decide, by decide, by decide, ⟨_, rfl⟩, by decide⟩

end Sys2Proof.Tests
end

section
/-! PROOFS. Reading the fields of a body, and the use checks of the key table: what KEY_INFO and KEY_PUBLIC report
(R27), and the checks at take of the requests that use a key (R10). -/

namespace Sys2Proof.Machine

open Sys2Proof

/-! ### Reading the fields of a body (R205) -/

/-- A number read back from its byte, when a byte can hold every number below the bound. -/
theorem fin?_byte {n : Nat} (hn : n ≤ 256) (i : Fin n) : fin? n (byte i).toNat = some i := by
  have hi : (byte i).toNat = i := by
    simpa [byte] using Nat.mod_eq_of_lt (Nat.lt_of_lt_of_le i.isLt hn)
  rw [hi]
  exact dif_pos i.isLt

@[simp] theorem fin?_slot (slot : Slot) : fin? 64 (byte slot).toNat = some slot := fin?_byte (by decide) slot

theorem fin?_eq_none {n v : Nat} (h : n ≤ v) : fin? n v = none := dif_neg (Nat.not_lt.2 h)

@[simp] theorem byteAt_cons_zero (b : Byte) (rest : List Byte) : byteAt (b :: rest) 0 = b := rfl

@[simp] theorem byteAt_cons_succ (b : Byte) (rest : List Byte) (i : Nat) :
    byteAt (b :: rest) (i + 1) = byteAt rest i := rfl

theorem byteAt_append (pre rest : List Byte) (i : Nat) : byteAt (pre ++ rest) (pre.length + i) = byteAt rest i := by
  simp [byteAt, List.getD_eq_getElem?_getD, List.getElem?_append_right]

/-- A field of fixed length, read from behind the fields before it. -/
theorem bytesAt_append {n : Nat} (pre post : List Byte) (d : Bytes n) :
    bytesAt n (pre ++ (d.list ++ post)) pre.length = d := by
  refine Tbl.ext_get fun i => ?_
  have hi : i.val < d.list.length := d.size.symm ▸ i.isLt
  simp only [bytesAt, Tbl.get_ofFn, byteAt_append]
  simp [byteAt, List.getD_eq_getElem?_getD, List.getElem?_append_left hi, Tbl.get]

/-- A field of fixed length at the end of a body. -/
theorem bytesAt_append_last {n : Nat} (pre : List Byte) (d : Bytes n) : bytesAt n (pre ++ d.list) pre.length = d := by
  simpa using bytesAt_append pre [] d

/-- A field of variable length, read from behind the fields before it. -/
theorem slice_append (pre field post : List Byte) :
    slice (pre ++ (field ++ post)) pre.length field.length = field := by
  simp [slice]

/-! ### The slots of the key table (R1, R2) -/

theorem activeKey?_of_active {slot : Slot} {k : KeyRecord} {s : State} (h : s.keys.get slot = .active k) :
    activeKey? slot s = some k := by
  simp [activeKey?, h]

theorem activeKey?_of_not_active {slot : Slot} {s : State} (h : ∀ k, s.keys.get slot ≠ .active k) :
    activeKey? slot s = none := by
  unfold activeKey?
  split
  case h_1 k hk => exact absurd hk (h k)
  case h_2 => rfl

/-- A general slot that is EMPTY can be reserved (R9). -/
theorem reservable_of_empty {slot : Slot} {s : State} (hg : 6 ≤ slot.val) (he : s.keys.get slot = .empty) :
    reservable (byte slot) s = .ok slot := by
  simp [reservable, isVendor, Nat.not_lt.2 hg, he]

/-! ### The use checks at take (R10) -/

@[simp] theorem useChecks_lineIdle (b : Byte) (bit : Nat) (st : Station) (s : State) :
    useChecks b bit st (lineIdle s) = useChecks b bit st s := rfl

/-- The first use check that fails gives the result. -/
theorem useChecks_of_refused {b : Byte} {bit : Nat} {st : Station} {s : State} {r : Result}
    (h : UseRefused b bit st s r) : useChecks b bit st s = .error r := by
  rcases h with ⟨hb, rfl⟩ | ⟨slot, rfl, h⟩
  · simp [useChecks, fin?_eq_none hb]
  · rcases h with ⟨hno, rfl⟩ | ⟨k, hk, ⟨husage, rfl⟩ | ⟨husage, hmask, rfl⟩⟩
    · simp [useChecks, activeKey?_of_not_active hno]
    · simp [useChecks, activeKey?_of_active hk, husage]
    · simp [useChecks, activeKey?_of_active hk, husage, hmask]

theorem useChecks_of_mayUse {slot : Slot} {bit : Nat} {st : Station} {k : KeyRecord} {s : State}
    (h : MayUse slot bit st k s) : useChecks (byte slot) bit st s = .ok (slot, k) := by
  obtain ⟨hk, husage, hmask⟩ := h
  simp [useChecks, activeKey?_of_active hk, husage, hmask]

/-! ### The checks of the requests that use a key, on a body written out field by field (R206) -/

section Admit

variable (st : Station) (b : Byte) (s : State)

theorem admitKeySign_body (d : Bytes 32) :
    admitKeySign st (b :: d.list) s
      = (useChecks b 1 st s).map fun use => .keySign use.1 use.2.fingerprint d := by
  have hd : bytesAt 32 (b :: d.list) 1 = d := bytesAt_append_last [b] d
  simp only [admitKeySign, byteAt_cons_zero, hd]
  cases useChecks b 1 st s <;> rfl

theorem admitKeyVerify_body (d : Bytes 32) (sig : Bytes 64) :
    admitKeyVerify st (b :: (d.list ++ sig.list)) s
      = (useChecks b 2 st s).map fun use => .keyVerify use.1 use.2.fingerprint d sig := by
  have hd : bytesAt 32 (b :: (d.list ++ sig.list)) 1 = d := bytesAt_append [b] sig.list d
  have hsig : bytesAt 64 (b :: (d.list ++ sig.list)) 33 = sig := by
    simpa using bytesAt_append_last (b :: d.list) sig
  simp only [admitKeyVerify, byteAt_cons_zero, hd, hsig]
  cases useChecks b 2 st s <;> rfl

/-- The chain selection of a QUOTE, as the 16 bits that its two bytes hold. -/
theorem selection_eq_append (b hi lo : Byte) (rest : List Byte) :
    BitVec.ofNat 16 (nat16At (b :: hi :: lo :: rest) 1) = hi ++ lo := by
  have happ : (hi ++ lo).toNat = hi.toNat * 256 + lo.toNat := by
    rw [BitVec.toNat_append, ← Nat.shiftLeft_add_eq_or_of_lt lo.isLt, Nat.shiftLeft_eq]
  have hnat : nat16At (b :: hi :: lo :: rest) 1 = (hi ++ lo).toNat := by
    simp [happ, nat16At, beNat]
  rw [hnat, BitVec.ofNat_toNat, BitVec.setWidth_eq]

/-- The selection's reserved bits are those of its first byte. -/
theorem selection_reserved (hi lo : Byte) (h : hi &&& 0xF0 = 0) : (hi ++ lo : BitVec 16) &&& 0xF000 = 0 := by
  have hmask : (0xF000 : BitVec 16) = (0xF0 : Byte) ++ (0 : Byte) := by decide
  rw [hmask, BitVec.and_append, h, show lo &&& 0 = 0 from BitVec.and_zero]
  rfl

theorem admitQuote_body (hi lo : Byte) (nonce : List Byte) (hr : hi &&& 0xF0 = 0) :
    admitQuote st (b :: hi :: lo :: nonce) s
      = (useChecks b 0 st s).map fun use => .quote use.1 use.2.fingerprint (hi ++ lo) nonce := by
  simp only [admitQuote, selection_eq_append, selection_reserved hi lo hr, byteAt_cons_zero]
  cases useChecks b 0 st s <;> rfl

end Admit

/-- The reserved bits of a usage set and a mask, for a body that has no options (R205). -/
theorem keyBitsOk_of_zero {usage mask : Byte} (hu : usage &&& 0xC0 = 0) (hm : mask &&& 0xF0 = 0) :
    keyBitsOk usage mask 0 = true := by
  simpa [keyBitsOk] using And.intro hu hm

/-- The body of a KEY_DERIVE (R206). -/
def deriveBody (b t usage mask : Byte) (derivation label : List Byte) : List Byte :=
  b :: t :: usage :: mask :: byte derivation.length :: (derivation ++ label)

section Derive

variable {st : Station} {b t usage mask : Byte} {derivation label : List Byte} {s : State}

theorem length_deriveBody :
    (deriveBody b t usage mask derivation label).length = 5 + derivation.length + label.length := by
  simp [deriveBody]
  omega

theorem deriveBody_length_field (hd : derivation.length ≤ 32) :
    (byteAt (deriveBody b t usage mask derivation label) 4).toNat = derivation.length := by
  simp [deriveBody, byte]
  omega

@[simp] theorem deriveBody_parent : byteAt (deriveBody b t usage mask derivation label) 0 = b := rfl

@[simp] theorem deriveBody_target : byteAt (deriveBody b t usage mask derivation label) 1 = t := rfl

@[simp] theorem deriveBody_usage : byteAt (deriveBody b t usage mask derivation label) 2 = usage := rfl

@[simp] theorem deriveBody_mask : byteAt (deriveBody b t usage mask derivation label) 3 = mask := rfl

theorem deriveBody_derivation :
    slice (deriveBody b t usage mask derivation label) 5 derivation.length = derivation :=
  slice_append [b, t, usage, mask, byte derivation.length] derivation label

theorem deriveBody_label : (deriveBody b t usage mask derivation label).drop (5 + derivation.length) = label := by
  simp [deriveBody, Nat.add_comm 5]

section WellFormedBody

variable (hu : usage &&& 0xC0 = 0) (hm : mask &&& 0xF0 = 0) (hd1 : 1 ≤ derivation.length)
  (hd32 : derivation.length ≤ 32) (hl : label.length ≤ 16)

include hu hm hd1 hd32 hl

/-- Behind good bits and lengths, KEY_DERIVE comes to the use checks of its parent (R21). -/
theorem admitKeyDerive_of_refused {r : Result} (h : UseRefused b 5 st s r) :
    admitKeyDerive st (deriveBody b t usage mask derivation label) s = .error r := by
  simp only [admitKeyDerive, deriveBody_length_field hd32, length_deriveBody, deriveBody_label,
    deriveBody_usage, deriveBody_mask, deriveBody_parent, keyBitsOk_of_zero hu hm, useChecks_of_refused h]
  rw [if_neg (by simp), if_neg (by simp only [Bool.or_eq_true, decide_eq_true_eq]; omega)]

/-- A KEY_DERIVE becomes a job when it passes the use checks of its parent, its child is within the parent's usage set
and shares a station with the parent's mask, and its target is an EMPTY general slot (R21). -/
theorem admitKeyDerive_of_mayUse {slot target : Slot} {k : KeyRecord} (h : MayUse slot 5 st k s) (hu0 : usage ≠ 0)
    (hku : usage &&& ~~~k.usage = 0) (hkm : mask &&& k.mask ≠ 0) (hg : 6 ≤ target.val)
    (he : s.keys.get target = .empty) :
    admitKeyDerive st (deriveBody (byte slot) (byte target) usage mask derivation label) s
      = .ok (.keyDerive slot k.fingerprint derivation target usage (mask &&& k.mask) label) := by
  simp only [admitKeyDerive, deriveBody_length_field hd32, length_deriveBody, deriveBody_label,
    deriveBody_derivation, deriveBody_usage, deriveBody_mask, deriveBody_parent, deriveBody_target,
    keyBitsOk_of_zero hu hm, useChecks_of_mayUse h, reservable_of_empty hg he]
  rw [if_neg (by simp), if_neg (by simp only [Bool.or_eq_true, decide_eq_true_eq]; omega),
    if_neg (by simpa using And.intro hu0 hku), if_neg (by simpa using hkm)]

end WellFormedBody

end Derive

/-! ### KEY_INFO and KEY_PUBLIC (R27) -/

section Report

variable {st : Station} {flags b : Byte} {s : State}

theorem exec_keyInfo (hs : Ready st flags s) :
    exec (.keyInfo st flags [b]) s
      = .next (recomputeAttn (giveReceipt .taken (takeKeyInfo st (hasBit flags 0) [b] (lineIdle s)))) :=
  exec_passes (c := .keyInfo) hs (by simp) nofun nofun rfl rfl nofun

theorem exec_keyPublic (hs : Ready st flags s) :
    exec (.keyPublic st flags [b]) s
      = .next (recomputeAttn (giveReceipt .taken (takeKeyPublic st (hasBit flags 0) [b] (lineIdle s)))) :=
  exec_passes (c := .keyPublic) hs (by simp) nofun nofun rfl rfl nofun

/-- A byte above 63 names no slot, and both requests refuse it. -/
theorem keyInfo_of_noSlot (hs : Ready st flags s) (hb : 64 ≤ b.toNat) :
    exec (.keyInfo st flags [b]) s = .next (answered st .badArgument .keyInfo [] flags (lineIdle s)) := by
  rw [exec_keyInfo hs]
  simp only [takeKeyInfo, byteAt_cons_zero, fin?_eq_none hb]
  rfl

theorem keyPublic_of_noSlot (hs : Ready st flags s) (hb : 64 ≤ b.toNat) :
    exec (.keyPublic st flags [b]) s = .next (answered st .badArgument .keyPublic [] flags (lineIdle s)) := by
  rw [exec_keyPublic hs]
  simp only [takeKeyPublic, byteAt_cons_zero, fin?_eq_none hb]
  rfl

/-- KEY_INFO of any slot gives the slot's descriptor. -/
theorem keyInfo_of_slot (hs : Ready st flags s) (slot : Slot) :
    exec (.keyInfo st flags [byte slot]) s
      = .next (answered st .ok .keyInfo (keyDescriptor slot (s.keys.get slot)) flags (lineIdle s)) := by
  rw [exec_keyInfo hs]
  simp only [takeKeyInfo, byteAt_cons_zero, fin?_slot]
  rfl

/-- KEY_PUBLIC of a slot that is not ACTIVE is refused. -/
theorem keyPublic_of_not_active (hs : Ready st flags s) {slot : Slot} (h : ∀ k, s.keys.get slot ≠ .active k) :
    exec (.keyPublic st flags [byte slot]) s
      = .next (answered st .slotEmpty .keyPublic [] flags (lineIdle s)) := by
  have hno : activeKey? slot (lineIdle s) = none := activeKey?_of_not_active h
  rw [exec_keyPublic hs]
  simp only [takeKeyPublic, byteAt_cons_zero, fin?_slot, hno]
  rfl

/-- KEY_PUBLIC of a key without a public key is refused. -/
theorem keyPublic_of_no_publicKey (hs : Ready st flags s) {slot : Slot} {k : KeyRecord}
    (hk : s.keys.get slot = .active k) (hm : k.material.publicKey? = none) :
    exec (.keyPublic st flags [byte slot]) s
      = .next (answered st .keyUsage .keyPublic [] flags (lineIdle s)) := by
  have hact : activeKey? slot (lineIdle s) = some k := activeKey?_of_active hk
  rw [exec_keyPublic hs]
  simp only [takeKeyPublic, byteAt_cons_zero, fin?_slot, hact, hm]
  rfl

/-- KEY_PUBLIC of a key with a public key gives it, whatever the key's mask and binding. -/
theorem keyPublic_of_publicKey (hs : Ready st flags s) {slot : Slot} {k : KeyRecord} {p : Bytes 64}
    (hk : s.keys.get slot = .active k) (hm : k.material.publicKey? = some p) :
    exec (.keyPublic st flags [byte slot]) s
      = .next (answered st .ok .keyPublic (p.list ++ k.fingerprint.list) flags (lineIdle s)) := by
  have hact : activeKey? slot (lineIdle s) = some k := activeKey?_of_active hk
  rw [exec_keyPublic hs]
  simp only [takeKeyPublic, byteAt_cons_zero, fin?_slot, hact, hm]
  rfl

/-- The descriptor of an ACTIVE slot, with the binding's field written as one of 34 bytes (R208). -/
theorem keyDescriptor_active (slot : Slot) (k : KeyRecord) :
    keyDescriptor slot (.active k)
      = [byte slot, 2, k.material.kind.toByte, k.origin.toByte, k.persistence.toByte, k.usage, k.mask,
          flagByte k.ownerHeld]
        ++ k.binding.elim (List.replicate 34 0) (fun v => [1, byte v.chain] ++ v.value.list)
        ++ k.fingerprint.list ++ byte k.label.length :: k.label := by
  rcases h : k.binding with _ | v <;> simp only [keyDescriptor, h] <;> rfl

end Report

/-- Settles O10: each slot state has its descriptor, and each kind of material its answer to KEY_PUBLIC. -/
theorem keysAreReadByAnyStation : Obligations.KeysAreReadByAnyStation := by
  intro st flags b s hs info pub
  refine ⟨fun hb => ⟨keyInfo_of_noSlot hs hb, keyPublic_of_noSlot hs hb⟩, ?_⟩
  rintro slot rfl
  have hinfo := keyInfo_of_slot hs slot
  refine ⟨fun he => ?_, fun o ho => ?_, fun k hk => ⟨?_, fun v hv => ?_, fun p hp => ?_⟩⟩
  · rw [he] at hinfo
    exact ⟨hinfo, keyPublic_of_not_active hs fun k => by simp [he]⟩
  · rw [ho] at hinfo
    exact ⟨hinfo, keyPublic_of_not_active hs fun k => by simp [ho]⟩
  · rwa [hk, keyDescriptor_active] at hinfo
  · exact keyPublic_of_no_publicKey hs hk (by rw [hv]; rfl)
  · refine keyPublic_of_publicKey hs hk ?_
    rcases hp with hp | ⟨priv, hp⟩ <;> rw [hp] <;> rfl

/-! ### KEY_SIGN, KEY_VERIFY, QUOTE and KEY_DERIVE at take (R10) -/

section Use

variable {st : Station} {flags b : Byte} {s : State}

/-- The state after a request that has passed checks 1 to 6 and uses the key in slot `b` for usage `bit`: the use
checks decide whether it is refused or becomes a job. -/
def afterUseChecks (c : ReqCode) (st : Station) (flags b : Byte) (bit : Nat) (work : Slot × KeyRecord → Work)
    (s : State) : State :=
  recomputeAttn (giveReceipt .taken
    (takeWork c st (hasBit flags 0) ((useChecks b bit st s).map work) (lineIdle s)))

theorem afterUseChecks_of_refused {c : ReqCode} {bit : Nat} {work : Slot × KeyRecord → Work} {r : Result}
    (h : UseRefused b bit st s r) : afterUseChecks c st flags b bit work s = answered st r c [] flags (lineIdle s) := by
  rw [afterUseChecks, useChecks_of_refused h]
  rfl

theorem afterUseChecks_of_mayUse {c : ReqCode} {bit : Nat} {work : Slot × KeyRecord → Work} {slot : Slot}
    {k : KeyRecord} (h : MayUse slot bit st k s) :
    afterUseChecks c st flags (byte slot) bit work s = queued st (work (slot, k)) flags (lineIdle s) := by
  rw [afterUseChecks, useChecks_of_mayUse h]
  rfl

theorem exec_keySign (hs : Ready st flags s) (d : Bytes 32) :
    exec (.keySign st flags (b :: d.list)) s
      = .next (afterUseChecks .keySign st flags b 1 (fun use => .keySign use.1 use.2.fingerprint d) s) := by
  rw [afterUseChecks, ← useChecks_lineIdle, ← admitKeySign_body]
  exact exec_passes (c := .keySign) hs (by simp [Config.bodyCap]) nofun nofun (by simp [lengthOk]) rfl nofun

theorem exec_keyVerify (hs : Ready st flags s) (d : Bytes 32) (sig : Bytes 64) :
    exec (.keyVerify st flags (b :: (d.list ++ sig.list))) s
      = .next (afterUseChecks .keyVerify st flags b 2 (fun use => .keyVerify use.1 use.2.fingerprint d sig) s) := by
  rw [afterUseChecks, ← useChecks_lineIdle, ← admitKeyVerify_body]
  exact exec_passes (c := .keyVerify) hs (by simp [Config.bodyCap]) nofun nofun (by simp [lengthOk]) rfl nofun

/-- QUOTE is for stations 2 and 3 (R163). -/
theorem permitted_quote {st : Station} (h : 2 ≤ st.val) (body : List Byte) : permitted .quote st body = true := by
  simp only [permitted]
  revert st
  decide

theorem exec_quote (hs : Ready st flags s) (hst : 2 ≤ st.val) {hi lo : Byte} {nonce : List Byte}
    (hr : hi &&& 0xF0 = 0) (h8 : 8 ≤ nonce.length) (h32 : nonce.length ≤ 32) :
    exec (.quote st flags (b :: hi :: lo :: nonce)) s
      = .next (afterUseChecks .quote st flags b 0
          (fun use => .quote use.1 use.2.fingerprint (hi ++ lo) nonce) s) := by
  rw [afterUseChecks, ← useChecks_lineIdle, ← admitQuote_body _ _ _ _ _ _ hr]
  exact exec_passes (c := .quote) hs (by simp [Config.bodyCap]; omega) nofun nofun (by simp [lengthOk]; omega)
    (permitted_quote hst _) nofun

theorem exec_keyDerive (hs : Ready st flags s) {t usage mask : Byte} {derivation label : List Byte}
    (hd : derivation.length ≤ 32) (hl : label.length ≤ 16) :
    exec (.keyDerive st flags (deriveBody b t usage mask derivation label)) s
      = .next (recomputeAttn (giveReceipt .taken
          (takeKeyDerive st (hasBit flags 0) (deriveBody b t usage mask derivation label) (lineIdle s)))) :=
  exec_passes (c := .keyDerive) hs (by rw [length_deriveBody, Config.bodyCap]; omega) nofun nofun
    (by simp [lengthOk, length_deriveBody, Nat.add_assoc]) rfl nofun

end Use

/-- Settles O17: the operands of each request are read from its body, and the use checks decide. -/
theorem useChecksAtTake : Obligations.UseChecksAtTake := by
  intro st flags b d sig s hs
  refine ⟨fun r h => ?sign_refused, ?sign, fun r h => ?verify_refused, ?verify, ?quote, ?derive⟩
  case sign_refused => rw [exec_keySign hs, afterUseChecks_of_refused h]
  case sign =>
    rintro slot k rfl h
    rw [exec_keySign hs, afterUseChecks_of_mayUse h]
  case verify_refused => rw [exec_keyVerify hs, afterUseChecks_of_refused h]
  case verify =>
    rintro slot k rfl h
    rw [exec_keyVerify hs, afterUseChecks_of_mayUse h]
  case quote =>
    intro hi lo nonce hst hr h8 h32
    rw [exec_quote hs hst hr h8 h32]
    refine ⟨fun r h => by rw [afterUseChecks_of_refused h], ?_⟩
    rintro slot k rfl h
    rw [afterUseChecks_of_mayUse h]
  case derive =>
    intro t usage mask derivation label hu hm hd1 hd32 hl
    refine ⟨fun r h => (exec_keyDerive hs hd32 hl).trans ?refused, ?_⟩
    case refused =>
      rw [takeKeyDerive, admitKeyDerive_of_refused (s := lineIdle s) hu hm hd1 hd32 hl h]
      rfl
    rintro slot target k rfl rfl h hu0 hku hkm hg he
    refine (exec_keyDerive hs hd32 hl).trans ?_
    rw [takeKeyDerive, admitKeyDerive_of_mayUse (s := lineIdle s) hu hm hd1 hd32 hl h hu0 hku hkm hg he]
    rfl

end Sys2Proof.Machine
end

section
/-! PROOFS. The evidence unit's requests at take: who may extend and freeze a chain (R32, R33, R36), and what CHAIN_READ
and LOG_READ report (R44, R45). -/

namespace Sys2Proof.Machine

open Sys2Proof

/-- The byte of a chain number counts what the number does. -/
@[simp] theorem toNat_byte_chain (c : ChainNo) : (byte c).toNat = c := by
  simpa [byte] using Nat.mod_eq_of_lt (Nat.lt_trans c.isLt (show 12 < 256 by decide))

@[simp] theorem fin?_chain (c : ChainNo) : fin? 12 (byte c).toNat = some c := fin?_byte (by decide) c

/-! ### The rights to extend and to freeze chains (R32) -/

theorem chainRight_iff (st : Station) (n : Nat) :
    chainRight st n = true ↔ (st = 0 ∧ n ≤ 1) ∨ (st = 1 ∧ 2 ≤ n ∧ n ≤ 5) ∨ (st = 2 ∧ 6 ≤ n ∧ n ≤ 9) := by
  fin_cases st <;> simp [chainRight]

section Taken

variable {c : ReqCode} {st : Station} {flags b : Byte} {body : List Byte} {s : State}

/-- A request of a part in use whose body length is wrong is refused by check 3 (R165). -/
theorem exec_badLength (hs : Ready st flags s) (hl : body.length ≤ Config.bodyCap) (hf : c ≠ .fetch) (ha : c ≠ .abort)
    (hlen : lengthOk c body.length = false) :
    exec (Instr.ofFrame st c.toByte flags body) s = .next (answered st .badLength c [] flags (lineIdle s)) := by
  rw [exec_request, whenOn_on hs.1.1, requestArrives_taken hs.1 hl hf ha]
  simp [orderOfChecks, hs.2.1, generalRefusal, hlen, answered]

/-- A request that its station may not make with its body is refused by check 4 (R165). -/
theorem exec_notPermitted (hs : Ready st flags s) (hl : body.length ≤ Config.bodyCap) (hf : c ≠ .fetch)
    (ha : c ≠ .abort) (hlen : lengthOk c body.length = true) (hp : permitted c st body = false) :
    exec (Instr.ofFrame st c.toByte flags body) s = .next (answered st .notPermitted c [] flags (lineIdle s)) := by
  rw [exec_request, whenOn_on hs.1.1, requestArrives_taken hs.1 hl hf ha]
  simp [orderOfChecks, hs.2.1, generalRefusal, hlen, hp, answered]

end Taken

/-! ### CHAIN_FREEZE (R36) -/

section Freeze

variable {st : Station} {flags b : Byte} {s : State}

theorem chainFreeze_of_noRight (hs : Ready st flags s) (h : chainRight st b.toNat = false) :
    exec (.chainFreeze st flags [b]) s = .next (answered st .notPermitted .chainFreeze [] flags (lineIdle s)) :=
  exec_notPermitted (c := .chainFreeze) hs (by simp) nofun nofun rfl h

theorem chainFreeze_of_right (hs : Ready st flags s) {c : ChainNo} (h : chainRight st c = true) :
    exec (.chainFreeze st flags [byte c]) s
      = .next (answered st .ok .chainFreeze (chainEntry c (s.chains.get c).freeze) flags
          (lineIdle (setChain c (s.chains.get c).freeze s))) := by
  refine (exec_passes (c := .chainFreeze) hs (by simp) nofun nofun rfl (by simpa [permitted] using h) nofun).trans ?_
  simp only [takeRequest, takeChainFreeze, byteAt_cons_zero, fin?_chain]
  rfl

end Freeze

/-- Settles O13: check 4 refuses a chain without the right, and any other is frozen and reported. -/
theorem chainFreezeSetsTheFlag : Obligations.ChainFreezeSetsTheFlag := by
  intro st flags b s hs
  refine ⟨chainFreeze_of_noRight hs, ?_⟩
  rintro c rfl h
  exact chainFreeze_of_right hs h

/-! ### CHAIN_EXTEND at take (R33) -/

section Extend

variable {st : Station} {flags b : Byte} {s : State} {m : Bytes 32} {tag : List Byte}

theorem length_extendBody : (b :: (m.list ++ tag)).length = 33 + tag.length := by
  simp
  omega

theorem lengthOk_extendBody (ht : tag.length ≤ 16) : lengthOk .chainExtend (b :: (m.list ++ tag)).length = true := by
  simp only [length_extendBody, lengthOk, Bool.and_eq_true, decide_eq_true_eq]
  omega

theorem chainExtend_of_badLength {body : List Byte} (hs : Ready st flags s)
    (h : body.length < 33 ∨ 49 < body.length ∧ body.length ≤ Config.bodyCap) :
    exec (.chainExtend st flags body) s = .next (answered st .badLength .chainExtend [] flags (lineIdle s)) := by
  refine exec_badLength (c := .chainExtend) hs (by simp only [Config.bodyCap] at *; omega) nofun nofun ?_
  simp only [lengthOk, Bool.and_eq_false_iff, decide_eq_false_iff_not]
  omega

theorem chainExtend_of_noRight (hs : Ready st flags s) (ht : tag.length ≤ 16) (h : chainRight st b.toNat = false) :
    exec (.chainExtend st flags (b :: (m.list ++ tag))) s
      = .next (answered st .notPermitted .chainExtend [] flags (lineIdle s)) :=
  exec_notPermitted (c := .chainExtend) hs (by rw [length_extendBody, Config.bodyCap]; omega) nofun nofun
    (lengthOk_extendBody ht) h

/-- The evidence unit reads the measurement and the tag from the body, and looks at the chain's frozen flag. -/
theorem admitChainExtend_body (c : ChainNo) :
    admitChainExtend (byte c :: (m.list ++ tag)) s
      = if (s.chains.get c).frozen then .error .chainFrozen else .ok (.chainExtend c m tag) := by
  have hm : bytesAt 32 (byte c :: (m.list ++ tag)) 1 = m := bytesAt_append [byte c] tag m
  have ht : (byte c :: (m.list ++ tag)).drop 33 = tag := by simp
  simp only [admitChainExtend, byteAt_cons_zero, fin?_chain, hm, ht]

theorem exec_chainExtend (hs : Ready st flags s) (ht : tag.length ≤ 16) {c : ChainNo} (h : chainRight st c = true) :
    exec (.chainExtend st flags (byte c :: (m.list ++ tag))) s
      = .next (recomputeAttn (giveReceipt .taken (takeWork .chainExtend st (hasBit flags 0)
          (if (s.chains.get c).frozen then .error .chainFrozen else .ok (.chainExtend c m tag)) (lineIdle s)))) := by
  rw [← lineIdle_chains, ← admitChainExtend_body]
  exact exec_passes (c := .chainExtend) hs (by rw [length_extendBody, Config.bodyCap]; omega) nofun nofun
    (lengthOk_extendBody ht) (by simpa [permitted] using h) nofun

end Extend

/-- Settles O20: check 3 looks at the length, check 4 at the right, and the evidence unit at the frozen flag. -/
theorem chainExtendIsTaken : Obligations.ChainExtendIsTaken := by
  refine ⟨fun st flags b m tag body c s hs =>
    ⟨chainExtend_of_badLength hs, chainExtend_of_noRight hs, fun ht hr hf => ?frozen, fun ht hr hf => ?taken⟩,
    chainRight_iff⟩
  case frozen =>
    rw [exec_chainExtend hs ht hr, hf]
    rfl
  case taken =>
    rw [exec_chainExtend hs ht hr, hf]
    rfl

/-! ### CHAIN_READ and LOG_READ (R44, R45) -/

section Read

/-- A run of the numbers below `n`, picked out by its bounds or by its place. -/
theorem filter_finRange_run (n first count : Nat) :
    (List.finRange n).filter (fun c => decide (first ≤ c.val) && decide (c.val < first + count))
      = ((List.finRange n).drop first).take count := by
  refine List.SortedLT.eq_of_mem_iff ((List.sortedLT_finRange n).pairwise.filter _).sortedLT
    (((List.sortedLT_finRange n).pairwise.drop).take).sortedLT fun c => ?_
  simp only [List.mem_filter, List.mem_finRange, true_and, Bool.and_eq_true, decide_eq_true_eq,
    List.mem_take_iff_getElem, List.getElem_drop, List.getElem_finRange]
  constructor
  · rintro ⟨hlo, hhi⟩
    exact ⟨c - first, by simp; omega, by ext; simp; omega⟩
  · rintro ⟨i, hi, rfl⟩
    simp at hi ⊢
    omega

/-- The entries of the log from an index upwards, each with the index that it has in the log. -/
theorem logEntries_eq (start count : Nat) (log : List LogEntry) :
    logEntries start count log = ((log.drop start).take count).zipIdx.map fun e => (e.1, start + e.2) := by
  refine List.ext_getElem? fun i => ?_
  simp only [logEntries, List.getElem?_take, List.getElem?_drop, List.getElem?_map, List.getElem?_zipIdx]
  split <;> simp [Function.comp_def]

/-- A log entry, with the field of its station written as one byte (R208). -/
theorem logEntryBytes_eq (index : Nat) (e : LogEntry) :
    logEntryBytes index e
      = [byte index, byte e.chain, e.station.elim 255 (fun x => byte x)]
        ++ be32 e.uptime.toNat ++ e.measurement.list ++ byte e.tag.length :: e.tag := by
  rcases h : e.station with _ | st <;> simp only [logEntryBytes, h] <;> rfl

variable {st : Station} {flags first count start : Byte} {s : State}

section Answer

variable {quiet : Bool}

theorem takeChainRead_of_bad (h : count = 0 ∨ 11 < first.toNat ∨ 12 < first.toNat + count.toNat) :
    takeChainRead st quiet [first, count] s = answer .chainRead st quiet .badArgument [] s := by
  have hbad : (count.toNat = 0 || 11 < first.toNat || 12 < first.toNat + count.toNat) = true := by
    simpa [BitVec.toNat_eq, or_assoc] using h
  exact if_pos hbad

theorem takeChainRead_of_run (hc : 0 < count.toNat) (hf : first.toNat ≤ 11) (hr : first.toNat + count.toNat ≤ 12) :
    takeChainRead st quiet [first, count] s
      = answer .chainRead st quiet .ok
          ((((List.finRange 12).drop first.toNat).take count.toNat).flatMap
              (fun c => chainEntry c (s.chains.get c)) ++ [byte s.log.length]) s := by
  have hgood : ¬(count.toNat = 0 || 11 < first.toNat || 12 < first.toNat + count.toNat) = true := by
    simp
    omega
  rw [← filter_finRange_run]
  exact if_neg hgood

theorem takeLogRead_of_bad (h : 127 < start.toNat ∨ count = 0 ∨ 8 < count.toNat) :
    takeLogRead st quiet [start, count] s = answer .logRead st quiet .badArgument [] s := by
  have hbad : (127 < start.toNat || count.toNat = 0 || 8 < count.toNat) = true := by
    simpa [BitVec.toNat_eq, or_assoc] using h
  exact if_pos hbad

theorem takeLogRead_of_run (hst : start.toNat ≤ 127) (hc : 0 < count.toNat) (hc8 : count.toNat ≤ 8) :
    takeLogRead st quiet [start, count] s
      = answer .logRead st quiet .ok
          (byte s.log.length :: byte (min count.toNat (s.log.length - start.toNat))
            :: ((s.log.drop start.toNat).take count.toNat).zipIdx.flatMap
              fun e => logEntryBytes (start.toNat + e.2) e.1) s := by
  have hgood : ¬(127 < start.toNat || count.toNat = 0 || 8 < count.toNat) = true := by
    simp
    omega
  refine (if_neg hgood).trans ?_
  simp [logEntries_eq, List.flatMap_map]

end Answer

theorem exec_chainRead (hs : Ready st flags s) :
    exec (.chainRead st flags [first, count]) s
      = .next (recomputeAttn (giveReceipt .taken (takeChainRead st (hasBit flags 0) [first, count] (lineIdle s)))) :=
  exec_passes (c := .chainRead) hs (by simp [Config.bodyCap]) nofun nofun rfl rfl nofun

theorem exec_logRead (hs : Ready st flags s) :
    exec (.logRead st flags [start, count]) s
      = .next (recomputeAttn (giveReceipt .taken (takeLogRead st (hasBit flags 0) [start, count] (lineIdle s)))) :=
  exec_passes (c := .logRead) hs (by simp [Config.bodyCap]) nofun nofun rfl rfl nofun

end Read

/-- Settles O11: the bounds decide between a refusal and the report, and the run read is the one that they name. -/
theorem chainReadAndLogReadReport : Obligations.ChainReadAndLogReadReport := by
  refine ⟨fun st flags first count s hs => ⟨fun hbad => ?chains_bad, fun hc hf hr => ?chains⟩,
    fun st flags start count s hs => ⟨fun hbad => ?log_bad, fun hst hc hc8 => ?log⟩⟩
  case chains_bad =>
    rw [exec_chainRead hs, takeChainRead_of_bad hbad]
    rfl
  case chains =>
    rw [exec_chainRead hs, takeChainRead_of_run hc hf hr]
    rfl
  case log_bad =>
    rw [exec_logRead hs, takeLogRead_of_bad hbad]
    rfl
  case log =>
    rw [exec_logRead hs, takeLogRead_of_run hst hc hc8]
    simp only [logEntryBytes_eq]
    rfl

end Sys2Proof.Machine
end

section
/-! PROOFS. The replay law of the evidence unit (R40). The law looks at little of the state: the chains but for their
frozen flags, the log, and the value that a running extension is to write. Almost every operation leaves that as it is;
the law is then kept by the few that do not: an extension, a sensed SoC reset, and the start of an extension's job. -/

namespace Sys2Proof.Machine

open Sys2Proof

/-! ### What the replay law looks at -/

/-- What a running extension is to write: the value of its chain, computed from a measurement. `todo` is what the job
has still to do. -/
structure DueValue where
  chain : ChainNo
  measurement : Bytes 32
  value : Bytes 32
  todo : List JobStep

/-- The value that a running job is to write, when it is an extension that no SoC reset has made void (R34, R35). -/
def Running.due (r : Running) : Option DueValue :=
  match r.crossed, r.job, r.data with
  | false, .station { work := .chainExtend chain measurement _, .. }, .chainValue value =>
    some { chain, measurement, value, todo := r.todo }
  | _, _, _ => none

/-- The part of the state that the replay law looks at. -/
structure Evidence where
  value : ChainNo → Bytes 32
  count : ChainNo → Nat
  logIncomplete : ChainNo → Bool
  log : List LogEntry
  due : Option DueValue

/-- What the replay law looks at in a state. -/
def evidence (s : State) : Evidence :=
  { value := fun c => (s.chains.get c).value
    count := fun c => (s.chains.get c).count
    logIncomplete := fun c => (s.chains.get c).logIncomplete
    log := s.log
    due := s.running.bind Running.due }

/-- The log replays to every chain whose log-incomplete flag is clear, and counts its extensions (R40). -/
def Evidence.Replays (e : Evidence) : Prop :=
  e.log.length ≤ Config.logCap
    ∧ ∀ c, e.logIncomplete c = false → e.value c = replay c e.log ∧ e.count c = e.log.countP fun x => x.chain == c

/-- The value due extends the present value of its chain, and nothing else is to be done before it is written. -/
def Evidence.DueStands (e : Evidence) : Prop :=
  ∀ d, e.due = some d → d.todo = [] ∧ d.value = extendedValue (e.value d.chain) d.measurement

/-- The log replays, and no running extension has a value to write. -/
def Evidence.Settled (e : Evidence) : Prop := e.Replays ∧ e.due = none

theorem Running.due_eq_some {r : Running} {d : DueValue} :
    r.due = some d ↔ r.crossed = false ∧ (∃ st q tag, r.job = stationJob st q (.chainExtend d.chain d.measurement tag))
      ∧ r.data = .chainValue d.value ∧ r.todo = d.todo := by
  obtain ⟨c, m, v, todo⟩ := d
  unfold Running.due
  split
  case h_1 st q c' m' tag v' hc hj hd =>
    simp only [Option.some.injEq, DueValue.mk.injEq, hc, hj, hd, true_and, JobData.chainValue.injEq, stationJob]
    constructor
    · rintro ⟨rfl, rfl, rfl, h⟩
      exact ⟨⟨st, q, tag, rfl⟩, rfl, h⟩
    · rintro ⟨⟨_, _, _, hj⟩, rfl, h⟩
      cases hj
      exact ⟨rfl, rfl, rfl, h⟩
  case h_2 hno =>
    refine ⟨nofun, ?_⟩
    rintro ⟨hc, ⟨st, q, tag, hj⟩, hd, -⟩
    exact (hno _ _ _ _ _ _ hc hj hd).elim

/-- The replay law says that the log replays and that the value due stands. -/
theorem evidenceLaw_iff (s : State) : EvidenceLaw s ↔ (evidence s).Replays ∧ (evidence s).DueStands := by
  have hdue : (evidence s).DueStands ↔
      ∀ r st quiet c m tag v, s.running = some r → r.job = stationJob st quiet (.chainExtend c m tag) →
        r.data = .chainValue v → r.crossed = false → r.todo = [] ∧ v = extendedValue (s.chains.get c).value m := by
    constructor
    · intro h r st quiet c m tag v hr hj hd hc
      exact h ⟨c, m, v, r.todo⟩
        (by simp only [evidence, hr, Option.bind_some]; exact Running.due_eq_some.2 ⟨hc, ⟨_, _, _, hj⟩, hd, rfl⟩)
    · intro h d hd
      obtain ⟨r, hr, hrd⟩ := Option.bind_eq_some_iff.1 hd
      obtain ⟨hc, ⟨st, q, tag, hj⟩, hdata, htodo⟩ := Running.due_eq_some.1 hrd
      exact htodo ▸ h r st q _ _ tag _ hr hj hdata hc
  rw [hdue]
  exact and_assoc.symm

theorem Evidence.Settled.dueStands {e : Evidence} (h : e.Settled) : e.DueStands := by
  intro d hd
  simp [h.2] at hd

theorem evidenceLaw_of_settled {s : State} (h : (evidence s).Settled) : EvidenceLaw s :=
  (evidenceLaw_iff s).2 ⟨h.1, h.dueStands⟩

/-- Of two states with the same evidence, the law holds of one when it holds of the other. -/
theorem evidenceLaw_congr {s t : State} (h : evidence t = evidence s) (hs : EvidenceLaw s) : EvidenceLaw t := by
  rwa [evidenceLaw_iff, h, ← evidenceLaw_iff]

/-! ### The running job's fields -/

section RunningJob

/-- Only an extension's job computes a chain value. -/
theorem Running.due_of_data {r : Running} (h : ∀ v, r.data ≠ .chainValue v) : r.due = none := by
  refine Option.eq_none_iff_forall_ne_some.2 fun d hd => ?_
  exact h _ (Running.due_eq_some.1 hd).2.2.1

/-- A change of the running job that leaves the kind of the job and brings in no chain value leaves nothing due where
nothing was due. -/
theorem Running.due_of_data_imp {r r' : Running} (hr : r.due = none) (hj : r'.job = r.job) (hc : r'.crossed = r.crossed)
    (hd : ∀ v, r'.data = .chainValue v → r.data = .chainValue v) : r'.due = none := by
  refine Option.eq_none_iff_forall_ne_some.2 fun d h => ?_
  obtain ⟨hc', ⟨st, q, tag, hj'⟩, hd', -⟩ := Running.due_eq_some.1 h
  have : r.due = some ⟨d.chain, d.measurement, d.value, r.todo⟩ :=
    Running.due_eq_some.2 ⟨hc ▸ hc', ⟨st, q, tag, hj ▸ hj'⟩, hd _ hd', rfl⟩
  simp [hr] at this

variable {s : State}

theorem evidence_mapRunning {f : Running → Running} (hf : ∀ r, r.due = none → (f r).due = none)
    (h : (evidence s).due = none) : evidence { s with running := s.running.map f } = evidence s := by
  have hr : s.running.bind Running.due = none := h
  have : (s.running.map f).bind Running.due = s.running.bind Running.due := by
    cases hs : s.running with
    | none => rfl
    | some r =>
      rw [hs] at hr
      exact (hf r hr).trans hr.symm
  simp only [evidence, this]

theorem evidence_setTodo (todo : List JobStep) (h : (evidence s).due = none) :
    evidence (setTodo todo s) = evidence s :=
  evidence_mapRunning (fun _ hr => Running.due_of_data_imp hr rfl rfl fun _ => id) h

theorem evidence_noteOutcome (o : ActionOutcome) (h : (evidence s).due = none) :
    evidence (noteOutcome o s) = evidence s :=
  evidence_mapRunning (fun _ hr => Running.due_of_data_imp hr rfl rfl fun _ => id) h

theorem evidence_countErased (creds keys : Nat) (h : (evidence s).due = none) :
    evidence (countErased creds keys s) = evidence s := by
  refine evidence_mapRunning (fun r hr => Running.due_of_data_imp hr rfl rfl fun v hv => ?_) h
  dsimp only at hv
  split at hv
  · cases hv
  · exact hv

/-- Data that is no chain value leaves nothing due. -/
theorem evidence_setData {d : JobData} (hd : ∀ v, d ≠ .chainValue v) :
    evidence (setData d s) = { evidence s with due := none } := by
  have : (setData d s).running.bind Running.due = none := by
    cases hs : s.running with
    | none => simp [hs]
    | some r => simpa [hs] using Running.due_of_data hd
  simp only [evidence, this, setData_chains, setData_log]

end RunningJob

/-! ### Operations that leave the evidence alone -/

section Frame

variable (s : State)

@[simp] theorem evidence_placeReply (st : Station) (r : Result) (c : Byte) (b : List Byte) (q : Bool) :
    evidence (placeReply st r c b q s) = evidence s := rfl

@[simp] theorem evidence_answer (c : ReqCode) (st : Station) (q : Bool) (r : Result) (b : List Byte) :
    evidence (answer c st q r b s) = evidence s := rfl

@[simp] theorem evidence_enqueue (st : Station) (q : Bool) (w : Work) : evidence (enqueue st q w s) = evidence s := rfl

@[simp] theorem evidence_takeWork (c : ReqCode) (st : Station) (q : Bool) (w : Except Result Work) :
    evidence (takeWork c st q w s) = evidence s := by
  cases w <;> rfl

@[simp] theorem evidence_failStream (reason : Result) : evidence (failStream reason s) = evidence s := by
  unfold failStream
  split <;> rfl

@[simp] theorem evidence_failStale (stale : Manifest → Bool) (reason : Result) :
    evidence (failStale stale reason s) = evidence s := by
  unfold failStale
  split
  · split
    · exact evidence_failStream s reason
    · rfl
  · rfl

@[simp] theorem evidence_sweepKey (slot : Slot) : evidence (sweepKey slot s) = evidence s :=
  evidence_failStale _ _ _

@[simp] theorem evidence_eraseAndSweep (slot : Slot) : evidence (eraseAndSweep slot s) = evidence s :=
  evidence_sweepKey _ _

@[simp] theorem evidence_sweepClassFloor (c : ClassNo) (bankChanged : Bool) :
    evidence (sweepClassFloor c bankChanged s) = evidence s :=
  evidence_failStale _ _ _

@[simp] theorem evidence_releaseWork (w : Work) : evidence (releaseWork w s) = evidence s := by
  cases w with
  | credSet p change needs => cases change <;> rfl
  | _ => rfl

@[simp] theorem evidence_releaseStream (w : Work) : evidence (releaseStream w s) = evidence s := by
  cases w <;> rfl

@[simp] theorem evidence_undoJob (j : Job) : evidence (undoJob j s) = evidence s := by
  cases j with
  | station j => exact (evidence_releaseStream _ _).trans (evidence_releaseWork _ _)
  | _ => rfl

/-! #### Requests at take -/

/-- A chain keeps its value, its count and its log-incomplete flag when it is frozen (R36). -/
@[simp] theorem evidence_freeze (c : ChainNo) : evidence (setChain c (s.chains.get c).freeze s) = evidence s := by
  have hchain (x : ChainNo) : (s.chains.set c (s.chains.get c).freeze).get x
      = if x = c then (s.chains.get x).freeze else s.chains.get x := by
    rw [Tbl.get_set]
    split
    case isTrue h => rw [h]
    case isFalse => rfl
  simp only [evidence, setChain_chains, setChain_log, setChain_running, hchain, Evidence.mk.injEq, and_true]
  refine ⟨?_, ?_, ?_⟩ <;>
  · funext x
    split <;> rfl

theorem evidence_takeChainFreeze (st : Station) (q : Bool) (body : List Byte) :
    evidence (takeChainFreeze st q body s) = evidence s := by
  unfold takeChainFreeze
  split
  · rfl
  · simp

theorem evidence_closeStage (st : Station) : evidence (closeStage st s) = evidence s := by
  unfold closeStage
  split <;> rfl

theorem evidence_takeKeyErase (st : Station) (q : Bool) (body : List Byte) :
    evidence (takeKeyErase st q body s) = evidence s := by
  unfold takeKeyErase
  split
  · rfl
  · split
    · simp
    · rfl

theorem evidence_takeUpdateData (st : Station) (q : Bool) (body : List Byte) :
    evidence (takeUpdateData st q body s) = evidence s := by
  unfold takeUpdateData
  split
  · split
    · simp
    · rfl
  · rfl

theorem evidence_takeCredSet (st : Station) (q : Bool) (body : List Byte) :
    evidence (takeCredSet st q body s) = evidence s := by
  have hreserve (w : Work) : evidence (reserveId w s) = evidence s := by
    unfold reserveId
    split
    · split <;> rfl
    · rfl
  unfold takeCredSet
  split
  · rfl
  · simp [hreserve]

theorem evidence_takeKeyDerive (st : Station) (q : Bool) (body : List Byte) :
    evidence (takeKeyDerive st q body s) = evidence s := by
  have hreserve (w : Work) : evidence (reserveTarget w s) = evidence s := by cases w <;> rfl
  unfold takeKeyDerive
  split
  · rfl
  · simp [hreserve]

theorem evidence_takeKeyPublic (st : Station) (q : Bool) (body : List Byte) :
    evidence (takeKeyPublic st q body s) = evidence s := by
  unfold takeKeyPublic
  split
  · rfl
  · split
    · rfl
    · split <;> rfl

theorem evidence_takeTargetDiscard (st : Station) (q : Bool) (body : List Byte) :
    evidence (takeTargetDiscard st q body s) = evidence s := by
  unfold takeTargetDiscard
  split
  · rfl
  · split <;> rfl

theorem evidence_takeBootQuery (st : Station) (q : Bool) (body : List Byte) :
    evidence (takeBootQuery st q body s) = evidence s := by
  unfold takeBootQuery
  split
  · rfl
  · split
    · rfl
    · split <;> rfl

/-- No request changes the evidence as it is taken: CHAIN_FREEZE sets a flag that the replay law does not look at, and
CHAIN_EXTEND only becomes a job (R33, R36). -/
@[simp] theorem evidence_takeRequest (c : ReqCode) (st : Station) (q : Bool) (body : List Byte) :
    evidence (takeRequest c st q body s) = evidence s := by
  cases c with
  | chainFreeze => exact evidence_takeChainFreeze s st q body
  | closeStage => exact evidence_closeStage s st
  | keyErase => exact evidence_takeKeyErase s st q body
  | keyDerive => exact evidence_takeKeyDerive s st q body
  | credSet => exact evidence_takeCredSet s st q body
  | updateData => exact evidence_takeUpdateData s st q body
  | settingsWrite | keySign | keyVerify | chainExtend | quote | targetActivate | credVerify | credRelease
  | credClear => exact evidence_takeWork _ _ _ _ _
  | clearConditions => simp only [takeRequest, takeClearConditions]; split <;> rfl
  | setNoticeMask => simp only [takeRequest, takeSetNoticeMask]; split <;> rfl
  | keyGenerate => simp only [takeRequest, takeKeyGenerate]; split <;> rfl
  | keyImport => simp only [takeRequest, takeKeyImport]; split <;> rfl
  | keyInfo => simp only [takeRequest, takeKeyInfo]; split <;> rfl
  | keyPublic => exact evidence_takeKeyPublic s st q body
  | chainRead => simp only [takeRequest, takeChainRead]; split <;> rfl
  | logRead => simp only [takeRequest, takeLogRead]; split <;> rfl
  | updateOpen => simp only [takeRequest, takeUpdateOpen]; split <;> rfl
  | targetPrepare => simp only [takeRequest, takeTargetPrepare]; split <;> rfl
  | targetDiscard => exact evidence_takeTargetDiscard s st q body
  | bootQuery => exact evidence_takeBootQuery s st q body
  | bootConfirm => simp only [takeRequest, takeBootConfirm]; split <;> rfl
  | credInfo => simp only [takeRequest, takeCredInfo]; split <;> rfl
  | fetch | abort | status | conditions | settingsRead | ownerReset | identityRead | updateAbort | targetList
  | floorRead | grantDrop => rfl

/-! #### A frame, from its characters to its request -/

@[simp] theorem evidence_orderOfChecks (st : Station) (code : Byte) (req : Option ReqCode) (flags : Byte)
    (body : List Byte) : evidence (orderOfChecks st code req flags body s) = evidence s := by
  unfold orderOfChecks
  split
  · rfl
  · split
    · rfl
    · split
      · rfl
      · exact evidence_takeRequest s _ st _ body

theorem evidence_fetchSlot (st : Station) (flags : Byte) (body : List Byte) :
    evidence (fetchSlot st flags body s) = evidence s := by
  unfold fetchSlot
  split <;> rfl

theorem evidence_removeWaiting (st : Station) : evidence (removeWaiting st s) = evidence s := by
  unfold removeWaiting
  split
  · exact evidence_undoJob _ _
  · rfl

theorem evidence_abortRequest (st : Station) (flags : Byte) (body : List Byte) :
    evidence (abortRequest st flags body s).2 = evidence s := by
  unfold abortRequest
  split
  · rfl
  · split
    · exact evidence_removeWaiting s st
    · rfl
    · rfl

/-- An UPDATE_ABORT drops the result of the stream's job; the value that an extension is to write it leaves (R79). -/
theorem evidence_overrideStream (st : Station) : evidence (overrideStream st s) = evidence s := by
  have hwithdraw : evidence (overrideStream.withdraw st s) = evidence s := by
    unfold overrideStream.withdraw
    split <;> rfl
  unfold overrideStream
  split
  case h_1 r hr =>
    split
    · simp only [evidence, hr]
      rfl
    · exact hwithdraw
  case h_2 => exact hwithdraw

@[simp] theorem evidence_judgeFrame (st : Station) (code : Byte) (req : Option ReqCode) (flags : Byte)
    (body : List Byte) : evidence (judgeFrame st code req flags body s) = evidence s := by
  have hreceipt : evidence (receiptStage st code req flags body s) = evidence s := by
    unfold receiptStage
    split_ifs
    · rfl
    · rfl
    · exact evidence_fetchSlot s st flags body
    · exact evidence_abortRequest s st flags body
    · exact evidence_overrideStream s st
    · rfl
    · rfl
    · exact evidence_orderOfChecks s st code req flags body
  unfold judgeFrame
  split
  · rfl
  · exact hreceipt

theorem evidence_frameArrives (st : Station) (code : Byte) (req : Option ReqCode) (flags : Byte) (body : List Byte) :
    evidence (frameArrives st code req flags body s) = evidence s := by
  unfold frameArrives
  split
  · rfl
  · exact evidence_judgeFrame _ st code req flags body

theorem evidence_addressCharacter (value : Byte) : evidence (addressCharacter value s) = evidence s := by
  unfold addressCharacter
  split
  · rfl
  · split <;> rfl

theorem evidence_dataCharacter (value : Byte) : evidence (dataCharacter value s) = evidence s := by
  have hend (st : Station) (chars : List Byte) : evidence (endFrame st chars s) = evidence s := by
    simp only [endFrame]
    split
    · rfl
    · exact evidence_judgeFrame _ _ _ _ _ _
  have hassemble (st : Station) (chars : List Byte) : evidence (assemble st chars s) = evidence s := by
    unfold assemble
    split_ifs
    · rfl
    · exact hend st chars
    · rfl
  unfold dataCharacter
  split
  · rfl
  · exact hassemble _ _
  · exact hassemble _ _

theorem evidence_badCharacter : evidence (badCharacter s) = evidence s := by
  unfold badCharacter
  split <;> rfl

theorem evidence_itemEnds : evidence (itemEnds s) = evidence s := by
  unfold itemEnds
  split <;> rfl

/-! #### The tick -/

theorem evidence_tickStream : evidence (tickStream s) = evidence s := by
  unfold tickStream
  split
  · split
    · exact evidence_failStream s _
    · rfl
  · rfl

theorem evidence_tickTimer : evidence (tickTimer s) = evidence s := by
  unfold tickTimer
  split
  · split_ifs <;> rfl
  · rfl

theorem evidence_tickGap : evidence (tickGap s) = evidence s := by
  unfold tickGap
  split_ifs <;> rfl

theorem evidence_closePhase (v : PhaseVerdict) : evidence (closePhase v s) = evidence s := by
  have hbutton : evidence (tickButton v s) = evidence s := by
    unfold tickButton
    split
    case h_2 => split <;> rfl
    all_goals rfl
  unfold closePhase
  split
  · rfl
  · exact hbutton

/-- A tick changes nothing of the evidence, whatever its receivers do (R153). -/
theorem evidence_tick (v : PhaseVerdict) : evidence (tick v s) = evidence s := by
  rw [tick, evidence_closePhase, evidence_tickGap, evidence_tickTimer, evidence_tickStream]
  rfl

/-! #### FAULT mode (R177) -/

@[simp] theorem evidence_enterFault : evidence (enterFault s) = evidence s := by
  have hanswer (s : State) (j : Job) : evidence (answerFault s j) = evidence s := by
    unfold answerFault
    split <;> exact evidence_undoJob _ _
  have hfold : evidence (s.queue.foldl answerFault { s with queue := [], fault := true }) = evidence s :=
    List.foldlRecOn (motive := fun t => evidence t = evidence s) s.queue answerFault rfl
      fun t ht j _ => (hanswer t j).trans ht
  exact hfold

end Frame

/-! ### What changes the evidence: an extension (R34, R38, R41) -/

section Extend

theorem replay_append (c : ChainNo) (log : List LogEntry) (e : LogEntry) :
    replay c (log ++ [e]) = if e.chain = c then extendedValue (replay c log) e.measurement else replay c log := by
  by_cases h : e.chain = c <;> simp [replay, List.filter_append, h]

variable {s : State}

theorem extendChain_get (c x : ChainNo) (value m : Bytes 32) (tag : List Byte) (st : Option Station) :
    (extendChain c value m tag st s).chains.get x
      = if x = c then
          { s.chains.get c with
            value
            count := min ((s.chains.get c).count + 1) Config.extendCap
            logIncomplete := (s.chains.get c).logIncomplete || !logRoom s }
        else s.chains.get x :=
  Tbl.get_set _ _ _ _

theorem extendChain_log (c : ChainNo) (value m : Bytes 32) (tag : List Byte) (st : Option Station) :
    (extendChain c value m tag st s).log
      = if s.log.length < Config.logCap then
          s.log ++ [{ chain := c, measurement := m, tag, station := st, uptime := s.time.uptime }]
        else s.log := by
  simp [extendChain, raiseIf, logRoom]

/-- An extension with the value that extends the chain's present one: its log entry replays to that value, and without
room for an entry the chain's log-incomplete flag is set. -/
theorem replays_extendChain {c : ChainNo} {value m : Bytes 32} (tag : List Byte) (st : Option Station)
    (h : (evidence s).Replays) (hv : value = extendedValue (s.chains.get c).value m) :
    (evidence (extendChain c value m tag st s)).Replays := by
  obtain ⟨hcap, hchains⟩ := h
  simp only [evidence] at hcap hchains
  by_cases hroom : s.log.length < Config.logCap
  case pos =>
    refine ⟨by simp [evidence, extendChain_log, hroom], fun x hx => ?_⟩
    simp only [evidence, extendChain_get, extendChain_log, if_pos hroom, replay_append, List.countP_append,
      List.countP_singleton, beq_iff_eq] at hx ⊢
    by_cases hxc : x = c
    case pos =>
      subst hxc
      simp only [if_true, logRoom, hroom, decide_true, Bool.not_true, Bool.or_false] at hx ⊢
      obtain ⟨hvalue, hcount⟩ := hchains x hx
      have hle := List.countP_le_length (p := fun e => e.chain == x) (l := s.log)
      refine ⟨by rw [hv, hvalue], ?_⟩
      simp only [Config.extendCap, Config.logCap] at *
      omega
    case neg =>
      simp only [if_neg hxc, if_neg (Ne.symm hxc)] at hx ⊢
      simpa using hchains x hx
  case neg =>
    refine ⟨by simpa [evidence, extendChain_log, hroom] using hcap, fun x hx => ?_⟩
    simp only [evidence, extendChain_get, extendChain_log, if_neg hroom] at hx ⊢
    by_cases hxc : x = c
    case pos => simp [hxc, logRoom, hroom] at hx
    case neg =>
      simp only [if_neg hxc] at hx ⊢
      exact hchains x hx

theorem settled_partExtend (mk : Marker) (h : (evidence s).Settled) : (evidence (partExtend mk s)).Settled :=
  ⟨replays_extendChain _ _ h.1 rfl, h.2⟩

end Extend

/-! ### The steps of jobs -/

section Steps

variable {s : State}

/-- A step that makes no part extension leaves the evidence, where no value is due. -/
theorem evidence_act {step : JobStep} (hm : ∀ m, step ≠ .marker m) (h : (evidence s).due = none) :
    evidence (step.act s) = evidence s := by
  cases step with
  | marker m => exact absurd rfl (hm m)
  | action c a =>
    simp only [JobStep.act]
    split
    · exact evidence_noteOutcome _ h
    · exact evidence_noteOutcome _ h
    · exact evidence_noteOutcome _ h
  | revokeSlot slot => exact evidence_sweepKey _ slot
  | sweepClass c bankChanged => exact evidence_sweepClassFloor s c bankChanged
  | charge id =>
    simp only [JobStep.act]
    split
    · exact (evidence_setData (by nofun)).trans (by rw [← h]; rfl)
    · rfl
  | compare id candidate =>
    refine evidence_mapRunning (fun r hr => Running.due_of_data_imp hr rfl rfl fun v hv => ?_) h
    dsimp only at hv
    split at hv
    · cases hv
    · exact hv
  | success id =>
    simp only [JobStep.act]
    split <;> rfl
  | eraseCred id =>
    simp only [JobStep.act]
    split
    · exact evidence_countErased 1 0 h
    · rfl
  | eraseKey slot =>
    simp only [JobStep.act]
    split
    · exact (evidence_countErased 0 1 (by simpa using h)).trans (evidence_eraseAndSweep s slot)
    · rfl
  | _ => rfl

theorem settled_act (step : JobStep) (h : (evidence s).Settled) : (evidence (step.act s)).Settled := by
  by_cases hm : ∃ m, step = .marker m
  · obtain ⟨m, rfl⟩ := hm
    exact settled_partExtend m h
  · rwa [evidence_act (fun m hs => hm ⟨m, hs⟩) h.2]

theorem settled_complete (step : JobStep) (h : (evidence s).Settled) : (evidence (step.complete s)).Settled :=
  settled_act step h

theorem settled_finish (step : JobStep) (h : (evidence s).Settled) : (evidence (step.finish s)).Settled :=
  List.foldlRecOn (motive := fun t => (evidence t).Settled) _ _ (settled_complete step h)
    fun _ ht x _ => settled_complete x ht

theorem settled_setTodo (todo : List JobStep) (h : (evidence s).Settled) : (evidence (setTodo todo s)).Settled := by
  rwa [evidence_setTodo todo h.2]

theorem settled_runFree (todo : List JobStep) (h : (evidence s).Settled) : (evidence (runFree todo s)).Settled := by
  induction todo generalizing s with
  | nil => exact settled_setTodo [] h
  | cons step rest ih =>
    unfold runFree
    split
    · exact settled_setTodo (step :: rest) h
    · exact ih (settled_complete step h)

/-- A job that computes no chain value begins its steps with nothing due. -/
theorem settled_launch {d : JobData} (todo : List JobStep) (hd : ∀ v, d ≠ .chainValue v) (h : (evidence s).Replays) :
    (evidence (launch d todo s)).Settled := by
  refine settled_runFree todo ?_
  rw [evidence_setData hd]
  exact ⟨h, rfl⟩

/-- A step whose write fails may erase a key or a credential, and leaves the evidence. -/
theorem evidence_fail (step : JobStep) (landed : Bool) : evidence (step.fail landed s) = evidence s := by
  cases step with
  | keyRemove slot => exact evidence_eraseAndSweep s slot
  | eraseKey slot => exact evidence_eraseAndSweep s slot
  | _ => rfl

end Steps

/-! ### The end of a job -/

section Ends

variable {s : State}

theorem evidence_endJob (r : Result) (b : List Byte) : evidence (endJob r b s) = { evidence s with due := none } := by
  unfold endJob
  split
  case h_1 hr => simp only [evidence, hr, Option.bind_none]
  case h_2 => split <;> rfl

theorem evidence_failJob (r : Result) (b : List Byte) : evidence (failJob r b s) = { evidence s with due := none } := by
  unfold failJob
  split
  · rw [evidence_endJob, evidence_releaseWork]
  · exact evidence_endJob r b

theorem settled_endJob (r : Result) (b : List Byte) (h : (evidence s).Replays) :
    (evidence (endJob r b s)).Settled := by
  rw [evidence_endJob]
  exact ⟨h, rfl⟩

theorem settled_failJob (r : Result) (b : List Byte) (h : (evidence s).Replays) :
    (evidence (failJob r b s)).Settled := by
  rw [evidence_failJob]
  exact ⟨h, rfl⟩

end Ends

/-! ### A sensed SoC reset (R46, R178) -/

section Reset

/-- The evidence after a sensed SoC reset: chains 0 to 9 are cleared with their entries, and a running extension is
void. -/
def Evidence.afterReset (e : Evidence) : Evidence :=
  { value := fun c => if c.val < 10 then .replicate 32 0 else e.value c
    count := fun c => if c.val < 10 then 0 else e.count c
    logIncomplete := fun c => if c.val < 10 then false else e.logIncomplete c
    log := e.log.filter fun x => decide (10 ≤ x.chain.val)
    due := none }

variable (s : State)

theorem evidence_removeStationJobs : evidence (removeStationJobs s) = evidence s :=
  List.foldlRecOn (motive := fun t => evidence t = evidence s) s.queue _ rfl
    fun t ht j _ => (evidence_undoJob t j).trans ht

theorem due_crossRunning : (evidence (crossRunning s)).due = none := by
  cases h : s.running <;> simp [evidence, h, Running.due]

theorem evidence_clearBootChains (h : (evidence s).due = none) :
    evidence (clearBootChains s) = (evidence s).afterReset := by
  have hchain (c : ChainNo) : (clearBootChains s).chains.get c = if c.val < 10 then .cleared else s.chains.get c :=
    Tbl.get_mapFin _ _ c
  have hlog : (clearBootChains s).log = s.log.filter fun e => decide (10 ≤ e.chain.val) := rfl
  have hdue : s.running.bind Running.due = none := h
  simp only [evidence, hchain, hlog, hdue, clearBootChains_running, Evidence.afterReset, Evidence.mk.injEq, and_true]
  exact ⟨funext fun _ => apply_ite Chain.value _ _ _, funext fun _ => apply_ite Chain.count _ _ _,
    funext fun _ => apply_ite Chain.logIncomplete _ _ _⟩

/-- Of what a sensed SoC reset does, the evidence shows the cleared chains and the job made void. -/
theorem evidence_socReset : evidence (socReset s) = (evidence s).afterReset := by
  have after (t : State) :
      evidence (lineIdle (cutTransmitter (queueTrialAccount (dropUpdates (countSocReset t))))) = evidence t := by
    simp [evidence]
  have before (t : State) :
      evidence (eraseEpochKeys (resetStations (crossRunning t))) = evidence (crossRunning t) := by
    simp [evidence]
  have crossed (t : State) : (evidence (crossRunning t)).afterReset = (evidence t).afterReset := rfl
  have timer : evidence (stopTrialTimer (senseReset s)) = evidence s := rfl
  rw [socReset, after, evidence_clearBootChains _ (by rw [before, due_crossRunning]), before, crossed,
    evidence_removeStationJobs, timer]

/-- A chain that a reset does not clear keeps all its entries. -/
theorem filter_boot_chain {c : ChainNo} (hc : 10 ≤ c.val) (log : List LogEntry) :
    (log.filter fun e => decide (10 ≤ e.chain.val)).filter (fun e => e.chain == c) = log.filter fun e => e.chain == c := by
  rw [List.filter_filter]
  refine List.filter_congr fun e _ => ?_
  by_cases h : e.chain = c
  · simp [h, hc]
  · simp [h]

/-- A chain that a reset clears has no entry left. -/
theorem filter_cleared_chain {c : ChainNo} (hc : c.val < 10) (log : List LogEntry) :
    (log.filter fun e => decide (10 ≤ e.chain.val)).filter (fun e => e.chain == c) = [] := by
  rw [List.filter_filter, List.filter_eq_nil_iff]
  rintro e - h
  obtain ⟨rfl, hb⟩ : e.chain = c ∧ 10 ≤ e.chain.val := by simpa using h
  exact Nat.not_le.2 hc hb

theorem settled_afterReset {e : Evidence} (h : e.Replays) : e.afterReset.Settled := by
  obtain ⟨hcap, hchains⟩ := h
  refine ⟨⟨(List.length_filter_le _ _).trans hcap, fun c hc => ?_⟩, rfl⟩
  simp only [Evidence.afterReset, replay, List.countP_eq_length_filter] at hc ⊢
  by_cases hb : c.val < 10
  · simp only [if_pos hb, filter_cleared_chain hb]
    exact ⟨rfl, rfl⟩
  · simp only [if_neg hb, filter_boot_chain (Nat.le_of_not_lt hb)] at hc ⊢
    simpa only [replay, List.countP_eq_length_filter] using hchains c hc

theorem evidenceLaw_senseSample (low : Bool) (h : EvidenceLaw s) : EvidenceLaw (senseSample s low) := by
  rcases senseSample_cases s low with ⟨-, -, -, hs⟩ | ⟨-, -, -, hs⟩ | ⟨-, hs⟩
  · refine evidenceLaw_of_settled ?_
    rw [hs, evidence_socReset]
    exact settled_afterReset ((evidenceLaw_iff s).1 h).1
  · rw [hs]
    exact evidenceLaw_congr rfl h
  · rw [hs]
    exact evidenceLaw_congr rfl h

theorem evidenceLaw_readSense (samples : List Bool) (h : EvidenceLaw s) : EvidenceLaw (readSense samples s) :=
  readSense_keeps evidenceLaw_senseSample samples s h

theorem evidenceLaw_beforeTick (samples : PhaseSamples) (h : EvidenceLaw s) : EvidenceLaw (beforeTick samples s) := by
  unfold beforeTick
  split
  · exact evidenceLaw_readSense s samples.sense h
  · exact h

end Reset

/-! ### The starts of jobs -/

section Starts

variable {s : State}

theorem settled_launchKey (slot : Slot) (k : KeyRecord) (h : (evidence s).Replays) :
    (evidence (launchKey slot k s)).Settled :=
  settled_launch _ (by nofun) h

theorem settled_generateStep (p : NewKey) (kind : KeyKind) (b : Option Binding) (h : (evidence s).Replays) :
    (evidence (generateStep p kind b s)).Settled := by
  unfold generateStep
  split
  · exact settled_launchKey _ _ h
  · exact settled_launch _ (by nofun) h

theorem settled_startKeyGenerate (st : Station) (p : NewKey) (kind : KeyKind) (h : (evidence s).Replays) :
    (evidence (startKeyGenerate st p kind s)).Settled := by
  unfold startKeyGenerate
  split
  · exact settled_failJob _ _ h
  · exact settled_generateStep p kind _ h

theorem settled_startKeyImport (st : Station) (p : NewKey) (m : Material) (h : (evidence s).Replays) :
    (evidence (startKeyImport st p m s)).Settled := by
  unfold startKeyImport
  split_ifs
  · exact settled_failJob _ _ h
  · exact settled_failJob _ _ h
  · exact settled_failJob _ _ h
  · exact settled_launchKey _ _ h

theorem settled_startKeyDerive (parent : Slot) (noted : Bytes 32) (derivation : List Byte) (target : Slot)
    (usage mask : Byte) (label : List Byte) (h : (evidence s).Replays) :
    (evidence (startKeyDerive parent noted derivation target usage mask label s)).Settled := by
  unfold startKeyDerive
  split
  · exact settled_failJob _ _ h
  · split
    · dsimp only
      split_ifs
      · exact settled_failJob _ _ h
      · exact settled_failJob _ _ h
      · exact settled_launchKey _ _ h
    · exact settled_failJob _ _ h

theorem settled_startKeySign (slot : Slot) (noted d : Bytes 32) (h : (evidence s).Replays) :
    (evidence (startKeySign slot noted d s)).Settled := by
  unfold startKeySign
  split
  · exact settled_failJob _ _ h
  · split
    · exact settled_launch _ (by nofun) h
    · exact settled_failJob _ _ h

theorem settled_startKeyVerify (slot : Slot) (noted d : Bytes 32) (sig : Bytes 64) (h : (evidence s).Replays) :
    (evidence (startKeyVerify slot noted d sig s)).Settled := by
  unfold startKeyVerify
  split
  · exact settled_failJob _ _ h
  · split
    · exact settled_launch _ (by nofun) h
    · exact settled_failJob _ _ h

theorem settled_startKeyErase (st : Station) (slot : Slot) (noted : Bytes 32) (h : (evidence s).Replays) :
    (evidence (startKeyErase st slot noted s)).Settled := by
  unfold startKeyErase
  split
  · exact settled_failJob _ _ h
  · split
    · exact settled_failJob _ _ h
    · exact settled_launch _ (by nofun) h

theorem settled_startQuote (slot : Slot) (noted : Bytes 32) (selection : BitVec 16) (nonce : List Byte)
    (h : (evidence s).Replays) : (evidence (startQuote slot noted selection nonce s)).Settled := by
  unfold startQuote
  split
  · exact settled_failJob _ _ h
  · split
    · exact settled_launch _ (by nofun) h
    · exact settled_failJob _ _ h

theorem settled_startUpdateOpen (h : (evidence s).Replays) : (evidence (startUpdateOpen s)).Settled := by
  unfold startUpdateOpen
  split
  · split
    · exact settled_launch _ (by nofun) h
    · exact settled_launch _ (by nofun) h
  · exact settled_failJob _ _ h

theorem settled_startUpdateData (h : (evidence s).Replays) : (evidence (startUpdateData s)).Settled := by
  unfold startUpdateData
  split
  · exact settled_launch _ (by nofun) h
  · exact settled_failJob _ _ h

theorem settled_startTargetActivate (i : TargetNo) (h : (evidence s).Replays) :
    (evidence (startTargetActivate i s)).Settled := by
  unfold startTargetActivate
  split
  · exact settled_failJob _ _ h
  · exact settled_launch _ (by nofun) h

theorem settled_startBootConfirm (c : ClassNo) (h : (evidence s).Replays) :
    (evidence (startBootConfirm c s)).Settled := by
  unfold startBootConfirm
  split
  · split
    · exact settled_launch _ (by nofun) h
    · exact settled_failJob _ _ h
  · exact settled_failJob _ _ h

theorem settled_startCredSet (st : Station) (p : CredParams) (change needed : Bool) (h : (evidence s).Replays) :
    (evidence (startCredSet st p change needed s)).Settled := by
  unfold startCredSet
  split_ifs
  · exact settled_failJob _ _ h
  · exact settled_failJob _ _ h
  · exact settled_launch _ (by nofun) h

theorem settled_startCredVerify (id : CredId) (candidate : List Byte) (h : (evidence s).Replays) :
    (evidence (startCredVerify id candidate s)).Settled := by
  unfold startCredVerify
  split
  · exact settled_failJob _ _ h
  · split
    · exact settled_failJob _ _ h
    · exact settled_launch _ (by nofun) h

theorem settled_startCredRelease (st : Station) (id : CredId) (h : (evidence s).Replays) :
    (evidence (startCredRelease st id s)).Settled := by
  unfold startCredRelease
  split
  · exact settled_failJob _ _ h
  · split
    · exact settled_failJob _ _ h
    · exact settled_launch _ (by nofun) h

theorem settled_startCredClear (st : Station) (id : CredId) (h : (evidence s).Replays) :
    (evidence (startCredClear st id s)).Settled := by
  unfold startCredClear
  split_ifs
  · exact settled_failJob _ _ h
  · exact settled_failJob _ _ h
  · exact settled_launch _ (by nofun) h

theorem settled_startSettingsWrite (st : Station) (p : SettingsParams) (h : (evidence s).Replays) :
    (evidence (startSettingsWrite st p s)).Settled := by
  unfold startSettingsWrite
  split
  · exact settled_failJob _ _ h
  · exact settled_launch _ (by nofun) h

theorem settled_startOwnerReset (attached : Option Bool) (button : Bool) (h : (evidence s).Replays) :
    (evidence (startOwnerReset attached button s)).Settled := by
  unfold startOwnerReset
  split
  · exact settled_failJob _ _ h
  · exact settled_launch _ (by nofun) h

theorem settled_startTrialAccount (h : (evidence s).Replays) : (evidence (startTrialAccount s)).Settled := by
  unfold startTrialAccount
  split
  · exact settled_launch _ (by nofun) h
  · refine settled_launch _ ?_ h
    split <;> nofun

end Starts

/-- A job that may start finds no job running: whatever it starts with, the log replays, and it is the running job. -/
theorem evidenceLaw_onStart {start : StationJob → Option (State → State)} {s : State}
    (hstart : ∀ j f, start j = some f → ∀ t, (evidence t).Replays → (∃ r, t.running = some r ∧ r.job = .station j) →
      EvidenceLaw (f t)) (h : EvidenceLaw s) : EvidenceLaw (onStart start s) := by
  unfold onStart
  split
  case h_1 j hj =>
    split
    case h_1 f hf =>
      have hhead : s.queue.head? = some (.station j) := by
        unfold nextJob at hj
        split at hj
        · cases hj
        · exact hj
      refine hstart j f hf (takeJob s) ((evidenceLaw_iff s).1 h).1 ⟨fresh (.station j) [] .blank [], ?_, rfl⟩
      simp [takeJob, hhead]
    case h_2 => exact h
  case h_2 => exact h

/-- An extension's job starts by computing the value that extends the chain's present one, and has nothing to write
before its end (R34). -/
theorem evidenceLaw_startChainExtend {c : ChainNo} {m : Bytes 32} {t : State} {r : Running} {st : Station} {q : Bool}
    {tag : List Byte} (h : (evidence t).Replays) (hr : t.running = some r)
    (hj : r.job = stationJob st q (.chainExtend c m tag)) : EvidenceLaw (startChainExtend c m t) := by
  unfold startChainExtend
  split
  · exact evidenceLaw_of_settled (settled_failJob _ _ h)
  · refine (evidenceLaw_iff _).2 ⟨h, fun d hd => ?_⟩
    simp only [evidence, launch, runFree_nil, setTodo_running, setData_running, hr, Option.map_some,
      Option.bind_some, Running.due_eq_some] at hd
    obtain ⟨-, ⟨st', q', tag', hj'⟩, hv, htodo⟩ := hd
    simp only [hj, stationJob, Job.station.injEq, StationJob.mk.injEq, Work.chainExtend.injEq] at hj'
    simp only [JobData.chainValue.injEq] at hv
    obtain ⟨-, -, rfl, rfl, -⟩ := hj'
    exact ⟨htodo.symm, hv.symm⟩

/-! ### The ends of jobs -/

section JobEnds

variable {s : State}

/-- A running job with steps still to do has no value due. -/
theorem settled_of_todo {r : Running} (h : EvidenceLaw s) (hr : s.running = some r) (ht : r.todo ≠ []) :
    (evidence s).Settled := by
  obtain ⟨hreplays, hdue⟩ := (evidenceLaw_iff s).1 h
  refine ⟨hreplays, Option.eq_none_iff_forall_ne_some.2 fun d hd => ht ?_⟩
  have hrd : r.due = some d := by simpa [evidence, hr] using hd
  rw [(Running.due_eq_some.1 hrd).2.2.2]
  exact (hdue d hd).1

theorem evidenceLaw_finishSteps (h : EvidenceLaw s) : EvidenceLaw (finishSteps s) := by
  cases hr : s.running with
  | none => simpa [finishSteps, hr] using h
  | some r =>
    by_cases ht : r.todo = []
    · rwa [finishSteps_done hr ht]
    · have hfold : (evidence (r.todo.foldl (fun s step => step.finish s) s)).Settled :=
        List.foldlRecOn (motive := fun t => (evidence t).Settled) _ _ (settled_of_todo h hr ht)
          fun _ hs x _ => settled_finish x hs
      simpa only [finishSteps, hr] using evidenceLaw_of_settled (settled_setTodo [] hfold)

theorem evidenceLaw_onEnd {is : Job → Bool} {fin : Running → State → State}
    (hfin : ∀ r t, t.running = some r → EvidenceLaw t → EvidenceLaw (fin r t)) (h : EvidenceLaw s) :
    EvidenceLaw (onEnd is fin s) := by
  unfold onEnd
  split
  · split
    · split
      case h_1 done hdone => exact hfin done _ hdone (evidenceLaw_finishSteps h)
      case h_2 => exact h
    · exact h
  · exact h

theorem evidenceLaw_endJob (r : Result) (b : List Byte) (h : (evidence s).Replays) : EvidenceLaw (endJob r b s) :=
  evidenceLaw_of_settled (settled_endJob r b h)

theorem EvidenceLaw.replays (h : EvidenceLaw s) : (evidence s).Replays := ((evidenceLaw_iff s).1 h).1

/-- An extension that is not void writes the value it has computed, which extends the chain's present one (R34, R35). -/
theorem evidenceLaw_endChainExtend {c : ChainNo} {m value : Bytes 32} {tag : List Byte} {st : Station} {q : Bool}
    {r : Running} (h : EvidenceLaw s) (hr : s.running = some r) (hj : r.job = stationJob st q (.chainExtend c m tag))
    (hd : r.data = .chainValue value) : EvidenceLaw (endChainExtend c m tag st value r s) := by
  unfold endChainExtend
  split
  · exact evidenceLaw_endJob _ _ h.replays
  case isFalse hc =>
    have hreplays := h.replays
    obtain ⟨-, -, hlaw⟩ := h
    obtain ⟨-, hvalue⟩ := hlaw r st q c m tag value hr hj hd (by simpa using hc)
    exact evidenceLaw_endJob _ _ (replays_extendChain tag _ hreplays hvalue)

theorem replays_storeCredential (p : CredParams) (change : Bool) (contents : CredContents) (h : (evidence s).Replays) :
    (evidence (storeCredential p change contents s)).Replays := by
  unfold storeCredential
  split
  · exact h
  · exact h
  · dsimp only
    split
    · exact replays_extendChain _ _ h rfl
    · exact h

theorem evidenceLaw_endCredVerify (st : Station) (id : CredId) (r : Running) (h : EvidenceLaw s) :
    EvidenceLaw (endCredVerify st id r s) := by
  have hlock (delay : Nat) : (evidence (lockOut id delay s)).Replays := by
    unfold lockOut
    split <;> exact h.replays
  unfold endCredVerify
  split
  · exact evidenceLaw_endJob _ _ (hlock _)
  · split <;> exact evidenceLaw_endJob _ _ h.replays
  · exact h

theorem evidenceLaw_endUpdateOpen (r : Running) (h : EvidenceLaw s) : EvidenceLaw (endUpdateOpen r s) := by
  unfold endUpdateOpen
  split
  · exact evidenceLaw_endJob _ _ h.replays
  · split
    · exact evidenceLaw_endJob _ _ h.replays
    · exact evidenceLaw_endJob _ _ (by simpa using h.replays)
    · exact evidenceLaw_endJob _ _ h.replays

theorem evidenceLaw_endVerified (m : Manifest) (limit received : Nat) (h : (evidence s).Replays) :
    EvidenceLaw (endVerified m limit received s) := by
  unfold endVerified
  dsimp only
  split
  · split <;> exact evidenceLaw_endJob _ _ h
  · exact evidenceLaw_endJob _ _ h

theorem evidenceLaw_endUpdateData (chunk : List Byte) (r : Running) (h : EvidenceLaw s) :
    EvidenceLaw (endUpdateData chunk r s) := by
  unfold endUpdateData
  split
  · exact evidenceLaw_endJob _ _ h.replays
  · split
    · dsimp only
      split_ifs
      · exact evidenceLaw_endJob _ _ h.replays
      · exact evidenceLaw_endVerified _ _ _ h.replays
      · exact evidenceLaw_endJob _ _ ((evidence_failStream _ _).symm ▸ h.replays)
    · exact evidenceLaw_endJob _ _ h.replays

theorem evidenceLaw_endTrialAccount (r : Running) (h : EvidenceLaw s) : EvidenceLaw (endTrialAccount r s) := by
  unfold endTrialAccount
  split
  · refine evidenceLaw_endJob _ _ ?_
    split <;> exact h.replays
  · exact evidenceLaw_endJob _ _ h.replays

/-! ### Store writes (R176) -/

theorem evidenceLaw_writeCompletes (h : EvidenceLaw s) : EvidenceLaw (writeCompletes s) := by
  unfold writeCompletes
  split
  case h_1 hr =>
    split
    · exact evidenceLaw_of_settled (settled_runFree _ (settled_complete _ (settled_of_todo h hr (by simp))))
    · exact h
  case h_2 => exact h

theorem evidenceLaw_chargeWritten (h : EvidenceLaw s) : EvidenceLaw (chargeWritten s) := by
  unfold chargeWritten
  split
  · exact evidenceLaw_writeCompletes h
  · exact h

theorem evidenceLaw_writeFails (landed : Bool) (h : EvidenceLaw s) : EvidenceLaw (writeFails landed s) := by
  unfold writeFails
  split
  case h_1 step _ =>
    have hfailed : (evidence (failJob .nvFailed [] (step.fail landed s))).Settled :=
      settled_failJob _ _ (by rw [evidence_fail]; exact h.replays)
    exact evidenceLaw_of_settled (by rw [evidence_enterFault]; exact hfailed)
  case h_2 => exact h

end JobEnds

/-! ### Start-up (R203) -/

section StartUp

/-- The state of a start-up under way replays, and has nothing due. -/
def StartingUp.Settled (b : StartingUp) : Prop := (evidence b.state).Settled

theorem settled_blank (pending : List Instr) (power : Power) (store : Store) (entropy : Nat) :
    (evidence (State.blank pending power store entropy)).Settled := by
  refine ⟨⟨by simp [evidence, State.blank], fun c _ => ?_⟩, rfl⟩
  simp [evidence, State.blank, Chain.cleared, replay]

variable (trouble : StartUpTrouble) {b : StartingUp}

theorem settled_startUpStep (step : JobStep) (h : b.Settled) : (startUpStep trouble b step).Settled := by
  have hdone : (evidence (step.complete b.state)).Settled := settled_complete step h
  unfold startUpStep
  split
  · exact h
  · split
    · exact hdone
    · split
      case h_1 => exact hdone
      case h_2 n landed =>
        have hfailed : evidence (raiseCond .nvWriteFailed (step.fail landed b.state)) = evidence b.state :=
          evidence_fail step landed
        split
        · simpa only [StartingUp.Settled, hfailed] using h
        · exact hdone
      case h_3 =>
        split
        · exact h
        · exact hdone

theorem settled_startUpSteps (steps : List JobStep) (h : b.Settled) : (startUpSteps trouble steps b).Settled :=
  List.foldlRecOn (motive := StartingUp.Settled) steps _ h fun _ hb _ _ =>
    List.foldlRecOn (motive := StartingUp.Settled) _ _ hb fun _ hb step _ => settled_startUpStep trouble step hb

theorem settled_finishRevocations (h : b.Settled) : (finishRevocations trouble b).Settled :=
  settled_startUpSteps trouble _ h

theorem settled_finishOwnerReset (marked : Bool) (h : b.Settled) : (finishOwnerReset marked trouble b).Settled := by
  unfold finishOwnerReset
  split
  · exact settled_startUpSteps trouble _ h
  · exact h

theorem settled_countTheStart (good : Bool) (h : b.Settled) : (countTheStart good trouble b).Settled := by
  unfold countTheStart
  split
  · exact settled_startUpSteps trouble _ h
  · exact h

theorem settled_finishDeferred (h : b.Settled) : (finishDeferred trouble b).Settled :=
  List.foldlRecOn (motive := StartingUp.Settled) _ _ h fun _ hb _ _ => settled_startUpSteps trouble _ hb

theorem settled_accountTrial (h : b.Settled) : (accountTrial trouble b).1.Settled := by
  unfold accountTrial
  split
  · exact h
  · exact settled_startUpSteps trouble _ h

theorem settled_startUp (bad : List RecordId) {s : State} (h : (evidence s).Settled) :
    (evidence (startUp bad trouble s)).Settled := by
  have hloaded : StartingUp.Settled { state := loadStore bad s, writes := 0, stopped := false, dead := false } := h
  have hdone := settled_accountTrial trouble (settled_finishDeferred trouble
    (settled_countTheStart trouble (!bad.contains .partResetCount)
      (settled_finishOwnerReset trouble (s.store.resetMark && !bad.contains .ownerResetMark)
        (settled_finishRevocations trouble hloaded))))
  simp only [startUp]
  generalize accountTrial trouble _ = done at hdone ⊢
  split
  · exact settled_blank _ _ _ _
  · exact hdone

theorem settled_partReset (input : StartUpInput) (s : State) : (evidence (partReset input s)).Settled := by
  unfold partReset
  exact settled_startUp _ _ (settled_blank _ _ _ _)

end StartUp

/-! ### Every command keeps the replay law -/

section Commands

variable {s t : State}

/-- An event of a running part keeps the law when what it does keeps it. -/
theorem evidenceLaw_whenOn {f : State → State} (hf : EvidenceLaw (f s)) (h : EvidenceLaw s)
    (ht : whenOn f s = .next t) : EvidenceLaw t := by
  by_cases hp : s.power = .on
  · rw [whenOn_on hp] at ht
    cases ht
    exact evidenceLaw_congr rfl hf
  · rw [whenOn_off hp] at ht
    cases ht
    exact h

/-- An event of a running part that leaves the evidence. -/
theorem evidenceLaw_whenOn_same {f : State → State} (hf : evidence (f s) = evidence s) (h : EvidenceLaw s)
    (ht : whenOn f s = .next t) : EvidenceLaw t :=
  evidenceLaw_whenOn (evidenceLaw_congr hf h) h ht

/-- The command of a frame is the arrival of that frame. -/
theorem exec_of_isFrame {c : Instr} (s : State) (hc : isFrame c = true) :
    ∃ st code req flags body, exec c s = whenOn (frameArrives st code req flags body) s := by
  cases c
  case fetch | abort | status | conditions | clearConditions | setNoticeMask | closeStage | settingsRead
    | settingsWrite | ownerReset | keyGenerate | keyImport | keySign | keyVerify | keyDerive | keyErase | keyInfo
    | keyPublic | chainExtend | chainFreeze | chainRead | logRead | quote | identityRead | updateOpen | updateData
    | updateAbort | targetPrepare | targetList | targetDiscard | targetActivate | bootQuery | bootConfirm | floorRead
    | credSet | credVerify | credRelease | credClear | credInfo | grantDrop | unknownRequestFrame =>
    exact ⟨_, _, _, _, _, rfl⟩
  all_goals cases hc

theorem evidenceLaw_frame {c : Instr} (hc : isFrame c = true) (h : EvidenceLaw s) (ht : exec c s = .next t) :
    EvidenceLaw t := by
  obtain ⟨st, code, req, flags, body, he⟩ := exec_of_isFrame s hc
  exact evidenceLaw_whenOn_same (evidence_frameArrives s st code req flags body) h (he ▸ ht)

/-- The start of a job other than an extension's. -/
theorem evidenceLaw_jobStart {start : StationJob → Option (State → State)} (h : EvidenceLaw s)
    (ht : whenOn (onStart start) s = .next t)
    (hstart : ∀ j f, start j = some f → ∀ u, (evidence u).Replays → (evidence (f u)).Settled) : EvidenceLaw t :=
  evidenceLaw_whenOn
    (evidenceLaw_onStart (fun j f hf u hu _ => evidenceLaw_of_settled (hstart j f hf u hu)) h) h ht

theorem evidenceLaw_jobEnd {is : Job → Bool} {fin : Running → State → State} (h : EvidenceLaw s)
    (ht : whenOn (onEnd is fin) s = .next t)
    (hfin : ∀ r u, u.running = some r → EvidenceLaw u → EvidenceLaw (fin r u)) : EvidenceLaw t :=
  evidenceLaw_whenOn (evidenceLaw_onEnd hfin h) h ht

theorem evidenceLaw_tickEvent {v : PhaseVerdict} (h : EvidenceLaw s) (ht : tickEvent v s = .next t) :
    EvidenceLaw t := by
  unfold tickEvent at ht
  split at ht <;> cases ht
  · exact evidenceLaw_congr (evidence_tick s v) h
  · exact evidenceLaw_congr rfl h
  · exact h

theorem evidenceLaw_tickWhen {due : State → Bool} {v : PhaseVerdict} (h : EvidenceLaw s)
    (ht : tickWhen due v s = .next t) : EvidenceLaw t := by
  refine evidenceLaw_whenOn_same ?_ h ht
  split
  · exact evidence_tick s v
  · rfl

theorem evidenceLaw_powerLost (landed : Bool) (h : EvidenceLaw s) (ht : exec (.powerLost landed) s = .next t) :
    EvidenceLaw t := by
  cases ht
  split
  · exact h
  · exact evidenceLaw_of_settled (settled_blank _ _ _ _)

theorem evidenceLaw_partReset (input : StartUpInput) (ht : exec (.partReset input) s = .next t) : EvidenceLaw t := by
  have hreset : partReset input s = t := Host.Outcome.next.inj ht
  exact hreset ▸ evidenceLaw_of_settled (settled_partReset input s)

theorem evidenceLaw_startUpEnd (senseLow : Bool) (h : EvidenceLaw s) (ht : exec (.startUpEnd senseLow) s = .next t) :
    EvidenceLaw t := by
  simp only [exec, execStartUpEnd] at ht
  split at ht <;> cases ht
  case h_1 due _ => exact evidenceLaw_congr (by cases due <;> rfl) h
  · exact h
  · exact h

theorem evidenceLaw_trialAccountJobStart (h : EvidenceLaw s) (ht : exec .trialAccountJobStart s = .next t) :
    EvidenceLaw t := by
  refine evidenceLaw_whenOn ?_ h ht
  split
  · exact evidenceLaw_of_settled (settled_startTrialAccount h.replays)
  · exact h

theorem evidenceLaw_ownerResetJobStart (h : EvidenceLaw s) (ht : exec .ownerResetJobStart s = .next t) :
    EvidenceLaw t := by
  unfold exec execOwnerResetJobStart at ht
  refine evidenceLaw_whenOn ?_ h ht
  split
  · exact evidenceLaw_of_settled (settled_startOwnerReset _ _ h.replays)
  · exact h

theorem evidenceLaw_chainExtendJobStart (h : EvidenceLaw s) (ht : exec .chainExtendJobStart s = .next t) :
    EvidenceLaw t := by
  refine evidenceLaw_whenOn (evidenceLaw_onStart ?_ h) h ht
  exact fun | ⟨_, _, .chainExtend _ _ _⟩, _, rfl, _, hu, ⟨_, hr, hj⟩ => evidenceLaw_startChainExtend hu hr hj

theorem evidenceLaw_chainExtendJobEnd (h : EvidenceLaw s) (ht : exec .chainExtendJobEnd s = .next t) :
    EvidenceLaw t := by
  refine evidenceLaw_jobEnd h ht fun r u hr hu => ?_
  split
  case h_1 hj hd => exact evidenceLaw_endChainExtend hu hr hj hd
  case h_2 => exact hu

theorem evidenceLaw_keyGenerateJobEnd (h : EvidenceLaw s) (ht : exec .keyGenerateJobEnd s = .next t) :
    EvidenceLaw t := by
  refine evidenceLaw_jobEnd h ht fun r u _ hu => ?_
  split
  · exact evidenceLaw_endJob _ _ hu.replays
  · exact evidenceLaw_of_settled (settled_generateStep _ _ _ hu.replays)
  · exact hu

theorem evidenceLaw_keyEraseJobEnd (h : EvidenceLaw s) (ht : exec .keyEraseJobEnd s = .next t) : EvidenceLaw t := by
  refine evidenceLaw_jobEnd h ht fun r u _ hu => ?_
  split
  · exact evidenceLaw_endJob _ _ (by simpa using hu.replays)
  · exact hu

theorem evidenceLaw_updateDataJobEnd (h : EvidenceLaw s) (ht : exec .updateDataJobEnd s = .next t) :
    EvidenceLaw t := by
  refine evidenceLaw_jobEnd h ht fun r u _ hu => ?_
  split
  · exact evidenceLaw_endUpdateData _ r hu
  · exact hu

theorem evidenceLaw_credSetJobEnd (h : EvidenceLaw s) (ht : exec .credSetJobEnd s = .next t) : EvidenceLaw t := by
  refine evidenceLaw_jobEnd h ht fun r u _ hu => ?_
  split
  · exact evidenceLaw_endJob _ _ (replays_storeCredential _ _ _ hu.replays)
  · exact hu

theorem evidenceLaw_credVerifyJobEnd (h : EvidenceLaw s) (ht : exec .credVerifyJobEnd s = .next t) :
    EvidenceLaw t := by
  refine evidenceLaw_jobEnd h ht fun r u _ hu => ?_
  split
  · exact evidenceLaw_endCredVerify _ _ r hu
  · exact hu

/-- The end of every job keeps the replay law. -/
theorem evidenceLaw_of_isJobEnd {c : Instr} (hc : isJobEnd c = true) (h : EvidenceLaw s) (ht : exec c s = .next t) :
    EvidenceLaw t := by
  cases c
  case chainExtendJobEnd => exact evidenceLaw_chainExtendJobEnd h ht
  case keyGenerateJobEnd => exact evidenceLaw_keyGenerateJobEnd h ht
  case keyEraseJobEnd => exact evidenceLaw_keyEraseJobEnd h ht
  case updateOpenJobEnd => exact evidenceLaw_jobEnd h ht fun r _ _ hu => evidenceLaw_endUpdateOpen r hu
  case updateDataJobEnd => exact evidenceLaw_updateDataJobEnd h ht
  case credSetJobEnd => exact evidenceLaw_credSetJobEnd h ht
  case credVerifyJobEnd => exact evidenceLaw_credVerifyJobEnd h ht
  case trialAccountJobEnd => exact evidenceLaw_jobEnd h ht fun r _ _ hu => evidenceLaw_endTrialAccount r hu
  case keyImportJobEnd | keyDeriveJobEnd | keySignJobEnd | keyVerifyJobEnd | quoteJobEnd | targetActivateJobEnd
    | bootConfirmJobEnd | credReleaseJobEnd | credClearJobEnd | settingsWriteJobEnd | ownerResetJobEnd =>
    refine evidenceLaw_jobEnd h ht fun r u _ hu => ?_
    split
    · exact evidenceLaw_endJob _ _ hu.replays
    · exact hu
  all_goals cases hc

/-- Every command keeps the replay law: frames, characters and ticks leave the evidence, jobs write at most the part's
own extensions or the value that an extension has computed, and a reset of the SoC or of the part clears chains together
with their entries. -/
theorem evidenceLaw_exec {c : Instr} (h : EvidenceLaw s) (ht : exec c s = .next t) : EvidenceLaw t := by
  cases c
  case chainExtendJobStart => exact evidenceLaw_chainExtendJobStart h ht
  case keyGenerateJobStart =>
    exact evidenceLaw_jobStart h ht fun
      | ⟨st, _, .keyGenerate p k⟩, _, rfl, _, hu => settled_startKeyGenerate st p k hu
  case keyImportJobStart =>
    exact evidenceLaw_jobStart h ht fun
      | ⟨st, _, .keyImport p m⟩, _, rfl, _, hu => settled_startKeyImport st p m hu
  case keyDeriveJobStart =>
    exact evidenceLaw_jobStart h ht fun
      | ⟨_, _, .keyDerive _ _ _ _ _ _ _⟩, _, rfl, _, hu => settled_startKeyDerive _ _ _ _ _ _ _ hu
  case keySignJobStart =>
    exact evidenceLaw_jobStart h ht fun
      | ⟨_, _, .keySign _ _ _⟩, _, rfl, _, hu => settled_startKeySign _ _ _ hu
  case keyVerifyJobStart =>
    exact evidenceLaw_jobStart h ht fun
      | ⟨_, _, .keyVerify _ _ _ _⟩, _, rfl, _, hu => settled_startKeyVerify _ _ _ _ hu
  case keyEraseJobStart =>
    exact evidenceLaw_jobStart h ht fun
      | ⟨st, _, .keyErase _ _⟩, _, rfl, _, hu => settled_startKeyErase st _ _ hu
  case quoteJobStart =>
    exact evidenceLaw_jobStart h ht fun
      | ⟨_, _, .quote _ _ _ _⟩, _, rfl, _, hu => settled_startQuote _ _ _ _ hu
  case updateOpenJobStart =>
    exact evidenceLaw_jobStart h ht fun
      | ⟨_, _, .updateOpen⟩, _, rfl, _, hu => settled_startUpdateOpen hu
  case updateDataJobStart =>
    exact evidenceLaw_jobStart h ht fun
      | ⟨_, _, .updateData _⟩, _, rfl, _, hu => settled_startUpdateData hu
  case targetActivateJobStart =>
    exact evidenceLaw_jobStart h ht fun
      | ⟨_, _, .targetActivate i⟩, _, rfl, _, hu => settled_startTargetActivate i hu
  case bootConfirmJobStart =>
    exact evidenceLaw_jobStart h ht fun
      | ⟨_, _, .bootConfirm c⟩, _, rfl, _, hu => settled_startBootConfirm c hu
  case credSetJobStart =>
    exact evidenceLaw_jobStart h ht fun
      | ⟨st, _, .credSet p _ _⟩, _, rfl, _, hu => settled_startCredSet st p _ _ hu
  case credVerifyJobStart =>
    exact evidenceLaw_jobStart h ht fun
      | ⟨_, _, .credVerify id _⟩, _, rfl, _, hu => settled_startCredVerify id _ hu
  case credReleaseJobStart =>
    exact evidenceLaw_jobStart h ht fun
      | ⟨st, _, .credRelease id⟩, _, rfl, _, hu => settled_startCredRelease st id hu
  case credClearJobStart =>
    exact evidenceLaw_jobStart h ht fun
      | ⟨st, _, .credClear id⟩, _, rfl, _, hu => settled_startCredClear st id hu
  case settingsWriteJobStart =>
    exact evidenceLaw_jobStart h ht fun
      | ⟨st, _, .settingsWrite p⟩, _, rfl, _, hu => settled_startSettingsWrite st p hu
  case trialAccountJobStart => exact evidenceLaw_trialAccountJobStart h ht
  case ownerResetJobStart => exact evidenceLaw_ownerResetJobStart h ht
  case keyGenerateJobEnd | keyImportJobEnd | keyDeriveJobEnd | keySignJobEnd | keyVerifyJobEnd | keyEraseJobEnd
    | chainExtendJobEnd | quoteJobEnd | updateOpenJobEnd | updateDataJobEnd | targetActivateJobEnd
    | bootConfirmJobEnd | credSetJobEnd | credVerifyJobEnd | credReleaseJobEnd | credClearJobEnd
    | settingsWriteJobEnd | trialAccountJobEnd | ownerResetJobEnd => exact evidenceLaw_of_isJobEnd rfl h ht
  case storeWriteComplete => exact evidenceLaw_whenOn (evidenceLaw_writeCompletes h) h ht
  case credVerifyChargeWritten => exact evidenceLaw_whenOn (evidenceLaw_chargeWritten h) h ht
  case storeWriteFailed landed => exact evidenceLaw_whenOn (evidenceLaw_writeFails landed h) h ht
  case decisecondTick samples => exact evidenceLaw_tickEvent (evidenceLaw_beforeTick s samples h) ht
  case decayTick samples | lockoutEnd _ samples | grantExpiry _ samples | idleDeadlineExpiry samples
    | trialTimerExpiry samples | gapTimeout samples | socrstPulseEnd samples =>
    simp only [exec, execDecayTick, execLockoutEnd, execGrantExpiry, execIdleDeadlineExpiry, execTrialTimerExpiry,
      execGapTimeout, execSocrstPulseEnd] at ht
    exact evidenceLaw_tickWhen (evidenceLaw_beforeTick s samples h) ht
  case buttonHoldEvent => exact evidenceLaw_tickWhen h ht
  case socResetSensed | socrstSenseReleased => exact evidenceLaw_whenOn (evidenceLaw_readSense s _ h) h ht
  case addressCharacter value => exact evidenceLaw_whenOn_same (evidence_addressCharacter s value) h ht
  case dataCharacter value => exact evidenceLaw_whenOn_same (evidence_dataCharacter s value) h ht
  case badCharacter kind => exact evidenceLaw_whenOn_same (evidence_badCharacter s) h ht
  case txItemEnd => exact evidenceLaw_whenOn_same (evidence_itemEnds s) h ht
  case powerLost landed => exact evidenceLaw_powerLost landed h ht
  case partReset input => exact evidenceLaw_partReset input ht
  case startUpEnd senseLow => exact evidenceLaw_startUpEnd senseLow h ht
  all_goals exact evidenceLaw_frame rfl h ht

end Commands

/-- Settles O54: the step of an empty queue changes nothing, and any other is that of a command. -/
theorem logReplaysToChains : Obligations.LogReplaysToChains := by
  intro s t h ht
  unfold step at ht
  split at ht
  case h_1 =>
    cases ht
    exact h
  case h_2 c rest _ => exact evidenceLaw_exec (s := s.withPending rest) (evidenceLaw_congr rfl h) ht

end Sys2Proof.Machine
end

section
/-! PROOFS. The requests that list what the part holds: FLOOR_READ, SETTINGS_READ, TARGET_LIST, BOOT_QUERY and CRED_INFO
(R89, R110, R111, R128, R201), and the layouts of their replies (R207, R210). -/

namespace Sys2Proof.Machine

open Sys2Proof

@[simp] theorem fin?_class (c : ClassNo) : fin? 4 (byte c).toNat = some c := fin?_byte (by decide) c

@[simp] theorem fin?_cred (id : CredId) : fin? 16 (byte id).toNat = some id := fin?_byte (by decide) id

/-! ### Who may list what (R163) -/

theorem permitted_bootQuery_iff (st : Station) (body : List Byte) :
    permitted .bootQuery st body = true ↔ st.val ≤ 1 := by
  fin_cases st <;> simp [permitted]

theorem permitted_credInfo_iff (st : Station) (body : List Byte) :
    permitted .credInfo st body = true ↔ 2 ≤ st.val := by
  fin_cases st <;> simp [permitted]

/-! ### FLOOR_READ and SETTINGS_READ (R111, R201) -/

theorem floorOf_of_class {c : ClassNo} {r : ClassRecord} {s : State} (h : s.classes.get c = some r) :
    floorOf c s = r.floor := by
  simp [floorOf, h]

section Listing

variable {st : Station} {flags b : Byte} {body : List Byte} {s : State}

theorem floorRead_of_body (hs : Ready st flags s) (hl : body.length ≤ Config.bodyCap) (h : body ≠ []) :
    exec (.floorRead st flags body) s = .next (answered st .badLength .floorRead [] flags (lineIdle s)) :=
  exec_badLength (c := .floorRead) hs hl nofun nofun (by simpa [lengthOk] using h)

/-- FLOOR_READ gives the floors in class order. -/
theorem floorRead_of_noBody (hs : Ready st flags s) :
    exec (.floorRead st flags []) s
      = .next (answered st .ok .floorRead
          (be16 (floorOf 0 s) ++ be16 (floorOf 1 s) ++ be16 (floorOf 2 s) ++ be16 (floorOf 3 s)) flags
          (lineIdle s)) :=
  exec_passes (c := .floorRead) hs (by simp) nofun nofun rfl rfl nofun

/-- SETTINGS_READ gives the record of the store, then the address base that the line uses. -/
theorem settingsRead_of_noBody (hs : Ready st flags s) :
    exec (.settingsRead st flags []) s
      = .next (answered st .ok .settingsRead
          (settingsBytes s.store.settings ++ [byte s.settings.addressBase]) flags (lineIdle s)) :=
  exec_passes (c := .settingsRead) hs (by simp) nofun nofun rfl rfl nofun

/-! ### TARGET_LIST (R89) -/

theorem targetList_of_other (hs : Ready st flags s) (h : st ≠ 2) :
    exec (.targetList st flags []) s = .next (answered st .notPermitted .targetList [] flags (lineIdle s)) :=
  exec_notPermitted (c := .targetList) hs (by simp) nofun nofun rfl (by simpa [permitted] using h)

/-- The entry of a place in the target table, as TARGET_LIST gives it. -/
def entryBytes (s : State) (i : TargetNo) : List Byte := targetBytes i (s.targets.get i)

/-- TARGET_LIST gives station 2 the eight entries in the order of the table. -/
theorem targetList_of_station2 (hs : Ready 2 flags s) :
    exec (.targetList 2 flags []) s
      = .next (answered 2 .ok .targetList
          (entryBytes s 0 ++ entryBytes s 1 ++ entryBytes s 2 ++ entryBytes s 3 ++ entryBytes s 4 ++ entryBytes s 5
            ++ entryBytes s 6 ++ entryBytes s 7) flags (lineIdle s)) := by
  refine (exec_passes (c := .targetList) hs (by simp) nofun nofun rfl rfl nofun).trans ?_
  have hentries : ((List.finRange 8).flatMap fun i => targetBytes i (s.targets.get i))
      = entryBytes s 0 ++ entryBytes s 1 ++ entryBytes s 2 ++ entryBytes s 3 ++ entryBytes s 4 ++ entryBytes s 5
        ++ entryBytes s 6 ++ entryBytes s 7 := by
    simp [List.finRange_succ, entryBytes]
  simp only [takeRequest, takeTargetList, lineIdle_targets, hentries]
  rfl

/-! ### BOOT_QUERY (R110) -/

theorem accountingDue_iff (s : State) :
    accountingDue s = true
      ↔ Job.trialAccount ∈ s.queue ∨ ∃ r, s.running = some r ∧ r.job = .trialAccount := by
  simp [accountingDue, Option.any_eq_true]

@[simp] theorem accountingDue_lineIdle (s : State) : accountingDue (lineIdle s) = accountingDue s := rfl

theorem bootQuery_of_other (hs : Ready st flags s) (h : 2 ≤ st.val) :
    exec (.bootQuery st flags [b]) s = .next (answered st .notPermitted .bootQuery [] flags (lineIdle s)) := by
  refine exec_notPermitted (c := .bootQuery) hs (by simp [Config.bodyCap]) nofun nofun rfl ?_
  rw [Bool.eq_false_iff, Ne, permitted_bootQuery_iff]
  omega

theorem exec_bootQuery (hs : Ready st flags s) (h : st.val ≤ 1) :
    exec (.bootQuery st flags [b]) s
      = .next (recomputeAttn (giveReceipt .taken (takeBootQuery st (hasBit flags 0) [b] (lineIdle s)))) :=
  exec_passes (c := .bootQuery) hs (by simp [Config.bodyCap]) nofun nofun rfl ((permitted_bootQuery_iff st _).2 h) nofun

theorem bootQuery_of_noClass (hs : Ready st flags s) (h : st.val ≤ 1) (hb : 4 ≤ b.toNat) :
    exec (.bootQuery st flags [b]) s = .next (answered st .badArgument .bootQuery [] flags (lineIdle s)) := by
  rw [exec_bootQuery hs h]
  simp only [takeBootQuery, byteAt_cons_zero, fin?_eq_none hb]
  rfl

/-- BOOT_QUERY does not wait for an accounting that is due: it is refused. -/
theorem bootQuery_of_accountingDue (hs : Ready st flags s) (h : st.val ≤ 1) (c : ClassNo)
    (hdue : accountingDue s = true) :
    exec (.bootQuery st flags [byte c]) s = .next (answered st .trialBusy .bootQuery [] flags (lineIdle s)) := by
  rw [exec_bootQuery hs h]
  simp only [takeBootQuery, byteAt_cons_zero, fin?_class, accountingDue_lineIdle, hdue]
  rfl

theorem bootQuery_of_class (hs : Ready st flags s) (h : st.val ≤ 1) {c : ClassNo} {r : ClassRecord}
    (hdue : ¬accountingDue s = true) (hc : s.classes.get c = some r) :
    exec (.bootQuery st flags [byte c]) s
      = .next (answered st .ok .bootQuery (classReport c r) flags (lineIdle s)) := by
  rw [exec_bootQuery hs h]
  simp only [takeBootQuery, byteAt_cons_zero, fin?_class, accountingDue_lineIdle, if_neg hdue, lineIdle_classes, hc]
  rfl

@[simp] theorem ClassRecord.image_a (r : ClassRecord) : r.image .a = r.imageA := rfl

@[simp] theorem ClassRecord.image_b (r : ClassRecord) : r.image .b = r.imageB := rfl

/-- The image record of the bank to boot, or as many zeros (R210). -/
def imageBytes (i : Option ImageRecord) : List Byte :=
  i.elim (List.replicate 36 0) fun i =>
    be16 i.version ++ i.digest.list ++ byte i.signer :: byte i.label.length :: i.label

/-- The class record's report, field by field (R210). -/
theorem classReport_eq (c : ClassNo) (r : ClassRecord) :
    classReport c r
      = byte c :: r.state.toByte :: be16 r.floor ++ [r.bootBank.toByte, byte r.attempts]
        ++ imageBytes (r.image r.bootBank) ++ [bankStatus r.imageA, bankStatus r.imageB] := by
  rcases h : r.image r.bootBank with _ | i <;> simp [classReport, imageBytes, counted, zeros, h]

/-! ### CRED_INFO (R128) -/

theorem credInfo_of_other (hs : Ready st flags s) (h : st.val ≤ 1) :
    exec (.credInfo st flags [b]) s = .next (answered st .notPermitted .credInfo [] flags (lineIdle s)) := by
  refine exec_notPermitted (c := .credInfo) hs (by simp [Config.bodyCap]) nofun nofun rfl ?_
  rw [Bool.eq_false_iff, Ne, permitted_credInfo_iff]
  omega

theorem exec_credInfo (hs : Ready st flags s) (h : 2 ≤ st.val) :
    exec (.credInfo st flags [b]) s
      = .next (recomputeAttn (giveReceipt .taken (takeCredInfo st (hasBit flags 0) [b] (lineIdle s)))) :=
  exec_passes (c := .credInfo) hs (by simp [Config.bodyCap]) nofun nofun rfl ((permitted_credInfo_iff st _).2 h) nofun

theorem credInfo_of_noCred (hs : Ready st flags s) (h : 2 ≤ st.val) (hb : 16 ≤ b.toNat) :
    exec (.credInfo st flags [b]) s = .next (answered st .badArgument .credInfo [] flags (lineIdle s)) := by
  rw [exec_credInfo hs h]
  simp only [takeCredInfo, byteAt_cons_zero, fin?_eq_none hb]
  rfl

theorem credInfo_of_cred (hs : Ready st flags s) (h : 2 ≤ st.val) (id : CredId) :
    exec (.credInfo st flags [byte id]) s
      = .next (answered st .ok .credInfo (credentialInfo id st s) flags (lineIdle s)) := by
  rw [exec_credInfo hs h]
  simp only [takeCredInfo, byteAt_cons_zero, fin?_cred]
  rfl

end Listing

/-- Settles O9: the reply of each request is read off, and its layout compared with the statement's field by field. -/
theorem listingRequestsReport : Obligations.ListingRequestsReport := by
  refine ⟨fun st flags body s hs hl => ⟨floorRead_of_body hs hl, ?floors⟩, ?lists, ?queries⟩
  case floors =>
    rintro r0 r1 r2 r3 h0 h1 h2 h3 rfl
    rw [floorRead_of_noBody hs, floorOf_of_class h0, floorOf_of_class h1, floorOf_of_class h2, floorOf_of_class h3]
  case lists =>
    intro st flags s hs entry
    have hentry : entry = entryBytes s := by
      funext i
      rcases ht : s.targets.get i with _ | t
      · simp only [entry, entryBytes, targetBytes, ht]
      · simp only [entry, entryBytes, targetBytes, ht, counted]
        congr 3
        funext a
        cases a <;> rfl
    refine ⟨settingsRead_of_noBody hs, ?_, targetList_of_other hs⟩
    rintro rfl
    rw [hentry]
    exact targetList_of_station2 hs
  case queries =>
    intro st flags b s hs boot info status claimed
    refine ⟨bootQuery_of_other hs, credInfo_of_other hs, bootQuery_of_noClass hs, credInfo_of_noCred hs,
      fun c hst hb => ?boot, fun id hst hb => ?info⟩
    case boot =>
      subst hb
      refine ⟨fun hdue => bootQuery_of_accountingDue hs hst c ((accountingDue_iff s).2 hdue), ?_⟩
      intro r hqueue hrunning hc parts
      have hdue : ¬accountingDue s = true := by
        simpa [accountingDue_iff] using And.intro hqueue hrunning
      have hparts : parts = (r.state.toByte, r.bootBank, r.attempts) := by
        simp only [parts, ClassRecord.bootBank, ClassRecord.attempts]
        cases r.state <;> rfl
      have hreport : boot .ok (classReport c r) := bootQuery_of_class hs hst hdue hc
      have hstatus : status = bankStatus := by
        funext i
        cases i <;> rfl
      rw [hparts, hstatus]
      convert hreport using 1
      rw [classReport_eq]
      refine congrArg₂ (· ++ ·) (congrArg₂ (· ++ ·) rfl ?image) rfl
      case image =>
        cases r.bootBank with
        | a =>
          rw [ClassRecord.image_a]
          cases r.imageA <;> rfl
        | b =>
          rw [ClassRecord.image_b]
          cases r.imageB <;> rfl
    case info =>
      subst hb
      have hclaimed : claimed = ownerClaimed s := by
        simp only [claimed, ownerClaimed, heldCred?]
        cases s.creds.get 0 <;> rfl
      have hinfo : info .ok (credentialInfo id st s) := credInfo_of_cred hs hst id
      rw [hclaimed]
      convert hinfo using 1
      refine congrArg₂ (· ++ [_] ++ ·) ?record ?grant
      case record =>
        cases s.creds.get id with
        | empty | reserved => rfl
        | held r => cases r.lockout <;> rfl
      case grant => cases (s.stations.get st).grant <;> rfl

end Sys2Proof.Machine
end

section
/-! PROOFS. GRANT_DROP: who may send it (R163), and the end of the sender's own grant (R132). -/

namespace Sys2Proof.Machine

open Sys2Proof

theorem permitted_grantDrop_iff (st : Station) (body : List Byte) :
    permitted .grantDrop st body = true ↔ 2 ≤ st.val := by
  fin_cases st <;> simp [permitted]

/-- A station without a grant has none to end. -/
theorem endGrant_of_none {st : Station} {s : State} (h : (s.stations.get st).grant = none) : endGrant st s = s := by
  have hrec : { s.stations.get st with grant := none } = s.stations.get st := by rw [← h]
  rw [endGrant, hrec, setStation, Tbl.set_get_self]

section GrantDrop

variable {st : Station} {flags : Byte} {body : List Byte} {s : State}

theorem grantDrop_of_body (hs : Ready st flags s) (hl : body.length ≤ Config.bodyCap) (h : body ≠ []) :
    exec (.grantDrop st flags body) s = .next (answered st .badLength .grantDrop [] flags (lineIdle s)) :=
  exec_badLength (c := .grantDrop) hs hl nofun nofun (by simpa [lengthOk] using h)

theorem grantDrop_of_other (hs : Ready st flags s) (h : st.val < 2) :
    exec (.grantDrop st flags []) s = .next (answered st .notPermitted .grantDrop [] flags (lineIdle s)) := by
  refine exec_notPermitted (c := .grantDrop) hs (by simp) nofun nofun rfl ?_
  rw [Bool.eq_false_iff, Ne, permitted_grantDrop_iff]
  omega

/-- GRANT_DROP reports the grant that the station held before, if any, and ends it. -/
theorem exec_grantDrop (hs : Ready st flags s) (h : 2 ≤ st.val) :
    exec (.grantDrop st flags []) s
      = .next (answered st .ok .grantDrop (grantId (s.stations.get st).grant) flags (lineIdle (endGrant st s))) :=
  exec_passes (c := .grantDrop) hs (by simp) nofun nofun rfl ((permitted_grantDrop_iff st _).2 h) nofun

end GrantDrop

/-- Settles O14: checks 3 and 4 refuse a body and the other stations, and the sender either holds a grant, which ends,
or has none to end. -/
theorem grantDropEndsOwnGrant : Obligations.GrantDropEndsOwnGrant := by
  intro st flags body s hs hl
  refine ⟨grantDrop_of_body hs hl, ?other, ?own⟩
  case other =>
    rintro rfl hst
    exact grantDrop_of_other hs hst
  case own =>
    rintro rfl hst
    refine ⟨fun g hg => ?held, fun hnone => ?none⟩
    case held =>
      rw [exec_grantDrop hs hst, hg]
      rfl
    case none =>
      rw [exec_grantDrop hs hst, hnone, endGrant_of_none hnone]
      rfl

end Sys2Proof.Machine
end

section
/-! PROOFS. The arithmetic of the attempt governor: the lockout delay of a penalty (R141), and the bounds that a charge,
a success and decay keep the penalty within (R139, R144, R145). -/

namespace Sys2Proof.Machine

open Sys2Proof

/-! ### The lockout delay (R141) -/

section Delay

variable {p p' : Nat}

theorem lockoutDelay_of_lt (h : p < 128) : lockoutDelay p = 0 := if_pos h

theorem lockoutDelay_of_le (h : 128 ≤ p) : lockoutDelay p = min ((p - 96) ^ 2 / 16) 36000 := by
  rw [lockoutDelay, if_neg (Nat.not_lt.2 h), sq]

theorem lockoutDelay_le_cap (p : Nat) : lockoutDelay p ≤ 36000 := by
  obtain hlt | hle := Nat.lt_or_ge p 128
  · simp [lockoutDelay_of_lt hlt]
  · simp [lockoutDelay_of_le hle]

/-- The delay is 0 up to the threshold, and from there the square, the division and the cap each keep the order. -/
theorem lockoutDelay_mono (h : p ≤ p') : lockoutDelay p ≤ lockoutDelay p' := by
  obtain hlt | hle := Nat.lt_or_ge p 128
  · simp [lockoutDelay_of_lt hlt]
  · rw [lockoutDelay_of_le hle, lockoutDelay_of_le (hle.trans h)]
    gcongr

/-- As the delay never falls, its values at 854 and 855 say on which side of them it stands at the cap. -/
theorem lockoutDelay_eq_cap_iff (p : Nat) : 855 ≤ p ↔ lockoutDelay p = 36000 := by
  constructor
  · intro h
    have hcap : lockoutDelay 855 = 36000 := by decide
    exact (lockoutDelay_le_cap p).antisymm (hcap ▸ lockoutDelay_mono h)
  · intro h
    by_contra hlt
    have hbelow : lockoutDelay 854 < 36000 := by decide
    have hle : lockoutDelay p ≤ lockoutDelay 854 := lockoutDelay_mono (by omega)
    omega

end Delay

/-! ### The bounds of the penalty (R139, R144, R145) -/

theorem chargedPenalty_le_cap (p streak : Nat) : chargedPenalty p streak ≤ 1023 := Nat.min_le_right ..

/-- A success never raises the penalty. -/
theorem forgivenPenalty_le (p amount : Nat) : forgivenPenalty p amount ≤ p :=
  (Nat.div_le_self ..).trans (Nat.sub_le ..)

/-- Decay never raises the penalty. -/
theorem decayed_le (isDecay : Bool) (p : Nat) : decayed isDecay p ≤ p := by
  cases isDecay with
  | true => exact Nat.sub_le ..
  | false => exact le_rfl

/-- Settles O42: the delay's two branches and its order give the table, and a charge is capped where a success and decay
only lower the penalty. -/
theorem lockoutDelayIsTheTable : Obligations.LockoutDelayIsTheTable := by
  refine ⟨fun _ => lockoutDelay_of_lt, fun _ => lockoutDelay_of_le, lockoutDelay_le_cap, chargedPenalty_le_cap,
    fun p amount isDecay h => ⟨(forgivenPenalty_le p amount).trans h, (decayed_le isDecay p).trans h⟩,
    fun _ _ => lockoutDelay_mono, lockoutDelay_eq_cap_iff, ?values⟩
  case values => decide

end Sys2Proof.Machine
end

section
/-! PROOFS. What a command can do, said once: the elementary moves that the part makes, each with the conditions under
which it is made, and every command that leaves the part its power as a chain of moves. What every step keeps follows
from what each move keeps. -/

namespace Sys2Proof.Machine

open Sys2Proof

/-! ### What the laws look at -/

/-- The part of the state that the laws of the engine, the governor, the key table and the boot directory look at. -/
structure LawView where
  pending : List Instr
  power : Power
  stations : Tbl StationRec 4
  queue : List Job
  running : Option Running
  fault : Bool
  uptime : Count
  keys : Tbl KeySlot 64
  revoked : List (Bytes 32)
  frozen : ChainNo → Bool
  classes : Tbl (Option ClassRecord) 4
  creds : Tbl Credential 16
  store : Store

/-- What the laws look at in a state. -/
def lawView (s : State) : LawView :=
  { pending := s.pending, power := s.power, stations := s.stations, queue := s.queue, running := s.running
    fault := s.fault, uptime := s.time.uptime, keys := s.keys, revoked := s.revoked
    frozen := fun c => (s.chains.get c).frozen, classes := s.classes, creds := s.creds, store := s.store }

/-! ### The moves -/

/-- What a move may need leave for. -/
inductive Effect
  /-- A store write lands, or fails. -/
  | write
  /-- A sensed SoC reset takes what it takes. -/
  | boot
  /-- The reply slot or the waiting request of a station changes. -/
  | reply (st : Station)
  /-- A station's mask or grant changes. -/
  | record (st : Station)
  /-- The stage moves on. -/
  | stage
  /-- A job starts. -/
  | start
  /-- A job goes on or ends, or time goes by. -/
  | engine

/-- A step that a running job with a key still to give out does: one of its own, one that such a step brings with it,
or the write of a key record. -/
def JobStep.OwnedBy (step : JobStep) (r : Running) : Prop :=
  step ∈ r.todo ∨ (∃ x ∈ r.todo, ∃ u, step ∈ x.follow u) ∨ ∃ slot, step = .keyRecord slot

/-- A change of the running job that keeps whose job it is, and gives it no key but one whose fingerprint is free and
whose record alone is still to be written. -/
structure RunningChange (s : State) (f : Running → Running) : Prop where
  job : ∀ r, (f r).job = r.job
  crossed : ∀ r, (f r).crossed = r.crossed
  key : ∀ r k, s.running = some r → (f r).data = .key k →
    (r.data = .key k ∧ ∀ x ∈ (f r).todo, x.OwnedBy r)
      ∨ (fingerprintFree k.fingerprint s = true ∧ ∀ x ∈ (f r).todo, ∃ slot, x = .keyRecord slot)

/-- One move of the part. `may` says which effects are given leave. -/
inductive Move (may : Effect → Prop) : State → State → Prop
  | same {s t : State} (h : lawView t = lawView s) : Move may s t
  | freeze {s : State} (c : ChainNo) : Move may s (setChain c (s.chains.get c).freeze s)
  | dropKeys {s : State} (keys : Tbl KeySlot 64)
      (h : ∀ slot k, keys.get slot = .active k → s.keys.get slot = .active k) : Move may s { s with keys }
  | dropCreds {s : State} (creds : Tbl Credential 16)
      (h : ∀ id r, creds.get id = .held r → s.creds.get id = .held r) : Move may s { s with creds }
  | newCred {s : State} (id : CredId) (contents : CredContents) :
      Move may s (setCred id (.held { contents, penalty := 0, streak := 0, lockout := .absent }) s)
  | changeCred {s : State} (id : CredId) (contents : CredContents) {r : CredRecord} (h : heldCred? id s = some r) :
      Move may s (setCred id (.held { r with contents }) s)
  | lockCred {s : State} (id : CredId) {delay : Nat} (hd : delay ≤ Config.lockoutCap) (hp : s.power = .on)
      {r : CredRecord} (h : heldCred? id s = some r) :
      Move may s (setCred id (.held { r with lockout := startLockout s.time.uptime delay r.lockout }) s)
  | reply {s : State} (st : Station) (slot : Option Reply) (hm : may (.reply st))
      (h : slot = none ∨ requestState st s = .idle) :
      Move may s (setStation st { s.stations.get st with slot } s)
  | record {s : State} (st : Station) (r : StationRec) (hm : may (.record st))
      (h : r.slot = (s.stations.get st).slot) : Move may s (setStation st r s)
  | stage {s : State} (st : Station) (state : StationState) (hm : may .stage) : Move may s (moveStation st state s)
  | dropGrants {s : State} (b : Grant → Bool) (hm : may .engine) :
      Move may s { s with stations := s.stations.map (StationRec.dropGrant b) }
  | enqueue {s : State} (st : Station) (quiet : Bool) (w : Work) (hm : may (.reply st))
      (hi : requestState st s = .idle) (hr : (s.stations.get st).slot = none) (hf : s.fault = false)
      (hp : s.power = .on) : Move may s (enqueue st quiet w s)
  | attach {s : State} (quiet : Bool) (hm : may (.reply 2)) (hi : requestState 2 s = .idle)
      (hr : (s.stations.get 2).slot = none) (hf : s.fault = false) (hp : s.power = .on) :
      Move may s (attachOwnerReset quiet s)
  | withdraw {s : State} (st : Station) (hm : may (.reply st)) :
      Move may s { s with queue := s.queue.filterMap fun j => if j.holder = some st then j.withdrawn else some j }
  | unqueue {s : State} (st : Station) (hm : may (.reply st)) :
      Move may s { s with queue := s.queue.filter fun j => j.holder != some st }
  | queueButton {s : State} (hm : may .engine) (hp : s.power = .on) : Move may s (queueButtonReset s)
  | takeJob {s : State} (hm : may .start) (hf : s.fault = false) (hr : s.running = none) : Move may s (takeJob s)
  | running {s : State} (f : Running → Running) (h : RunningChange s f) :
      Move may s { s with running := s.running.map f }
  | endJob {s : State} (result : Result) (body : List Byte) (hm : may .engine) : Move may s (endJob result body s)
  | create {s : State} (slot : Slot) {r : Running} {k : KeyRecord} (hm : may .engine) (hr : s.running = some r)
      (hk : r.data = .key k) : Move may s (endCreate slot r k s)
  | step {s : State} (x : JobStep) (hm : may .engine) (hw : x.writes s = true → may .write)
      (ho : ∀ r k, s.running = some r → r.data = .key k → x.OwnedBy r) : Move may s (x.complete s)
  | fail {s : State} (x : JobStep) (landed : Bool) (hm : may .engine) (hw : may .write) : Move may s (x.fail landed s)
  | dropQueue {s : State} (hm : may .engine) (hr : s.running = none) : Move may s { s with queue := [], fault := true }
  | tick {s : State} (hm : may .engine) (hp : s.power = .on) : Move may s (tickCredentials (tickPulse (advanceTime s)))
  | bareTick {s : State} (hm : may .engine) (hp : s.power ≠ .on) : Move may s (advanceTime s)
  | withdrawAll {s : State} (hm : may .boot) : Move may s { s with queue := s.queue.filterMap Job.withdrawn }
  | cross {s : State} (hm : may .boot) : Move may s (crossRunning s)
  | bootStations {s : State} (hm : may .boot) : Move may s (resetStations s)
  | bootChains {s : State} (hm : may .boot) : Move may s (clearBootChains s)
  | queueTrial {s : State} (hm : may .boot) (hp : s.power = .on) : Move may s (queueTrialAccount s)

/-- A chain of moves. -/
abbrev Moves (may : Effect → Prop) : State → State → Prop := Relation.ReflTransGen (Move may)

section Chains

variable {may may' : Effect → Prop} {s t u : State}

theorem Moves.keeps {P : State → Prop} (hP : ∀ {s t}, Move may s t → P s → P t) (h : Moves may s t) (hs : P s) :
    P t := by
  induction h with
  | refl => exact hs
  | tail _ hmove ih => exact hP hmove ih

theorem Moves.trans (h : Moves may s t) (h' : Moves may t u) : Moves may s u := Relation.ReflTransGen.trans h h'

theorem Moves.tail (h : Moves may s t) (h' : Move may t u) : Moves may s u := Relation.ReflTransGen.tail h h'

theorem Moves.same (h : lawView t = lawView s) : Moves may s t := .single (.same h)

/-- Moves to a state, and on to one with the same view. -/
theorem Moves.thenSame (h : Moves may s t) (hu : lawView u = lawView t) : Moves may s u := h.tail (.same hu)

/-- Moves that begin in a state with the same view. -/
theorem Moves.fromSame (h : Moves may t u) (ht : lawView t = lawView s) : Moves may s u := .trans (.same ht) h

/-- Leave to do more is leave to do the same. -/
theorem Move.mono (hm : ∀ e, may e → may' e) (h : Move may s t) : Move may' s t := by
  cases h with
  | same h => exact .same h
  | freeze c => exact .freeze c
  | dropKeys keys h => exact .dropKeys keys h
  | dropCreds creds h => exact .dropCreds creds h
  | newCred id contents => exact .newCred id contents
  | changeCred id contents h => exact .changeCred id contents h
  | lockCred id hd hp h => exact .lockCred id hd hp h
  | reply st slot h1 h2 => exact .reply st slot (hm _ h1) h2
  | record st r h1 h2 => exact .record st r (hm _ h1) h2
  | stage st state h1 => exact .stage st state (hm _ h1)
  | dropGrants b h1 => exact .dropGrants b (hm _ h1)
  | enqueue st q w h1 h2 h3 h4 h5 => exact .enqueue st q w (hm _ h1) h2 h3 h4 h5
  | attach q h1 h2 h3 h4 h5 => exact .attach q (hm _ h1) h2 h3 h4 h5
  | withdraw st h1 => exact .withdraw st (hm _ h1)
  | unqueue st h1 => exact .unqueue st (hm _ h1)
  | queueButton h1 h2 => exact .queueButton (hm _ h1) h2
  | takeJob h1 h2 h3 => exact .takeJob (hm _ h1) h2 h3
  | running f h => exact .running f h
  | endJob r b h1 => exact .endJob r b (hm _ h1)
  | create slot h1 h2 h3 => exact .create slot (hm _ h1) h2 h3
  | step x h1 h2 h3 => exact .step x (hm _ h1) (fun h => hm _ (h2 h)) h3
  | fail x landed h1 h2 => exact .fail x landed (hm _ h1) (hm _ h2)
  | dropQueue h1 h2 => exact .dropQueue (hm _ h1) h2
  | tick h1 h2 => exact .tick (hm _ h1) h2
  | bareTick h1 h2 => exact .bareTick (hm _ h1) h2
  | withdrawAll h1 => exact .withdrawAll (hm _ h1)
  | cross h1 => exact .cross (hm _ h1)
  | bootStations h1 => exact .bootStations (hm _ h1)
  | bootChains h1 => exact .bootChains (hm _ h1)
  | queueTrial h1 h2 => exact .queueTrial (hm _ h1) h2

theorem Moves.mono (hm : ∀ e, may e → may' e) (h : Moves may s t) : Moves may' s t :=
  Relation.ReflTransGen.mono (fun _ _ => Move.mono hm) _ _ h

end Chains

end Sys2Proof.Machine
end

section
/-! PROOFS. The operations of requests as chains of moves. -/

namespace Sys2Proof.Machine

open Sys2Proof

/-! ### Operations that no law sees -/

section View

variable (s : State)

@[simp] theorem lawView_failStream (reason : Result) : lawView (failStream reason s) = lawView s := by
  unfold failStream
  split <;> rfl

@[simp] theorem lawView_failStale (stale : Manifest → Bool) (reason : Result) :
    lawView (failStale stale reason s) = lawView s := by
  unfold failStale
  split
  · split
    · exact lawView_failStream s reason
    · rfl
  · rfl

@[simp] theorem lawView_sweepKey (slot : Slot) : lawView (sweepKey slot s) = lawView s :=
  lawView_failStale _ _ _

@[simp] theorem lawView_sweepClassFloor (c : ClassNo) (bankChanged : Bool) :
    lawView (sweepClassFloor c bankChanged s) = lawView s :=
  lawView_failStale _ _ _

@[simp] theorem lawView_releaseStream (w : Work) : lawView (releaseStream w s) = lawView s := by
  cases w <;> rfl

/-- An extension leaves every frozen flag. -/
@[simp] theorem lawView_extendChain (c : ChainNo) (value m : Bytes 32) (tag : List Byte) (st : Option Station) :
    lawView (extendChain c value m tag st s) = lawView s := by
  have hfrozen (x : ChainNo) : ((extendChain c value m tag st s).chains.get x).frozen = (s.chains.get x).frozen := by
    rw [extendChain_get]
    split
    case isTrue h => rw [h]
    case isFalse => rfl
  simp only [lawView, hfrozen]
  rfl

@[simp] theorem lawView_partExtend (m : Marker) : lawView (partExtend m s) = lawView s := lawView_extendChain ..

theorem lawView_tickStream : lawView (tickStream s) = lawView s := by
  unfold tickStream
  split
  · split
    · exact lawView_failStream s _
    · rfl
  · rfl

theorem lawView_tickTimer : lawView (tickTimer s) = lawView s := by
  unfold tickTimer
  split
  · split_ifs <;> rfl
  · rfl

theorem lawView_tickGap : lawView (tickGap s) = lawView s := by
  unfold tickGap
  split_ifs <;> rfl

theorem lawView_addressCharacter (value : Byte) : lawView (addressCharacter value s) = lawView s := by
  unfold addressCharacter
  split
  · rfl
  · split <;> rfl

theorem lawView_badCharacter : lawView (badCharacter s) = lawView s := by
  unfold badCharacter
  split <;> rfl

theorem lawView_itemEnds : lawView (itemEnds s) = lawView s := by
  unfold itemEnds
  split <;> rfl

end View

/-! ### Request states -/

/-- The request states are computed from the queue and the running job alone. -/
theorem requestState_congr {s t : State} (hq : t.queue = s.queue) (hr : t.running = s.running) (st : Station) :
    requestState st t = requestState st s := by
  simp only [requestState, hq, hr]

theorem requestState_idle_iff (st : Station) (s : State) :
    requestState st s = .idle ↔
      s.running.bind Running.holder ≠ some st ∧ ∀ j ∈ s.queue, j.holder ≠ some st := by
  unfold requestState
  split_ifs with h1 h2
  · simp [h1]
  · simpa [h1] using h2
  · simpa [h1] using h2

theorem requestState_waiting_iff (st : Station) (s : State) :
    requestState st s = .waiting ↔
      s.running.bind Running.holder ≠ some st ∧ ∃ j ∈ s.queue, j.holder = some st := by
  unfold requestState
  split_ifs with h1 h2
  · simp [h1]
  · simpa [h1] using h2
  · simpa [h1] using h2

/-! ### The key table, the credentials and the undoing of notes -/

section Undo

variable {may : Effect → Prop} {s : State}

theorem moves_setKey {slot : Slot} {k : KeySlot} (h : ∀ r, k ≠ .active r) : Moves may s (setKey slot k s) := by
  refine .single (.dropKeys _ fun x r hx => ?_)
  rw [Tbl.get_set] at hx
  split at hx
  · exact absurd hx (h r)
  · exact hx

theorem moves_freeSlot (slot : Slot) : Moves may s (freeSlot slot s) := by
  refine .single (.dropKeys _ fun x r hx => ?_)
  rw [Tbl.get_set] at hx
  split at hx
  case isTrue h =>
    subst h
    split at hx
    · cases hx
    · exact hx
  case isFalse => exact hx

theorem moves_eraseAndSweep (slot : Slot) : Moves may s (eraseAndSweep slot s) :=
  (moves_setKey (by nofun)).thenSame (lawView_sweepKey _ slot)

theorem moves_setCred {id : CredId} {c : Credential} (h : ∀ r, c ≠ .held r) : Moves may s (setCred id c s) := by
  refine .single (.dropCreds _ fun x r hx => ?_)
  rw [Tbl.get_set] at hx
  split at hx
  · exact absurd hx (h r)
  · exact hx

theorem moves_freeCred (id : CredId) : Moves may s (freeCred id s) := by
  refine .single (.dropCreds _ fun x r hx => ?_)
  rw [Tbl.get_set] at hx
  split at hx
  case isTrue h =>
    subst h
    split at hx
    · cases hx
    · exact hx
  case isFalse => exact hx

theorem moves_releaseWork (w : Work) : Moves may s (releaseWork w s) := by
  cases w with
  | keyGenerate p kind => exact moves_freeSlot p.slot
  | keyImport p m => exact moves_freeSlot p.slot
  | keyDerive _ _ _ target _ _ _ => exact moves_freeSlot target
  | credSet p change needs =>
    cases change
    · exact moves_freeCred p.id
    · exact .refl
  | bootConfirm c => exact .same rfl
  | _ => exact .refl

theorem moves_undoJob (j : Job) : Moves may s (undoJob j s) := by
  cases j with
  | station j => exact (moves_releaseWork j.work).thenSame (lawView_releaseStream _ _)
  | trialAccount => exact .refl
  | ownerReset a b => exact .refl

/-- Undoing a job's notes leaves the engine and the station records alone. -/
structure SameEngine (s t : State) : Prop where
  stations : t.stations = s.stations
  queue : t.queue = s.queue
  running : t.running = s.running
  fault : t.fault = s.fault
  power : t.power = s.power

theorem sameEngine_releaseWork (w : Work) (s : State) : SameEngine s (releaseWork w s) := by
  cases w with
  | credSet p change needs => cases change <;> exact ⟨rfl, rfl, rfl, rfl, rfl⟩
  | _ => exact ⟨rfl, rfl, rfl, rfl, rfl⟩

theorem sameEngine_undoJob (j : Job) (s : State) : SameEngine s (undoJob j s) := by
  cases j with
  | station j =>
    obtain ⟨h1, h2, h3, h4, h5⟩ := sameEngine_releaseWork j.work s
    cases hw : j.work <;> simp only [undoJob, hw, releaseStream] at * <;> exact ⟨h1, h2, h3, h4, h5⟩
  | _ => exact ⟨rfl, rfl, rfl, rfl, rfl⟩

end Undo

/-! ### Requests at take -/

section Take

variable {may : Effect → Prop} {st : Station} {q : Bool} {s : State}

/-- A reply is placed for a station without a request in hand, after moves that leave the engine alone. -/
theorem moves_placeReply {u : State} {r : Result} {c : Byte} {b : List Byte} (hm : may (.reply st))
    (hi : requestState st s = .idle) (h : Moves may s u) (hq : u.queue = s.queue) (hr : u.running = s.running) :
    Moves may s (placeReply st r c b q u) :=
  h.tail (.reply st _ hm (.inr ((requestState_congr hq hr st).trans hi)))

/-- What a request at take finds: its station has no request in hand and an empty reply slot, and the part runs. -/
structure TakenFrom (may : Effect → Prop) (st : Station) (s : State) : Prop where
  reply : may (.reply st)
  record : may (.record st)
  idle : requestState st s = .idle
  empty : (s.stations.get st).slot = none
  power : s.power = .on

variable (h : TakenFrom may st s)
include h

theorem moves_answer (c : ReqCode) (r : Result) (b : List Byte) : Moves may s (answer c st q r b s) :=
  moves_placeReply h.reply h.idle .refl rfl rfl

theorem moves_answer_same {u : State} (c : ReqCode) (r : Result) (b : List Byte) (hu : lawView u = lawView s) :
    Moves may s (answer c st q r b u) :=
  moves_placeReply h.reply h.idle (.same hu) (congrArg LawView.queue hu) (congrArg LawView.running hu)

variable (hf : s.fault = false)
include hf

theorem moves_enqueue (w : Work) : Moves may s (enqueue st q w s) :=
  .single (.enqueue st q w h.reply h.idle h.empty hf h.power)

/-- A request joins the queue after moves that leave the engine alone. -/
theorem moves_then_enqueue {u : State} (w : Work) (hu : Moves may s u) (he : SameEngine s u) :
    Moves may s (enqueue st q w u) := by
  obtain ⟨hstations, hqueue, hrunning, hfault, hpower⟩ := he
  exact hu.tail (.enqueue st q w h.reply ((requestState_congr hqueue hrunning st).trans h.idle)
    (by rw [hstations]; exact h.empty) (hfault.trans hf) (hpower.trans h.power))

theorem moves_takeWork (c : ReqCode) (w : Except Result Work) : Moves may s (takeWork c st q w s) := by
  cases w with
  | error r => exact moves_answer h c r []
  | ok w => exact moves_enqueue h hf w

theorem moves_takeKeyDerive (body : List Byte) : Moves may s (takeKeyDerive st q body s) := by
  unfold takeKeyDerive
  split
  · exact moves_answer h _ _ _
  · refine moves_then_enqueue h hf _ ?_ ?_
    · unfold reserveTarget
      split
      · exact moves_setKey (by nofun)
      · exact .refl
    · unfold reserveTarget
      split <;> exact ⟨rfl, rfl, rfl, rfl, rfl⟩

theorem moves_takeCredSet (body : List Byte) : Moves may s (takeCredSet st q body s) := by
  unfold takeCredSet
  split
  · exact moves_answer h _ _ _
  · refine moves_then_enqueue h hf _ ?_ ?_
    · unfold reserveId
      split
      · split
        · exact .refl
        · exact moves_setCred (by nofun)
      · exact .refl
    · unfold reserveId
      split
      · split <;> exact ⟨rfl, rfl, rfl, rfl, rfl⟩
      · exact ⟨rfl, rfl, rfl, rfl, rfl⟩

theorem moves_takeKeyErase (body : List Byte) : Moves may s (takeKeyErase st q body s) := by
  unfold takeKeyErase
  split
  · exact moves_answer h _ _ _
  · split
    · rename_i slot _ _ _ _
      have hview : lawView (eraseAndSweep slot s) = lawView (setKey slot .empty s) := lawView_sweepKey _ _
      exact moves_placeReply h.reply h.idle (moves_eraseAndSweep slot) (congrArg LawView.queue hview)
        (congrArg LawView.running hview)
    · exact moves_enqueue h hf _

theorem moves_takeUpdateData (body : List Byte) : Moves may s (takeUpdateData st q body s) := by
  unfold takeUpdateData
  split
  · split
    · exact moves_answer_same h _ _ _ (lawView_failStream _ _)
    · exact moves_then_enqueue h hf _ (.same rfl) ⟨rfl, rfl, rfl, rfl, rfl⟩
  · exact moves_answer h _ _ _

omit hf in
theorem moves_takeTargetDiscard (body : List Byte) : Moves may s (takeTargetDiscard st q body s) := by
  unfold takeTargetDiscard
  split
  · exact moves_answer h _ _ _
  · split
    · exact moves_answer h _ _ _
    · exact moves_answer_same h _ _ _ rfl

omit hf in
theorem moves_takeBootQuery (body : List Byte) : Moves may s (takeBootQuery st q body s) := by
  unfold takeBootQuery
  split
  · exact moves_answer h _ _ _
  · split
    · exact moves_answer h _ _ _
    · split <;> exact moves_answer h _ _ _

omit hf in
theorem moves_takeKeyPublic (body : List Byte) : Moves may s (takeKeyPublic st q body s) := by
  unfold takeKeyPublic
  split
  · exact moves_answer h _ _ _
  · split
    · exact moves_answer h _ _ _
    · split <;> exact moves_answer h _ _ _

omit hf in
theorem moves_takeSetNoticeMask (body : List Byte) : Moves may s (takeSetNoticeMask st q body s) := by
  unfold takeSetNoticeMask
  split
  · rename_i own _ _ _
    exact moves_placeReply h.reply h.idle
      (Moves.thenSame (.single (.record st { s.stations.get st with masked := own } h.record rfl)) rfl) rfl rfl
  · exact moves_answer h _ _ _

omit h hf in
theorem moves_closeStage (hm : may .stage) : Moves may s (closeStage st s) := by
  unfold closeStage
  split
  · exact .tail (.single (.stage 0 _ hm)) (.stage 1 _ hm)
  · exact .tail (.tail (.single (.stage 1 _ hm)) (.stage 2 _ hm)) (.stage 3 _ hm)
  · exact .refl

omit hf in
theorem moves_takeCloseStage (hm : may .stage) : Moves may s (takeCloseStage st q s) := by
  refine moves_placeReply h.reply h.idle (moves_closeStage hm) ?_ ?_ <;>
  · unfold closeStage
    split <;> rfl

omit hf in
theorem moves_takeChainFreeze (body : List Byte) : Moves may s (takeChainFreeze st q body s) := by
  unfold takeChainFreeze
  split
  · exact moves_answer h _ _ _
  · exact moves_placeReply h.reply h.idle (.single (.freeze _)) rfl rfl

/-- A request of a part in use that has passed checks 1 to 6 is a chain of moves. -/
theorem moves_takeRequest {c : ReqCode} {body : List Byte} (hperm : permitted c st body = true)
    (hstage : c = .closeStage → may .stage) : Moves may s (takeRequest c st q body s) := by
  cases c with
  | fetch | abort => exact .refl
  | status | conditions | settingsRead | identityRead | targetList | floorRead => exact moves_answer h _ _ _
  | updateAbort => exact moves_answer_same h _ _ _ rfl
  | settingsWrite | keySign | keyVerify | chainExtend | quote | targetActivate | credVerify | credRelease
  | credClear => exact moves_takeWork h hf _ _
  | keyErase => exact moves_takeKeyErase h hf body
  | keyDerive => exact moves_takeKeyDerive h hf body
  | credSet => exact moves_takeCredSet h hf body
  | updateData => exact moves_takeUpdateData h hf body
  | targetDiscard => exact moves_takeTargetDiscard h body
  | bootQuery => exact moves_takeBootQuery h body
  | keyPublic => exact moves_takeKeyPublic h body
  | setNoticeMask => exact moves_takeSetNoticeMask h body
  | closeStage => exact moves_takeCloseStage h (hstage rfl)
  | chainFreeze => exact moves_takeChainFreeze h body
  | ownerReset =>
    obtain rfl : st = 2 := by simpa [permitted] using hperm
    exact .single (.attach q h.reply h.idle h.empty hf h.power)
  | grantDrop =>
    exact moves_placeReply h.reply h.idle
      (.single (.record st { s.stations.get st with grant := none } h.record rfl)) rfl rfl
  | clearConditions =>
    simp only [takeRequest, takeClearConditions]
    split
    · exact moves_answer h _ _ _
    · exact moves_answer_same h _ _ _ rfl
  | keyGenerate =>
    simp only [takeRequest, takeKeyGenerate]
    split
    · exact moves_answer h _ _ _
    · exact moves_then_enqueue h hf _ (moves_setKey (by nofun)) ⟨rfl, rfl, rfl, rfl, rfl⟩
  | keyImport =>
    simp only [takeRequest, takeKeyImport]
    split
    · exact moves_answer h _ _ _
    · exact moves_then_enqueue h hf _ (moves_setKey (by nofun)) ⟨rfl, rfl, rfl, rfl, rfl⟩
  | keyInfo => simp only [takeRequest, takeKeyInfo]; split <;> exact moves_answer h _ _ _
  | chainRead => simp only [takeRequest, takeChainRead]; split <;> exact moves_answer h _ _ _
  | logRead => simp only [takeRequest, takeLogRead]; split <;> exact moves_answer h _ _ _
  | credInfo => simp only [takeRequest, takeCredInfo]; split <;> exact moves_answer h _ _ _
  | updateOpen =>
    simp only [takeRequest, takeUpdateOpen]
    split
    · exact moves_then_enqueue h hf _ (.same rfl) ⟨rfl, rfl, rfl, rfl, rfl⟩
    · exact moves_answer h _ _ _
  | targetPrepare =>
    simp only [takeRequest, takeTargetPrepare]
    split
    · exact moves_answer h _ _ _
    · exact moves_answer_same h _ _ _ rfl
  | bootConfirm =>
    simp only [takeRequest, takeBootConfirm]
    split
    · exact moves_answer h _ _ _
    · exact moves_then_enqueue h hf _ (.same rfl) ⟨rfl, rfl, rfl, rfl, rfl⟩

omit hf

/-- The order of checks is a chain of moves: a refusal places its reply, and in FAULT mode only reports pass. -/
theorem moves_orderOfChecks (code : Byte) {req : Option ReqCode} (flags : Byte) (body : List Byte)
    (hstage : req = some .closeStage → may .stage) : Moves may s (orderOfChecks st code req flags body s) := by
  have hplace (r : Result) : Moves may s (placeReply st r code [] (hasBit flags 0) s) :=
    moves_placeReply h.reply h.idle .refl rfl rfl
  unfold orderOfChecks
  split
  · exact hplace _
  · split
    · exact hplace _
    · rename_i c
      split
      · exact hplace _
      case h_2 hpass =>
        unfold generalRefusal at hpass
        split_ifs at hpass with h3 h4 h5 h6
        cases hf : s.fault with
        | false => exact moves_takeRequest h hf (by simpa using h4) (fun hc => hstage (by rw [hc]))
        | true =>
          have hreport : answeredInFault c = true := by simpa [hf] using h5
          cases c <;> simp [answeredInFault] at hreport
          · exact .refl
          all_goals exact moves_answer h _ _ _

end Take

end Sys2Proof.Machine
end

section
/-! PROOFS. Frames, characters, ticks and the sensed SoC reset as chains of moves. -/

namespace Sys2Proof.Machine

open Sys2Proof

/-! ### A frame, from its characters to its request -/

section Frame

variable {may : Effect → Prop} {st : Station} {s : State}

theorem Job.holder_of_withdrawn {j j' : Job} (h : j.withdrawn = some j') : j'.holder = none := by
  cases j with
  | station => cases h
  | trialAccount => cases h; rfl
  | ownerReset attached button => cases attached <;> cases button <;> cases h <;> rfl

theorem moves_removeWaiting (hm : may (.reply st)) (h : requestState st s = .waiting) :
    Moves may s (removeWaiting st s) := by
  unfold removeWaiting
  split
  case h_1 j _ =>
    have hengine := sameEngine_undoJob j
      { s with queue := s.queue.filterMap fun j => if j.holder = some st then j.withdrawn else some j }
    refine .tail (.trans (.single (.withdraw st hm)) (moves_undoJob j)) (.reply st _ hm (.inr ?_))
    refine (requestState_congr hengine.queue hengine.running st).trans ((requestState_idle_iff st _).2 ⟨?_, ?_⟩)
    · exact ((requestState_waiting_iff st s).1 h).1
    · intro x hx
      obtain ⟨y, -, hy⟩ := List.mem_filterMap.1 hx
      split at hy
      · simp [Job.holder_of_withdrawn hy]
      · cases hy
        assumption
  case h_2 => exact .refl

theorem moves_abortRequest (hm : may (.reply st)) (flags : Byte) (body : List Byte) :
    Moves may s (abortRequest st flags body s).2 := by
  unfold abortRequest
  split
  · exact .refl
  · split
    case h_1 h => exact moves_removeWaiting hm h
    · exact .refl
    · exact .refl

theorem moves_overrideStream (hm : may (.reply st)) : Moves may s (overrideStream st s) := by
  have hwithdraw (h : s.running.bind Running.holder ≠ some st) : Moves may s (overrideStream.withdraw st s) := by
    unfold overrideStream.withdraw
    split
    · refine .tail (t := { s with queue := s.queue.filter fun j => j.holder != some st, stream := .closed })
        (Moves.thenSame (.single (.unqueue st hm)) rfl) (.reply st _ hm (.inr ?_))
      exact (requestState_idle_iff st _).2 ⟨h, fun x hx => by simpa using (List.mem_filter.1 hx).2⟩
    · exact .same rfl
  unfold overrideStream
  split
  case h_1 r hr =>
    split
    case isTrue =>
      refine Moves.thenSame (.single (.running (fun r => { r with dropped := true }) ⟨fun _ => rfl, fun _ => rfl, ?_⟩)) ?_
      · exact fun r k _ hk => .inl ⟨hk, fun x hx => .inl hx⟩
      · simp only [lawView, hr]
        rfl
    case isFalse h => exact hwithdraw (by simpa [hr] using h)
  case h_2 hr => exact hwithdraw (by simp [hr])

/-- What the receipt stage needs leave for in a frame of a station. -/
structure FrameLeave (may : Effect → Prop) (st : Station) (req : Option ReqCode) : Prop where
  reply : may (.reply st)
  record : may (.record st)
  stage : req = some .closeStage → may .stage

theorem moves_judgeFrame {req : Option ReqCode} (hm : FrameLeave may st req) (hp : s.power = .on) (code flags : Byte)
    (body : List Byte) : Moves may s (judgeFrame st code req flags body s) := by
  have hreceipt : Moves may s (receiptStage st code req flags body s) := by
    unfold receiptStage
    split_ifs with _ _ _ _ _ hidle hheld
    · exact .same rfl
    · exact .same rfl
    · refine Moves.thenSame ?_ rfl (t := fetchSlot st flags body s)
      unfold fetchSlot
      split
      · exact .single (.reply st none hm.reply (.inl rfl))
      · exact .refl
    · exact (moves_abortRequest hm.reply flags body).thenSame rfl
    · exact (moves_overrideStream hm.reply).thenSame rfl
    · exact .same rfl
    · exact .same rfl
    · have htaken : TakenFrom may st s :=
        ⟨hm.reply, hm.record, not_not.1 hidle, by simpa using hheld, hp⟩
      exact (moves_orderOfChecks htaken code flags body hm.stage).thenSame rfl
  unfold judgeFrame
  split
  · exact .same rfl
  · exact hreceipt

theorem moves_frameArrives {req : Option ReqCode} (hm : FrameLeave may st req) (hp : s.power = .on)
    (code flags : Byte) (body : List Byte) : Moves may s (frameArrives st code req flags body s) := by
  unfold frameArrives
  split
  · exact .same rfl
  · exact (moves_judgeFrame (s := lineIdle s) hm hp code flags body).fromSame rfl

theorem moves_dataCharacter (hm : ∀ st req, FrameLeave may st req) (hp : s.power = .on) (value : Byte) :
    Moves may s (dataCharacter value s) := by
  have hend (st : Station) (chars : List Byte) : Moves may s (endFrame st chars s) := by
    simp only [endFrame]
    split
    · exact .same rfl
    · exact (moves_judgeFrame (s := lineIdle s) (hm _ _) hp _ _ _).fromSame rfl
  have hassemble (st : Station) (chars : List Byte) : Moves may s (assemble st chars s) := by
    unfold assemble
    split_ifs
    · exact .same rfl
    · exact hend st chars
    · exact .same rfl
  unfold dataCharacter
  split
  · exact .refl
  · exact hassemble _ _
  · exact hassemble _ _

end Frame

/-! ### The tick -/

section Tick

variable {may : Effect → Prop} {s : State}

theorem moves_closePhase (hm : may .engine) (hp : s.power = .on) (v : PhaseVerdict) :
    Moves may s (closePhase v s) := by
  have hbutton : Moves may s (tickButton v s) := by
    unfold tickButton
    split
    case h_2 =>
      split
      · exact Moves.fromSame (.single (.queueButton hm hp)) rfl
      · exact .same rfl
    all_goals exact .same rfl
  unfold closePhase
  split
  · exact .same rfl
  · exact hbutton

theorem moves_tick (hm : may .engine) (hp : s.power = .on) (v : PhaseVerdict) : Moves may s (tick v s) := by
  have hgrants : Moves may s (tickGrants (tickCredentials (tickPulse (advanceTime s)))) :=
    .tail (.single (.tick hm hp)) (.dropGrants _ hm)
  have hview : lawView (tickGap (tickTimer (tickStream (tickGrants (tickCredentials (tickPulse (advanceTime s)))))))
      = lawView (tickGrants (tickCredentials (tickPulse (advanceTime s)))) := by
    rw [lawView_tickGap, lawView_tickTimer, lawView_tickStream]
  have hpower := (congrArg LawView.power hview).trans (show _ = Power.on from hp)
  exact .trans (hgrants.thenSame hview) (moves_closePhase hm hpower v)

end Tick

/-! ### A sensed SoC reset (R178) -/

section Reset

variable {may : Effect → Prop} {s : State}

theorem sameEngine_refl (s : State) : SameEngine s s := ⟨rfl, rfl, rfl, rfl, rfl⟩

theorem SameEngine.trans {s t u : State} (h : SameEngine s t) (h' : SameEngine t u) : SameEngine s u :=
  ⟨h'.stations.trans h.stations, h'.queue.trans h.queue, h'.running.trans h.running, h'.fault.trans h.fault,
    h'.power.trans h.power⟩

theorem undoAll_moves (l : List Job) (s : State) :
    Moves may s (l.foldl (fun s j => undoJob j s) s) ∧ SameEngine s (l.foldl (fun s j => undoJob j s) s) :=
  List.foldlRecOn (motive := fun t => Moves may s t ∧ SameEngine s t) l _ ⟨.refl, sameEngine_refl s⟩
    fun t ht j _ => ⟨.trans ht.1 (moves_undoJob j), ht.2.trans (sameEngine_undoJob j t)⟩

theorem moves_removeStationJobs (hm : may .boot) : Moves may s (removeStationJobs s) := by
  obtain ⟨hmoves, hsame⟩ := undoAll_moves (may := may) s.queue s
  have hqueue := hsame.queue
  unfold removeStationJobs
  generalize s.queue.foldl (fun s j => undoJob j s) s = t at hmoves hqueue ⊢
  rw [← hqueue]
  exact Moves.tail hmoves (.withdrawAll hm)

theorem power_removeStationJobs (s : State) : (removeStationJobs s).power = s.power :=
  (undoAll_moves (may := fun _ => True) s.queue s).2.power

theorem moves_eraseEpochKeys : Moves may s (eraseEpochKeys s) := by
  refine .single (.dropKeys _ fun slot k hk => ?_)
  rw [Tbl.get_map] at hk
  unfold KeySlot.endEpoch at hk
  split at hk
  case h_1 r hr =>
    split at hk
    · cases hk
    · exact hr.trans hk
  case h_2 => exact hk

theorem moves_socReset (hm : may .boot) (hp : s.power = .on) : Moves may s (socReset s) := by
  have hremoved : Moves may s (removeStationJobs (stopTrialTimer (senseReset s))) :=
    (moves_removeStationJobs hm).fromSame rfl
  have hpower : (removeStationJobs (stopTrialTimer (senseReset s))).power = .on := (power_removeStationJobs _).trans hp
  unfold socReset
  generalize removeStationJobs (stopTrialTimer (senseReset s)) = t at hremoved hpower ⊢
  have hcrossed : Moves may s (resetStations (crossRunning t)) :=
    .tail (.tail hremoved (.cross hm)) (.bootStations hm)
  have hcleared : Moves may s (dropUpdates (countSocReset (clearBootChains (eraseEpochKeys
      (resetStations (crossRunning t)))))) :=
    Moves.thenSame (.tail (.trans hcrossed moves_eraseEpochKeys) (.bootChains hm)) rfl
  exact Moves.thenSame (.tail hcleared (.queueTrial hm hpower)) rfl

theorem power_socReset (s : State) : (socReset s).power = s.power := by
  simpa [socReset] using power_removeStationJobs (stopTrialTimer (senseReset s))

theorem power_senseSample (s : State) (low : Bool) : (senseSample s low).power = s.power := by
  rcases senseSample_cases s low with ⟨-, -, -, h⟩ | ⟨-, -, -, h⟩ | ⟨-, h⟩ <;> rw [h]
  · exact power_socReset s
  · rfl

theorem power_readSense (samples : List Bool) (s : State) : (readSense samples s).power = s.power :=
  readSense_keeps (P := fun t => t.power = s.power) (fun t low ht => (power_senseSample t low).trans ht) samples s rfl

/-- Samples that the sense sampler reads bring a SoC reset only where its table moves it to ASSERTED. -/
theorem moves_readSense (samples : List Bool) (hp : s.power = .on)
    (hm : movesToAsserted s.time.senseAsserted s.time.senseLow samples = true → may .boot) :
    Moves may s (readSense samples s) := by
  induction samples generalizing s with
  | nil => exact .refl
  | cons low rest ih =>
    have hnext := fun h => ih (s := senseSample s low) ((power_senseSample s low).trans hp) h
    rw [readSense_cons]
    rcases senseSample_cases s low with ⟨rfl, hl, ha, hs⟩ | ⟨rfl, hl, ha, hs⟩ | ⟨hhold, hs⟩
    · have hb : may .boot := hm (by simp [movesToAsserted, hl, ha])
      exact .trans (by rw [hs]; exact moves_socReset hb hp) (hnext fun _ => hb)
    · refine .trans (by rw [hs]; exact .same rfl) (hnext fun hmove => hm ?_)
      rw [hs] at hmove
      simpa [movesToAsserted, senseReleased, hl, ha] using hmove
    · refine .trans (by rw [hs]; exact .same rfl) (hnext fun hmove => hm ?_)
      rw [hs] at hmove
      rw [movesToAsserted, if_neg (by tauto)]
      exact hmove

theorem power_beforeTick (samples : PhaseSamples) (s : State) : (beforeTick samples s).power = s.power := by
  unfold beforeTick
  split
  · exact power_readSense _ s
  · rfl

end Reset

end Sys2Proof.Machine
end

section
/-! PROOFS. The steps, starts and ends of jobs as chains of moves, and every command that leaves the part its power. -/

namespace Sys2Proof.Machine

open Sys2Proof

/-! ### The steps of jobs -/

section Steps

variable {may : Effect → Prop} {s : State}

/-- A change of the running job that a step makes: its key, if it has one to give out, and its steps stay. -/
structure StepChange (f : Running → Running) : Prop where
  job : ∀ r, (f r).job = r.job
  crossed : ∀ r, (f r).crossed = r.crossed
  todo : ∀ r, (f r).todo = r.todo
  key : ∀ r k, (f r).data = .key k → r.data = .key k

theorem stepChange_id : StepChange id := ⟨fun _ => rfl, fun _ => rfl, fun _ => rfl, fun _ _ h => h⟩

/-- What a step leaves of the engine: the job that runs is the same, and it has the same steps to do. -/
theorem running_complete (x : JobStep) (s : State) :
    ∃ f, StepChange f ∧ (x.complete s).running = s.running.map f := by
  have hid {t : State} (h : t.running = s.running) : ∃ f, StepChange f ∧ t.running = s.running.map f :=
    ⟨id, stepChange_id, by rw [h, Option.map_id_fun, id]⟩
  cases x with
  | revokeSlot slot => exact hid (congrArg LawView.running (lawView_sweepKey (raiseCond .keyRevoked s) slot))
  | sweepClass c b => exact hid (congrArg LawView.running (lawView_sweepClassFloor s c b))
  | action c a =>
    simp only [JobStep.complete, JobStep.act]
    split <;>
    · refine ⟨_, ?_, rfl⟩
      exact ⟨fun _ => rfl, fun _ => rfl, fun _ => rfl, fun _ _ h => h⟩
  | charge id =>
    simp only [JobStep.complete, JobStep.act]
    split
    · refine ⟨_, ?_, rfl⟩
      exact ⟨fun _ => rfl, fun _ => rfl, fun _ => rfl, fun _ _ h => by cases h⟩
    · exact hid rfl
  | compare id candidate =>
    refine ⟨_, ?_, rfl⟩
    refine ⟨fun _ => rfl, fun _ => rfl, fun _ => rfl, fun r k h => ?_⟩
    dsimp only at h
    split at h
    · cases h
    · exact h
  | success id =>
    simp only [JobStep.complete, JobStep.act]
    split <;> exact hid rfl
  | eraseCred id =>
    simp only [JobStep.complete, JobStep.act]
    split
    · refine ⟨_, ?_, rfl⟩
      refine ⟨fun _ => rfl, fun _ => rfl, fun _ => rfl, fun r k h => ?_⟩
      dsimp only at h
      split at h
      · cases h
      · exact h
    · exact hid rfl
  | eraseKey slot =>
    simp only [JobStep.complete, JobStep.act]
    split
    · have hrun : (eraseAndSweep slot s).running = s.running :=
        congrArg LawView.running (lawView_sweepKey (setKey slot .empty s) slot)
      refine ⟨_, ?_, show (countErased 0 1 (eraseAndSweep slot s)).running = _ by rw [countErased, hrun]⟩
      refine ⟨fun _ => rfl, fun _ => rfl, fun _ => rfl, fun r k h => ?_⟩
      dsimp only at h
      split at h
      · cases h
      · exact h
    · exact hid rfl
  | _ => exact hid rfl

/-- The steps of a list are the running job's own where it has a key to give out. -/
def OwnSteps (steps : List JobStep) (s : State) : Prop :=
  ∀ r k, s.running = some r → r.data = .key k → ∀ x ∈ steps, x.OwnedBy r

theorem ownSteps_of_noKey (steps : List JobStep) (h : ∀ r k, s.running = some r → r.data ≠ .key k) :
    OwnSteps steps s := fun r k hr hk => absurd hk (h r k hr)

theorem OwnSteps.complete {steps : List JobStep} (h : OwnSteps steps s) (x : JobStep) :
    OwnSteps steps (x.complete s) := by
  obtain ⟨f, hf, hrun⟩ := running_complete x s
  intro r' k hr hk y hy
  rw [hrun] at hr
  obtain ⟨r, hrs, rfl⟩ := Option.map_eq_some_iff.1 hr
  simpa only [JobStep.OwnedBy, hf.todo] using h r k hrs (hf.key r k hk) y hy

theorem moves_setTodo {todo : List JobStep} (h : OwnSteps todo s) : Moves may s (setTodo todo s) :=
  .single (.running _ ⟨fun _ => rfl, fun _ => rfl, fun r k hr hk => .inl ⟨hk, h r k hr hk⟩⟩)

theorem moves_runFree (hm : may .engine) {todo : List JobStep} (h : OwnSteps todo s) :
    Moves may s (runFree todo s) := by
  induction todo generalizing s with
  | nil => exact moves_setTodo h
  | cons step rest ih =>
    unfold runFree
    split
    · exact moves_setTodo h
    case isFalse hw =>
      refine .trans (.single (.step step hm (fun hwrites => absurd hwrites hw) fun r k hr hk => ?_)) (ih ?_)
      · exact h r k hr hk step (by simp)
      · exact OwnSteps.complete (fun r k hr hk x hx => h r k hr hk x (by simp [hx])) step

/-- The steps of a list, done one after the other, their writes landing. -/
theorem moves_completeAll (hm : may .engine) (hw : may .write) {steps : List JobStep} (h : OwnSteps steps s) :
    Moves may s (steps.foldl (fun s x => x.complete s) s) := by
  induction steps generalizing s with
  | nil => exact .refl
  | cons step rest ih =>
    refine .trans (.single (.step step hm (fun _ => hw) fun r k hr hk => h r k hr hk step (by simp))) (ih ?_)
    exact OwnSteps.complete (fun r k hr hk x hx => h r k hr hk x (by simp [hx])) step

/-- What the running job has still to do stays what it is while its steps are done. -/
theorem running_completeAll (steps : List JobStep) (s : State) :
    ∃ f, StepChange f ∧ (steps.foldl (fun s x => x.complete s) s).running = s.running.map f := by
  induction steps generalizing s with
  | nil => exact ⟨id, stepChange_id, by rw [Option.map_id_fun]; rfl⟩
  | cons x rest ih =>
    obtain ⟨f, hf, hfrun⟩ := running_complete x s
    obtain ⟨g, hg, hgrun⟩ := ih (x.complete s)
    refine ⟨g ∘ f, ⟨fun r => (hg.job _).trans (hf.job r), fun r => (hg.crossed _).trans (hf.crossed r),
      fun r => (hg.todo _).trans (hf.todo r), fun r k h => hf.key r k (hg.key _ k h)⟩, ?_⟩
    rw [List.foldl_cons, hgrun, hfrun, Option.map_map]

theorem running_finish (x : JobStep) (s : State) :
    ∃ f, StepChange f ∧ (x.finish s).running = s.running.map f := running_completeAll (x :: x.follow s) s

theorem moves_finishAll (hm : may .engine) (hw : may .write) {steps : List JobStep}
    (h : ∀ r k, s.running = some r → r.data = .key k → ∀ x ∈ steps, x ∈ r.todo) :
    Moves may s (steps.foldl (fun s x => x.finish s) s) := by
  induction steps generalizing s with
  | nil => exact .refl
  | cons step rest ih =>
    have hown : OwnSteps (step :: step.follow s) s := by
      intro r k hr hk x hx
      have hstep : step ∈ r.todo := h r k hr hk step (by simp)
      rcases List.mem_cons.1 hx with rfl | hx
      · exact .inl hstep
      · exact .inr (.inl ⟨step, hstep, s, hx⟩)
    refine .trans (moves_completeAll hm hw hown) (ih fun r k hr hk x hx => ?_)
    obtain ⟨f, hf, hrun⟩ := running_finish step s
    change (step.finish s).running = some r at hr
    rw [hrun] at hr
    obtain ⟨r, hrs, rfl⟩ := Option.map_eq_some_iff.1 hr
    rw [hf.todo]
    exact h r k hrs (hf.key r k hk) x (by simp [hx])

theorem moves_finishSteps (hm : may .engine) (hw : may .write) : Moves may s (finishSteps s) := by
  unfold finishSteps
  split
  case h_1 r hr =>
    have hown : ∀ r' k, s.running = some r' → r'.data = .key k → ∀ x ∈ r.todo, x ∈ r'.todo := by
      intro r' k hr' _ x hx
      rw [hr] at hr'
      cases hr'
      exact hx
    exact .trans (moves_finishAll hm hw hown) (moves_setTodo fun _ _ _ _ x hx => absurd hx (List.not_mem_nil))
  case h_2 => exact .refl

theorem todo_of_finishSteps {r : Running} (h : (finishSteps s).running = some r) : r.todo = [] := by
  unfold finishSteps at h
  split at h
  case h_1 =>
    obtain ⟨r', -, rfl⟩ := Option.map_eq_some_iff.1 h
    rfl
  case h_2 hnone =>
    rw [hnone] at h
    cases h

theorem moves_writeCompletes (hm : may .engine) (hw : may .write) : Moves may s (writeCompletes s) := by
  unfold writeCompletes
  split
  case h_1 hr =>
    rename_i step rest _ _
    split
    case isTrue =>
      refine .trans (.single (.step step hm (fun _ => hw) fun r k hr' _ => ?_))
        (moves_runFree hm (OwnSteps.complete (fun r k hr' _ x hx => ?_) step))
      · rw [hr] at hr'
        cases hr'
        exact .inl (by simp)
      · rw [hr] at hr'
        cases hr'
        rcases List.mem_append.1 hx with hx | hx
        · exact .inr (.inl ⟨step, by simp, s, hx⟩)
        · exact .inl (by simp [hx])
    case isFalse => exact .refl
  case h_2 => exact .refl

theorem moves_chargeWritten (hm : may .engine) (hw : may .write) : Moves may s (chargeWritten s) := by
  unfold chargeWritten
  split
  · exact moves_writeCompletes hm hw
  · exact .refl

/-- A job that computes no key begins its steps. -/
theorem moves_launch (hm : may .engine) {d : JobData} (todo : List JobStep) (hd : ∀ k, d ≠ .key k) :
    Moves may s (launch d todo s) := by
  refine .trans (.single (.running (fun r => { r with data := d })
    ⟨fun _ => rfl, fun _ => rfl, fun r k _ hk => absurd hk (hd k)⟩)) (moves_runFree hm ?_)
  refine ownSteps_of_noKey _ fun r k hr hk => ?_
  obtain ⟨r', -, rfl⟩ := Option.map_eq_some_iff.1 hr
  exact hd k hk

/-- A job that computes a key whose fingerprint is free begins its record's write, when it has no other step to do. -/
theorem moves_launchKey (hm : may .engine) (slot : Slot) {k : KeyRecord} (hk : fingerprintFree k.fingerprint s = true)
    (ht : ∀ r, s.running = some r → r.todo = []) : Moves may s (launchKey slot k s) := by
  refine .trans (.single (.running (fun r => { r with data := .key k })
    ⟨fun _ => rfl, fun _ => rfl, fun r k' hr hk' => .inr ?_⟩)) (moves_runFree hm ?_)
  · cases hk'
    exact ⟨hk, by simp [ht r hr]⟩
  · intro r k' _ _ x hx
    unfold recordSteps at hx
    split at hx
    · exact .inr (.inr ⟨slot, List.mem_singleton.1 hx⟩)
    · cases hx

end Steps

/-! ### The starts of jobs -/

section Starts

variable {may : Effect → Prop} {s : State} (hm : may .engine)
include hm

theorem moves_failJob (r : Result) (b : List Byte) : Moves may s (failJob r b s) := by
  unfold failJob
  split
  · exact .tail (moves_releaseWork _) (.endJob r b hm)
  · exact .single (.endJob r b hm)

omit hm in
/-- The draws of a generation give material whose fingerprint is free. -/
theorem fingerprintFree_of_firstFresh {fuel n n' : Nat} {kind : KeyKind} {m : Material}
    (h : firstFresh fuel n kind s = (n', some m)) : fingerprintFree m.fingerprint s = true := by
  induction fuel generalizing n with
  | zero => cases h
  | succ fuel ih =>
    unfold firstFresh at h
    split at h
    case isTrue hfree =>
      cases h
      exact hfree
    case isFalse => exact ih h

section NoSteps

variable (ht : ∀ r, s.running = some r → r.todo = [])
include ht

theorem moves_generateStep (p : NewKey) (kind : KeyKind) (b : Option Binding) :
    Moves may s (generateStep p kind b s) := by
  unfold generateStep
  split
  case h_1 n m hfresh =>
    exact (moves_launchKey (s := { s with entropy := n }) hm p.slot (fingerprintFree_of_firstFresh hfresh) ht).fromSame
      rfl
  case h_2 n _ => exact (moves_launch (s := { s with entropy := n }) hm _ (by nofun)).fromSame rfl

theorem moves_startKeyGenerate (st : Station) (p : NewKey) (kind : KeyKind) :
    Moves may s (startKeyGenerate st p kind s) := by
  unfold startKeyGenerate
  split
  · exact moves_failJob hm _ _
  · exact moves_generateStep hm ht p kind _

theorem moves_startKeyImport (st : Station) (p : NewKey) (m : Material) :
    Moves may s (startKeyImport st p m s) := by
  unfold startKeyImport
  split_ifs with _ hrevoked hheld
  · exact moves_failJob hm _ _
  · exact moves_failJob hm _ _
  · exact moves_failJob hm _ _
  · refine moves_launchKey hm _ ?_ ht
    simp only [fingerprintFree, newRecord, Bool.eq_false_of_not_eq_true hrevoked,
      Bool.eq_false_of_not_eq_true hheld, Bool.not_false, Bool.and_self]

theorem moves_startKeyDerive (parent : Slot) (noted : Bytes 32) (derivation : List Byte) (target : Slot)
    (usage mask : Byte) (label : List Byte) :
    Moves may s (startKeyDerive parent noted derivation target usage mask label s) := by
  unfold startKeyDerive
  split
  · exact moves_failJob hm _ _
  · split
    · dsimp only
      split_ifs with hrevoked hheld
      · exact moves_failJob hm _ _
      · exact moves_failJob hm _ _
      · refine moves_launchKey hm _ ?_ ht
        simp only [fingerprintFree, Bool.eq_false_of_not_eq_true hrevoked, Bool.eq_false_of_not_eq_true hheld,
          Bool.not_false, Bool.and_self]
    · exact moves_failJob hm _ _

end NoSteps

theorem moves_startKeySign (slot : Slot) (noted d : Bytes 32) : Moves may s (startKeySign slot noted d s) := by
  unfold startKeySign
  split
  · exact moves_failJob hm _ _
  · split
    · exact moves_launch hm _ (by nofun)
    · exact moves_failJob hm _ _

theorem moves_startKeyVerify (slot : Slot) (noted d : Bytes 32) (sig : Bytes 64) :
    Moves may s (startKeyVerify slot noted d sig s) := by
  unfold startKeyVerify
  split
  · exact moves_failJob hm _ _
  · split
    · exact moves_launch hm _ (by nofun)
    · exact moves_failJob hm _ _

theorem moves_startKeyErase (st : Station) (slot : Slot) (noted : Bytes 32) :
    Moves may s (startKeyErase st slot noted s) := by
  unfold startKeyErase
  split
  · exact moves_failJob hm _ _
  · split
    · exact moves_failJob hm _ _
    · exact moves_launch hm _ (by nofun)

theorem moves_startChainExtend (c : ChainNo) (m : Bytes 32) : Moves may s (startChainExtend c m s) := by
  unfold startChainExtend
  split
  · exact moves_failJob hm _ _
  · exact moves_launch hm _ (by nofun)

theorem moves_startQuote (slot : Slot) (noted : Bytes 32) (selection : BitVec 16) (nonce : List Byte) :
    Moves may s (startQuote slot noted selection nonce s) := by
  unfold startQuote
  split
  · exact moves_failJob hm _ _
  · split
    · exact moves_launch hm _ (by nofun)
    · exact moves_failJob hm _ _

theorem moves_startUpdateOpen : Moves may s (startUpdateOpen s) := by
  unfold startUpdateOpen
  split
  · split <;> exact moves_launch hm _ (by nofun)
  · exact moves_failJob hm _ _

theorem moves_startUpdateData : Moves may s (startUpdateData s) := by
  unfold startUpdateData
  split
  · exact moves_launch hm _ (by nofun)
  · exact moves_failJob hm _ _

theorem moves_startTargetActivate (i : TargetNo) : Moves may s (startTargetActivate i s) := by
  unfold startTargetActivate
  split
  · exact moves_failJob hm _ _
  · exact moves_launch hm _ (by nofun)

theorem moves_startBootConfirm (c : ClassNo) : Moves may s (startBootConfirm c s) := by
  unfold startBootConfirm
  split
  · split
    · exact moves_launch hm _ (by nofun)
    · exact moves_failJob hm _ _
  · exact moves_failJob hm _ _

theorem moves_startCredSet (st : Station) (p : CredParams) (change needed : Bool) :
    Moves may s (startCredSet st p change needed s) := by
  unfold startCredSet
  split_ifs
  · exact moves_failJob hm _ _
  · exact moves_failJob hm _ _
  · exact (moves_launch (s := { s with entropy := s.entropy + 1 }) hm _ (by nofun)).fromSame rfl

theorem moves_startCredVerify (id : CredId) (candidate : List Byte) :
    Moves may s (startCredVerify id candidate s) := by
  unfold startCredVerify
  split
  · exact moves_failJob hm _ _
  · split
    · exact moves_failJob hm _ _
    · exact moves_launch hm _ (by nofun)

theorem moves_startCredRelease (st : Station) (id : CredId) : Moves may s (startCredRelease st id s) := by
  unfold startCredRelease
  split
  · exact moves_failJob hm _ _
  · split
    · exact moves_failJob hm _ _
    · exact moves_launch hm _ (by nofun)

theorem moves_startCredClear (st : Station) (id : CredId) : Moves may s (startCredClear st id s) := by
  unfold startCredClear
  split_ifs
  · exact moves_failJob hm _ _
  · exact moves_failJob hm _ _
  · exact moves_launch hm _ (by nofun)

theorem moves_startSettingsWrite (st : Station) (p : SettingsParams) : Moves may s (startSettingsWrite st p s) := by
  unfold startSettingsWrite
  split
  · exact moves_failJob hm _ _
  · exact moves_launch hm _ (by nofun)

theorem moves_startOwnerReset (attached : Option Bool) (button : Bool) :
    Moves may s (startOwnerReset attached button s) := by
  unfold startOwnerReset
  split
  · exact moves_failJob hm _ _
  · exact moves_launch hm _ (by nofun)

theorem moves_startTrialAccount : Moves may s (startTrialAccount s) := by
  unfold startTrialAccount
  split
  · exact moves_launch hm _ (by nofun)
  · refine moves_launch hm _ ?_
    split <;> nofun

omit hm in
/-- The engine takes a job only while none runs and the part is not in FAULT mode. -/
theorem nextJob_eq_some {j : Job} : nextJob s = some j ↔ s.fault = false ∧ s.running = none ∧ s.queue.head? = some j := by
  cases hf : s.fault <;> cases hr : s.running <;> simp [nextJob, hf, hr]

omit hm in
theorem todo_of_takeJob {r : Running} (h : (takeJob s).running = some r) : r.todo = [] := by
  obtain ⟨j, -, rfl⟩ := Option.map_eq_some_iff.1 h
  rfl

omit hm in
theorem moves_onStart (hs : may .start) {start : StationJob → Option (State → State)}
    (hstart : ∀ j f, start j = some f → ∀ t, (∀ r, t.running = some r → r.todo = []) → Moves may t (f t)) :
    Moves may s (onStart start s) := by
  unfold onStart
  split
  case h_1 j hj =>
    split
    case h_1 f hf =>
      obtain ⟨hfault, hrun, -⟩ := nextJob_eq_some.1 hj
      exact .trans (.single (.takeJob hs hfault hrun)) (hstart j f hf _ fun _ => todo_of_takeJob)
    case h_2 => exact .refl
  case h_2 => exact .refl

end Starts

/-! ### The ends of jobs -/

section Ends

variable {may : Effect → Prop} {s : State} (hm : may .engine)
include hm

theorem moves_onEnd (hw : may .write) {is : Job → Bool} {fin : Running → State → State}
    (hfin : ∀ r t, t.running = some r → r.todo = [] → t.power = s.power → Moves may t (fin r t)) (hp : (finishSteps s).power = s.power) :
    Moves may s (onEnd is fin s) := by
  unfold onEnd
  split
  · split
    · split
      case h_1 done hdone =>
        exact .trans (moves_finishSteps hm hw) (hfin done _ hdone (todo_of_finishSteps hdone) hp)
      case h_2 => exact .refl
    · exact .refl
  · exact .refl

/-- A job ends after moves. -/
theorem moves_then_endJob {u : State} (r : Result) (b : List Byte) (h : Moves may s u) : Moves may s (endJob r b u) :=
  .tail h (.endJob r b hm)

theorem moves_endJob (r : Result) (b : List Byte) : Moves may s (endJob r b s) := .single (.endJob r b hm)

theorem moves_endChainExtend (c : ChainNo) (m : Bytes 32) (tag : List Byte) (st : Station) (v : Bytes 32)
    (r : Running) : Moves may s (endChainExtend c m tag st v r s) := by
  unfold endChainExtend
  split
  · exact moves_endJob hm _ _
  · exact moves_then_endJob hm _ _ (.same (lawView_extendChain ..))

theorem moves_storeCredential (p : CredParams) (change : Bool) (contents : CredContents) :
    Moves may s (storeCredential p change contents s) := by
  unfold storeCredential
  split
  case h_1 r hr => exact .tail (.single (.changeCred p.id contents hr)) (.dropGrants _ hm)
  · exact .single (.newCred p.id contents)
  · dsimp only
    split
    · exact Moves.thenSame (.single (.newCred p.id contents)) (lawView_partExtend _ _)
    · exact .single (.newCred p.id contents)

omit hm in
theorem moves_lockOut {delay : Nat} (id : CredId) (hd : delay ≤ Config.lockoutCap) (hp : s.power = .on) :
    Moves may s (lockOut id delay s) := by
  unfold lockOut
  split
  case h_1 r hr => exact Moves.thenSame (.single (.lockCred id hd hp hr)) rfl
  case h_2 => exact .refl

theorem moves_endCredVerify (st : Station) (hr : may (.record st)) (id : CredId) (r : Running) (hp : s.power = .on) :
    Moves may s (endCredVerify st id r s) := by
  unfold endCredVerify
  split
  · exact moves_then_endJob hm _ _ (moves_lockOut id (lockoutDelay_le_cap _) hp)
  · split
    · exact moves_then_endJob hm _ _ (.single (.record st _ hr rfl))
    · exact moves_endJob hm _ _
  · exact .refl

theorem moves_endCredClear (id : CredId) : Moves may s (endCredClear id s) :=
  moves_then_endJob hm _ _ (.tail (moves_setCred (by nofun)) (.dropGrants _ hm))

theorem moves_endUpdateOpen (r : Running) : Moves may s (endUpdateOpen r s) := by
  unfold endUpdateOpen
  split
  · exact moves_endJob hm _ _
  · split
    · exact moves_then_endJob hm _ _ (.same rfl)
    · exact moves_then_endJob hm _ _ (.same (lawView_failStream _ _))
    · exact moves_endJob hm _ _

theorem moves_endVerified (m : Manifest) (limit received : Nat) : Moves may s (endVerified m limit received s) := by
  unfold endVerified
  dsimp only
  split
  · split <;> exact moves_then_endJob hm _ _ (.same rfl)
  · exact moves_then_endJob hm _ _ (.same rfl)

theorem moves_endUpdateData (chunk : List Byte) (r : Running) : Moves may s (endUpdateData chunk r s) := by
  unfold endUpdateData
  split
  · exact moves_endJob hm _ _
  · split
    · dsimp only
      split_ifs
      · exact moves_then_endJob hm _ _ (.same rfl)
      · exact moves_endVerified hm _ _ _
      · exact moves_then_endJob hm _ _ (.same (lawView_failStream _ _))
    · exact moves_endJob hm _ _

theorem moves_endTrialAccount (r : Running) : Moves may s (endTrialAccount r s) := by
  unfold endTrialAccount
  split
  · refine moves_then_endJob hm _ _ (.same ?_)
    split <;> rfl
  · exact moves_endJob hm _ _

end Ends

/-! ### A failed write and FAULT mode (R177) -/

section Fault

variable {may : Effect → Prop} {s : State}

theorem running_endJob (r : Result) (b : List Byte) (s : State) : (endJob r b s).running = none := by
  unfold endJob
  split
  case h_1 h => exact h
  case h_2 => split <;> rfl

theorem running_failJob (r : Result) (b : List Byte) (s : State) : (failJob r b s).running = none := by
  unfold failJob
  split <;> exact running_endJob _ _ _

/-- With no job waiting or running every station is IDLE. -/
theorem requestState_of_free (hq : s.queue = []) (hr : s.running = none) (st : Station) :
    requestState st s = .idle := (requestState_idle_iff st s).2 (by simp [hq, hr])

theorem moves_answerFault (hm : ∀ st, may (.reply st)) (j : Job) (hq : s.queue = []) (hr : s.running = none) :
    Moves may s (answerFault s j) := by
  unfold answerFault
  split
  · exact .trans (.single (.reply _ _ (hm _) (.inr (requestState_of_free hq hr _)))) (moves_undoJob j)
  · exact moves_undoJob j

theorem engine_answerFault (j : Job) (s : State) :
    (answerFault s j).queue = s.queue ∧ (answerFault s j).running = s.running := by
  unfold answerFault
  split <;> exact ⟨(sameEngine_undoJob _ _).queue, (sameEngine_undoJob _ _).running⟩

theorem moves_enterFault (hm : may .engine) (hr : ∀ st, may (.reply st)) (hrun : s.running = none) :
    Moves may s (enterFault s) := by
  obtain ⟨hmoves, -, -⟩ := List.foldlRecOn
    (motive := fun t => Moves may s t ∧ t.queue = [] ∧ t.running = none) s.queue answerFault
    (b := { s with queue := [], fault := true }) ⟨.single (.dropQueue hm hrun), rfl, hrun⟩
    fun t ⟨hmoves, hq, ht⟩ j _ =>
      ⟨.trans hmoves (moves_answerFault hr j hq ht), (engine_answerFault j t).1.trans hq,
        (engine_answerFault j t).2.trans ht⟩
  exact hmoves.thenSame rfl

theorem moves_writeFails (hm : may .engine) (hw : may .write) (hr : ∀ st, may (.reply st)) (landed : Bool) :
    Moves may s (writeFails landed s) := by
  unfold writeFails
  split
  case h_1 step _ =>
    have hfailed : Moves may s (raiseCond .nvWriteFailed (failJob .nvFailed [] (step.fail landed s))) :=
      Moves.thenSame (.trans (.single (.fail step landed hm hw)) (moves_failJob hm _ _)) rfl
    exact .trans hfailed (moves_enterFault hm hr (running_failJob _ _ _))
  case h_2 => exact .refl

end Fault

end Sys2Proof.Machine
end

section
/-! PROOFS. Every command that leaves the part its power is a chain of moves, and no command changes the queue of
waiting commands. -/

namespace Sys2Proof.Machine

open Sys2Proof

/-! ### What no move changes -/

section Fixed

variable {may : Effect → Prop} {s t : State}

/-- A step of a job leaves the power, the waiting commands and jobs, FAULT mode, the time, ATTN and, but for ended
grants, the station records. -/
structure StepFrame (s t : State) : Prop where
  pending : t.pending = s.pending
  power : t.power = s.power
  queue : t.queue = s.queue
  fault : t.fault = s.fault
  time : t.time = s.time
  attn : t.attn = s.attn
  stations : t.stations = s.stations ∨ t.stations = s.stations.map (StationRec.dropGrant fun _ => true)

theorem stepFrame_of_view {s t u : State} (hu : lawView u = lawView t) (hut : u.time = t.time ∧ u.attn = t.attn) (h : StepFrame s t) :
    StepFrame s u :=
  ⟨(congrArg LawView.pending hu).trans h.pending, (congrArg LawView.power hu).trans h.power,
    (congrArg LawView.queue hu).trans h.queue, (congrArg LawView.fault hu).trans h.fault, hut.1.trans h.time, hut.2.trans h.attn,
    h.stations.imp (congrArg LawView.stations hu).trans (congrArg LawView.stations hu).trans⟩

theorem time_failStale (stale : Manifest → Bool) (reason : Result) (s : State) :
    (failStale stale reason s).time = s.time ∧ (failStale stale reason s).attn = s.attn := by
  have hfail : (failStream reason s).time = s.time ∧ (failStream reason s).attn = s.attn := by
    unfold failStream
    split <;> exact ⟨rfl, rfl⟩
  unfold failStale
  split
  · split
    · exact hfail
    · exact ⟨rfl, rfl⟩
  · exact ⟨rfl, rfl⟩

theorem stepFrame_act (x : JobStep) (s : State) : StepFrame s (x.act s) := by
  have hid : StepFrame s s := ⟨rfl, rfl, rfl, rfl, rfl, rfl, .inl rfl⟩
  have herase (slot : Slot) : StepFrame s (eraseAndSweep slot s) :=
    stepFrame_of_view (lawView_sweepKey _ _) (time_failStale _ _ _) ⟨rfl, rfl, rfl, rfl, rfl, rfl, .inl rfl⟩
  cases x with
  | revokeSlot slot =>
    exact stepFrame_of_view (lawView_sweepKey _ _) (time_failStale _ _ _) ⟨rfl, rfl, rfl, rfl, rfl, rfl, .inl rfl⟩
  | sweepClass c b => exact stepFrame_of_view (lawView_sweepClassFloor s c b) (time_failStale _ _ _) hid
  | action c a =>
    simp only [JobStep.act]
    split <;> exact ⟨rfl, rfl, rfl, rfl, rfl, rfl, .inl rfl⟩
  | charge id =>
    simp only [JobStep.act]
    split <;> exact ⟨rfl, rfl, rfl, rfl, rfl, rfl, .inl rfl⟩
  | success id =>
    simp only [JobStep.act]
    split <;> exact ⟨rfl, rfl, rfl, rfl, rfl, rfl, .inl rfl⟩
  | eraseCred id =>
    simp only [JobStep.act]
    split <;> exact ⟨rfl, rfl, rfl, rfl, rfl, rfl, .inl rfl⟩
  | eraseKey slot =>
    simp only [JobStep.act]
    split
    · obtain ⟨h1, h2, h3, h4, h5, h6, h7⟩ := herase slot
      exact ⟨h1, h2, h3, h4, h5, h6, h7⟩
    · exact hid
  | endGrants => exact ⟨rfl, rfl, rfl, rfl, rfl, rfl, .inr rfl⟩
  | _ => exact ⟨rfl, rfl, rfl, rfl, rfl, rfl, .inl rfl⟩

theorem stepFrame_complete (x : JobStep) (s : State) : StepFrame s (x.complete s) := by
  obtain ⟨h1, h2, h3, h4, h5, h6, h7⟩ := stepFrame_act x s
  exact ⟨h1, h2, h3, h4, h5, h6, h7⟩

/-- A step whose write fails leaves what the step leaves, and the running job. -/
theorem stepFrame_fail (x : JobStep) (landed : Bool) (s : State) :
    StepFrame s (x.fail landed s) ∧ (x.fail landed s).stations = s.stations
      ∧ (x.fail landed s).running = s.running := by
  have herase (slot : Slot) : StepFrame s (eraseAndSweep slot s) ∧ (eraseAndSweep slot s).stations = s.stations
      ∧ (eraseAndSweep slot s).running = s.running :=
    ⟨stepFrame_of_view (lawView_sweepKey _ _) (time_failStale _ _ _) ⟨rfl, rfl, rfl, rfl, rfl, rfl, .inl rfl⟩,
      congrArg LawView.stations (lawView_sweepKey (setKey slot .empty s) slot),
      congrArg LawView.running (lawView_sweepKey (setKey slot .empty s) slot)⟩
  have hlose : StepFrame s (x.lose s) ∧ (x.lose s).stations = s.stations ∧ (x.lose s).running = s.running := by
    cases x with
    | keyRemove slot => exact herase slot
    | eraseKey slot => exact herase slot
    | _ => exact ⟨⟨rfl, rfl, rfl, rfl, rfl, rfl, .inl rfl⟩, rfl, rfl⟩
  obtain ⟨⟨h1, h2, h3, h4, h5, h6, h7⟩, h8, h9⟩ := hlose
  exact ⟨⟨h1, h2, h3, h4, h5, h6, h7⟩, h8, h9⟩

theorem Move.fixed (h : Move may s t) : t.pending = s.pending ∧ t.power = s.power := by
  have hend (r : Result) (b : List Byte) (s : State) :
      (Machine.endJob r b s).pending = s.pending ∧ (Machine.endJob r b s).power = s.power := by
    unfold Machine.endJob
    split
    · exact ⟨rfl, rfl⟩
    · split <;> exact ⟨rfl, rfl⟩
  cases h with
  | same h => exact ⟨congrArg LawView.pending h, congrArg LawView.power h⟩
  | step x => exact ⟨(stepFrame_complete x s).pending, (stepFrame_complete x s).power⟩
  | fail x landed => exact ⟨(stepFrame_fail x landed s).1.pending, (stepFrame_fail x landed s).1.power⟩
  | endJob r b => exact hend r b s
  | create => exact hend _ _ _
  | _ => exact ⟨rfl, rfl⟩

theorem Moves.pending (h : Moves may s t) : t.pending = s.pending :=
  h.keeps (P := fun t => t.pending = s.pending) (fun hmove ht => hmove.fixed.1.trans ht) rfl

theorem Moves.power (h : Moves may s t) : t.power = s.power :=
  h.keeps (P := fun t => t.power = s.power) (fun hmove ht => hmove.fixed.2.trans ht) rfl

end Fixed

/-! ### Every command that leaves the part its power -/

/-- What a command has leave for. -/
def permits (c : Instr) (s : State) : Effect → Prop
  | .write => mayWrite c = true
  | .boot => sensesReset c s = true
  | .reply st => (∀ x, frameStation c = some x → x = st) ∧ isJobEnd c = false
  | .record st => ∀ x, frameStation c = some x → x = st
  | .stage => frameStation c = none ∨ c.codeUnknown = false ∨ ∃ st flags body, c = .closeStage st flags body
  | .start => isFrame c = false ∧ isJobEnd c = false
  | .engine => isFrame c = false

section Exec

variable {may : Effect → Prop} {s t : State}

theorem permits_reply {c : Instr} (hf : frameStation c = none) (he : isJobEnd c = false) (st : Station) :
    permits c s (.reply st) := ⟨by simp [hf], he⟩

theorem permits_record {c : Instr} (hf : frameStation c = none) (st : Station) : permits c s (.record st) := by
  simp [permits, hf]

theorem moves_whenOn {f : State → State} (hf : s.power = .on → Moves may s (f s)) (ht : whenOn f s = .next t) :
    Moves may s t := by
  by_cases hp : s.power = .on
  · rw [whenOn_on hp] at ht
    cases ht
    exact (hf hp).thenSame rfl
  · rw [whenOn_off hp] at ht
    cases ht
    exact .refl

theorem moves_jobStart {start : StationJob → Option (State → State)} (hm : may .start)
    (ht : whenOn (onStart start) s = .next t)
    (hstart : ∀ j f, start j = some f → ∀ t, (∀ r, t.running = some r → r.todo = []) → Moves may t (f t)) :
    Moves may s t :=
  moves_whenOn (fun _ => moves_onStart hm hstart) ht

theorem moves_jobEnd {is : Job → Bool} {fin : Running → State → State} (hm : may .engine) (hw : may .write)
    (ht : whenOn (onEnd is fin) s = .next t)
    (hfin : ∀ r u, u.running = some r → r.todo = [] → u.power = .on → Moves may u (fin r u)) : Moves may s t :=
  moves_whenOn (fun hp => moves_onEnd hm hw (fun r u hr htodo hu => hfin r u hr htodo (hu.trans hp))
    (moves_finishSteps (may := fun _ => True) trivial trivial).power) ht

theorem moves_frame {c : Instr} (hc : isFrame c = true) (ht : exec c s = .next t) : Moves (permits c s) s t := by
  have hframe {st : Station} {code : Byte} {req : Option ReqCode} {flags : Byte} {body : List Byte}
      (he : exec c s = whenOn (frameArrives st code req flags body) s) (hst : frameStation c = some st)
      (hstage : req = some .closeStage → permits c s .stage) : Moves (permits c s) s t := by
    have hown (x : Station) (hx : frameStation c = some x) : x = st := Option.some.inj (hx.symm.trans hst)
    have hend : isJobEnd c = false := by
      cases c <;> first | rfl | cases hst
    exact moves_whenOn (fun hp => moves_frameArrives ⟨⟨hown, hend⟩, hown, hstage⟩ hp code flags body) (he ▸ ht)
  cases c
  case closeStage st flags body => exact hframe rfl rfl fun _ => .inr (.inr ⟨st, flags, body, rfl⟩)
  case unknownRequestFrame st code flags body =>
    exact hframe rfl rfl fun h => .inr (.inl (by simp [Instr.codeUnknown, h]))
  case fetch | abort | status | conditions | clearConditions | setNoticeMask | settingsRead
    | settingsWrite | ownerReset | keyGenerate | keyImport | keySign | keyVerify | keyDerive | keyErase | keyInfo
    | keyPublic | chainExtend | chainFreeze | chainRead | logRead | quote | identityRead | updateOpen | updateData
    | updateAbort | targetPrepare | targetList | targetDiscard | targetActivate | bootQuery | bootConfirm | floorRead
    | credSet | credVerify | credRelease | credClear | credInfo | grantDrop => exact hframe rfl rfl (by nofun)
  all_goals cases hc

theorem moves_tickEvent {v : PhaseVerdict} (hm : may .engine) (ht : tickEvent v s = .next t) : Moves may s t := by
  unfold tickEvent at ht
  split at ht <;> cases ht
  case h_1 hp => exact (moves_tick hm hp v).thenSame rfl
  case h_2 hp => exact .single (.bareTick hm (by rw [hp]; nofun))
  case h_3 => exact .refl

theorem moves_tickWhen {due : State → Bool} {v : PhaseVerdict} (hm : may .engine) (ht : tickWhen due v s = .next t) :
    Moves may s t := by
  refine moves_whenOn (fun hp => ?_) ht
  split
  · exact moves_tick hm hp v
  · exact .refl

theorem moves_beforeTick {c : Instr} (samples : PhaseSamples) (hc : senseSamples c = samples.sense) :
    Moves (permits c s) s (beforeTick samples s) := by
  unfold beforeTick
  split
  case isTrue hp =>
    exact moves_readSense _ hp fun h => by simpa [permits, sensesReset, hp, hc] using h
  case isFalse => exact .refl

theorem moves_senseEvent {c : Instr} {samples : List Bool} (hc : senseSamples c = samples)
    (ht : whenOn (readSense samples) s = .next t) : Moves (permits c s) s t :=
  moves_whenOn (fun hp => moves_readSense _ hp fun h => by simpa [permits, sensesReset, hp, hc] using h) ht

theorem moves_of_isJobEnd {c : Instr} (hc : isJobEnd c = true) (ht : exec c s = .next t) :
    Moves (permits c s) s t := by
  have hw : permits c s .write := by simp [permits, mayWrite, hc]
  have hm : permits c s .engine := by
    cases c <;> first | rfl | cases hc
  have hrecord (st : Station) : permits c s (.record st) := by
    intro x hx
    cases c <;> first | cases hx; done | cases hc
  cases c
  case keyGenerateJobEnd =>
    refine moves_jobEnd hm hw ht fun r u hr htodo _ => ?_
    split
    case h_1 hd => exact .single (.create _ hm hr hd)
    case h_2 =>
      refine moves_generateStep hm (fun r' hr' => ?_) _ _ _
      rw [hr] at hr'
      cases hr'
      exact htodo
    case h_3 => exact .refl
  case keyImportJobEnd | keyDeriveJobEnd =>
    refine moves_jobEnd hm hw ht fun r u hr _ _ => ?_
    split
    case h_1 hd => exact .single (.create _ hm hr hd)
    case h_2 => exact .refl
  case keyEraseJobEnd =>
    refine moves_jobEnd hm hw ht fun r u _ _ _ => ?_
    split
    · exact moves_then_endJob hm _ _ (moves_eraseAndSweep _)
    · exact .refl
  case chainExtendJobEnd =>
    refine moves_jobEnd hm hw ht fun r u _ _ _ => ?_
    split
    · exact moves_endChainExtend hm _ _ _ _ _ _
    · exact .refl
  case updateOpenJobEnd => exact moves_jobEnd hm hw ht fun r _ _ _ _ => moves_endUpdateOpen hm r
  case updateDataJobEnd =>
    refine moves_jobEnd hm hw ht fun r u _ _ _ => ?_
    split
    · exact moves_endUpdateData hm _ r
    · exact .refl
  case credSetJobEnd =>
    refine moves_jobEnd hm hw ht fun r u _ _ _ => ?_
    split
    · exact moves_then_endJob hm _ _ (moves_storeCredential hm _ _ _)
    · exact .refl
  case credVerifyJobEnd =>
    refine moves_jobEnd hm hw ht fun r u _ _ hp => ?_
    split
    · exact moves_endCredVerify hm _ (hrecord _) _ r hp
    · exact .refl
  case credClearJobEnd =>
    refine moves_jobEnd hm hw ht fun r u _ _ _ => ?_
    split
    · exact moves_endCredClear hm _
    · exact .refl
  case trialAccountJobEnd => exact moves_jobEnd hm hw ht fun r _ _ _ _ => moves_endTrialAccount hm r
  case keySignJobEnd | keyVerifyJobEnd | quoteJobEnd | targetActivateJobEnd | bootConfirmJobEnd | credReleaseJobEnd
    | settingsWriteJobEnd | ownerResetJobEnd =>
    refine moves_jobEnd hm hw ht fun r u _ _ _ => ?_
    split
    · exact moves_endJob hm _ _
    · exact .refl
  all_goals cases hc

theorem moves_trialAccountJobStart (ht : exec .trialAccountJobStart s = .next t) :
    Moves (permits .trialAccountJobStart s) s t := by
  refine moves_whenOn (fun _ => ?_) ht
  split
  case isTrue h =>
    obtain ⟨hf, hr, -⟩ := nextJob_eq_some.1 h
    have hm : permits .trialAccountJobStart s .engine := rfl
    exact .trans (.single (.takeJob ⟨rfl, rfl⟩ hf hr)) (moves_startTrialAccount hm)
  case isFalse => exact .refl

theorem moves_ownerResetJobStart (ht : exec .ownerResetJobStart s = .next t) :
    Moves (permits .ownerResetJobStart s) s t := by
  unfold exec execOwnerResetJobStart at ht
  refine moves_whenOn (fun _ => ?_) ht
  split
  case h_1 h =>
    obtain ⟨hf, hr, -⟩ := nextJob_eq_some.1 h
    have hm : permits .ownerResetJobStart s .engine := rfl
    exact .trans (.single (.takeJob ⟨rfl, rfl⟩ hf hr)) (moves_startOwnerReset hm _ _)
  case h_2 => exact .refl

/-- Every command that neither takes the part's power away nor ends its start-up is a chain of moves, with no more
leave than `permits` gives it. -/
theorem moves_exec {c : Instr} (hp : endsPower c = false) (hup : ∀ low, c ≠ .startUpEnd low)
    (ht : exec c s = .next t) : Moves (permits c s) s t := by
  have hm (c : Instr) (hc : isFrame c = false) : permits c s .engine := hc
  have hs (c : Instr) (hc : isFrame c = false) (he : isJobEnd c = false) : permits c s .start := ⟨hc, he⟩
  have hw (c : Instr) (hc : mayWrite c = true) : permits c s .write := hc
  cases c
  case partReset | powerLost => cases hp
  case startUpEnd low => exact absurd rfl (hup low)
  case chainExtendJobStart =>
    exact moves_jobStart (hs _ rfl rfl) ht fun
      | ⟨_, _, .chainExtend c m _⟩, _, rfl, _, _ => moves_startChainExtend (hm _ rfl) c m
  case keyGenerateJobStart =>
    exact moves_jobStart (hs _ rfl rfl) ht fun
      | ⟨st, _, .keyGenerate p k⟩, _, rfl, _, h => moves_startKeyGenerate (hm _ rfl) h st p k
  case keyImportJobStart =>
    exact moves_jobStart (hs _ rfl rfl) ht fun
      | ⟨st, _, .keyImport p m⟩, _, rfl, _, h => moves_startKeyImport (hm _ rfl) h st p m
  case keyDeriveJobStart =>
    exact moves_jobStart (hs _ rfl rfl) ht fun
      | ⟨_, _, .keyDerive _ _ _ _ _ _ _⟩, _, rfl, _, h => moves_startKeyDerive (hm _ rfl) h _ _ _ _ _ _ _
  case keySignJobStart =>
    exact moves_jobStart (hs _ rfl rfl) ht fun
      | ⟨_, _, .keySign _ _ _⟩, _, rfl, _, _ => moves_startKeySign (hm _ rfl) _ _ _
  case keyVerifyJobStart =>
    exact moves_jobStart (hs _ rfl rfl) ht fun
      | ⟨_, _, .keyVerify _ _ _ _⟩, _, rfl, _, _ => moves_startKeyVerify (hm _ rfl) _ _ _ _
  case keyEraseJobStart =>
    exact moves_jobStart (hs _ rfl rfl) ht fun
      | ⟨st, _, .keyErase _ _⟩, _, rfl, _, _ => moves_startKeyErase (hm _ rfl) st _ _
  case quoteJobStart =>
    exact moves_jobStart (hs _ rfl rfl) ht fun
      | ⟨_, _, .quote _ _ _ _⟩, _, rfl, _, _ => moves_startQuote (hm _ rfl) _ _ _ _
  case updateOpenJobStart =>
    exact moves_jobStart (hs _ rfl rfl) ht fun
      | ⟨_, _, .updateOpen⟩, _, rfl, _, _ => moves_startUpdateOpen (hm _ rfl)
  case updateDataJobStart =>
    exact moves_jobStart (hs _ rfl rfl) ht fun
      | ⟨_, _, .updateData _⟩, _, rfl, _, _ => moves_startUpdateData (hm _ rfl)
  case targetActivateJobStart =>
    exact moves_jobStart (hs _ rfl rfl) ht fun
      | ⟨_, _, .targetActivate i⟩, _, rfl, _, _ => moves_startTargetActivate (hm _ rfl) i
  case bootConfirmJobStart =>
    exact moves_jobStart (hs _ rfl rfl) ht fun
      | ⟨_, _, .bootConfirm c⟩, _, rfl, _, _ => moves_startBootConfirm (hm _ rfl) c
  case credSetJobStart =>
    exact moves_jobStart (hs _ rfl rfl) ht fun
      | ⟨st, _, .credSet p _ _⟩, _, rfl, _, _ => moves_startCredSet (hm _ rfl) st p _ _
  case credVerifyJobStart =>
    exact moves_jobStart (hs _ rfl rfl) ht fun
      | ⟨_, _, .credVerify id _⟩, _, rfl, _, _ => moves_startCredVerify (hm _ rfl) id _
  case credReleaseJobStart =>
    exact moves_jobStart (hs _ rfl rfl) ht fun
      | ⟨st, _, .credRelease id⟩, _, rfl, _, _ => moves_startCredRelease (hm _ rfl) st id
  case credClearJobStart =>
    exact moves_jobStart (hs _ rfl rfl) ht fun
      | ⟨st, _, .credClear id⟩, _, rfl, _, _ => moves_startCredClear (hm _ rfl) st id
  case settingsWriteJobStart =>
    exact moves_jobStart (hs _ rfl rfl) ht fun
      | ⟨st, _, .settingsWrite p⟩, _, rfl, _, _ => moves_startSettingsWrite (hm _ rfl) st p
  case trialAccountJobStart => exact moves_trialAccountJobStart ht
  case ownerResetJobStart => exact moves_ownerResetJobStart ht
  case keyGenerateJobEnd | keyImportJobEnd | keyDeriveJobEnd | keySignJobEnd | keyVerifyJobEnd | keyEraseJobEnd
    | chainExtendJobEnd | quoteJobEnd | updateOpenJobEnd | updateDataJobEnd | targetActivateJobEnd
    | bootConfirmJobEnd | credSetJobEnd | credVerifyJobEnd | credReleaseJobEnd | credClearJobEnd
    | settingsWriteJobEnd | trialAccountJobEnd | ownerResetJobEnd => exact moves_of_isJobEnd rfl ht
  case storeWriteComplete => exact moves_whenOn (fun _ => moves_writeCompletes (hm _ rfl) (hw _ rfl)) ht
  case credVerifyChargeWritten => exact moves_whenOn (fun _ => moves_chargeWritten (hm _ rfl) (hw _ rfl)) ht
  case storeWriteFailed landed =>
    exact moves_whenOn (fun _ => moves_writeFails (hm _ rfl) (hw _ rfl) (permits_reply rfl rfl) landed) ht
  case decisecondTick samples => exact .trans (moves_beforeTick samples rfl) (moves_tickEvent (hm _ rfl) ht)
  case decayTick samples | lockoutEnd _ samples | grantExpiry _ samples | idleDeadlineExpiry samples
    | trialTimerExpiry samples | gapTimeout samples | socrstPulseEnd samples =>
    simp only [exec, execDecayTick, execLockoutEnd, execGrantExpiry, execIdleDeadlineExpiry, execTrialTimerExpiry,
      execGapTimeout, execSocrstPulseEnd] at ht
    exact .trans (moves_beforeTick samples rfl) (moves_tickWhen (hm _ rfl) ht)
  case buttonHoldEvent => exact moves_tickWhen (hm _ rfl) ht
  case socResetSensed | socrstSenseReleased => exact moves_senseEvent rfl ht
  case addressCharacter value => exact moves_whenOn (fun _ => .same (lawView_addressCharacter s value)) ht
  case dataCharacter value =>
    exact moves_whenOn (fun hp => moves_dataCharacter (fun st _ => ⟨permits_reply rfl rfl st, permits_record rfl st, fun _ => .inl rfl⟩) hp
      value) ht
  case badCharacter kind => exact moves_whenOn (fun _ => .same (lawView_badCharacter s)) ht
  case txItemEnd => exact moves_whenOn (fun _ => .same (lawView_itemEnds s)) ht
  all_goals exact moves_frame rfl ht

end Exec

/-! ### Start-up -/

section StartUp

variable {P : State → Prop}

/-- What a step of start-up keeps, where its write may fail or be cut by a loss of power. -/
structure StartUpKeeps (P : State → Prop) : Prop where
  complete : ∀ (x : JobStep) s, P s → P (x.complete s)
  fail : ∀ (x : JobStep) landed s, P s → P (raiseCond .nvWriteFailed (x.fail landed s))
  cut : ∀ (x : JobStep) s, P s → x.writes s = true → P { s with store := x.land s }

theorem StartUpKeeps.step (hP : StartUpKeeps P) (trouble : StartUpTrouble) {b : StartingUp} (x : JobStep)
    (hb : P b.state) : P (startUpStep trouble b x).state := by
  have hdone := hP.complete x b.state hb
  unfold startUpStep
  split
  · exact hb
  · split
    · exact hdone
    case isFalse hw =>
      have hwrites : x.writes b.state = true := by simpa using hw
      split
      · exact hdone
      · split
        · exact hP.fail x _ _ hb
        · exact hdone
      · split
        · dsimp only
          split
          · exact hP.cut x _ hb hwrites
          · exact hb
        · exact hdone

theorem StartUpKeeps.steps (hP : StartUpKeeps P) (trouble : StartUpTrouble) (l : List JobStep) {b : StartingUp}
    (hb : P b.state) : P (startUpSteps trouble l b).state :=
  List.foldlRecOn (motive := fun b : StartingUp => P b.state) l _ hb fun _ hb _ _ =>
    List.foldlRecOn (motive := fun b : StartingUp => P b.state) _ _ hb fun _ hb x _ => hP.step trouble x hb

/-- What every step of start-up keeps holds behind its finishing work, once it holds of the loaded state with the
revoked slots set EMPTY. -/
theorem StartUpKeeps.startUp (hP : StartUpKeeps P) (bad : List RecordId) (trouble : StartUpTrouble) (s : State)
    (hload : P { loadStore bad s with
      keys := (loadStore bad s).keys.map (KeySlot.unlessRevoked (loadStore bad s).revoked) }) :
    ∃ t due, P t ∧ (startUp bad trouble s = State.blank s.pending .off t.store s.entropy
      ∨ startUp bad trouble s = { reimposeLockouts t with power := .startUp due }) := by
  have hrevoked : P (finishRevocations trouble
      { state := loadStore bad s, writes := 0, stopped := false, dead := false }).state := hP.steps trouble _ hload
  have howner (marked : Bool) {b : StartingUp} (hb : P b.state) : P (finishOwnerReset marked trouble b).state := by
    unfold finishOwnerReset
    split
    · exact hP.steps trouble _ hb
    · exact hb
  have hcount (good : Bool) {b : StartingUp} (hb : P b.state) : P (countTheStart good trouble b).state := by
    unfold countTheStart
    split
    · exact hP.steps trouble _ hb
    · exact hb
  have hdeferred {b : StartingUp} (hb : P b.state) : P (finishDeferred trouble b).state :=
    List.foldlRecOn (motive := fun b : StartingUp => P b.state) _ _ hb fun _ hb _ _ => hP.steps trouble _ hb
  have haccount {b : StartingUp} (hb : P b.state) : P (accountTrial trouble b).1.state := by
    unfold accountTrial
    split
    · exact hb
    · exact hP.steps trouble _ hb
  have hdone := haccount (hdeferred (hcount (!bad.contains .partResetCount)
    (howner (s.store.resetMark && !bad.contains .ownerResetMark) hrevoked)))
  simp only [Machine.startUp]
  generalize accountTrial trouble _ = done at hdone ⊢
  refine ⟨done.1.state, done.2, hdone, ?_⟩
  split
  · exact .inl rfl
  · exact .inr rfl

end StartUp

/-! ### The queue of waiting commands -/

theorem startUpKeeps_pending (l : List Instr) : StartUpKeeps fun t => t.pending = l where
  complete x s h := (stepFrame_complete x s).pending.trans h
  fail x landed s h := (stepFrame_fail x landed s).1.pending.trans h
  cut _ _ h _ := h

theorem pending_startUp (bad : List RecordId) (trouble : StartUpTrouble) (s : State) :
    (startUp bad trouble s).pending = s.pending := by
  obtain ⟨t, due, ht, h | h⟩ := (startUpKeeps_pending s.pending).startUp bad trouble s rfl
  · rw [h]; rfl
  · rw [h]; exact ht

theorem pending_partReset (input : StartUpInput) (s : State) : (partReset input s).pending = s.pending := by
  unfold partReset
  rw [pending_startUp]
  rfl

/-- A command takes the part's power away, resets it, ends its start-up, or is one that moves give. -/
theorem powerCommand_cases (c : Instr) :
    (∃ landed, c = .powerLost landed) ∨ (∃ input, c = .partReset input) ∨ (∃ low, c = .startUpEnd low)
      ∨ endsPower c = false ∧ ∀ low, c ≠ .startUpEnd low := by
  cases c <;> simp [endsPower]

/-- The end of start-up opens a part in start-up, and is nothing to any other. -/
theorem startUpEnd_cases {low : Bool} {s t : State} (ht : exec (.startUpEnd low) s = .next t) :
    (∃ due, s.power = .startUp due ∧ t = recomputeAttn (startIf due (openPart low s)))
      ∨ (∀ due, s.power ≠ .startUp due) ∧ t = s := by
  simp only [exec, execStartUpEnd] at ht
  split at ht <;> cases ht
  case h_1 due hp => exact .inl ⟨due, hp, rfl⟩
  case h_2 hp => exact .inr ⟨by simp [hp], rfl⟩
  case h_3 hp => exact .inr ⟨by simp [hp], rfl⟩

/-- Settles O3: no move changes the queue of commands, and no more do a loss of power, a part reset and the end of
start-up. -/
theorem execLeavesQueue : Obligations.ExecLeavesQueue := by
  intro c s t ht
  rcases powerCommand_cases c with ⟨landed, rfl⟩ | ⟨input, rfl⟩ | ⟨low, rfl⟩ | ⟨hp, hup⟩
  · cases ht
    split <;> rfl
  · have hreset : partReset input s = t := Host.Outcome.next.inj ht
    rw [← hreset, pending_partReset]
  · obtain ⟨due, -, rfl⟩ | ⟨-, rfl⟩ := startUpEnd_cases ht
    · cases due <;> rfl
    · rfl
  · exact (moves_exec hp hup ht).pending

end Sys2Proof.Machine
end

section
/-! PROOFS. What every step keeps that single moves keep: ATTN's level (R171), the other stations' records (R161), the
store (R176), FAULT mode (R177), the floors, the revocation list and the frozen flags (R7, R37, R92). -/

namespace Sys2Proof.Machine

open Sys2Proof

/-- A step is that of an empty queue, which changes nothing, or the command at the front with the queue's rest. -/
theorem step_cases {s t : State} (h : step s = .next t) :
    (s.pending = [] ∧ t = s) ∨ ∃ c rest, s.pending = c :: rest ∧ exec c (s.withPending rest) = .next t := by
  unfold step at h
  split at h
  case h_1 he =>
    cases h
    exact .inl ⟨he, rfl⟩
  case h_2 c rest he => exact .inr ⟨c, rest, he, h⟩

/-- Settles O1. -/
theorem stepTakesFrontCommand : Obligations.StepTakesFrontCommand :=
  ⟨fun _ _ _ => rfl, fun s h => by rw [step, h]⟩

/-! ### ATTN (R171) -/

section Attn

variable {s t : State}

theorem attnLaw_recomputeAttn (s : State) : AttnLaw (recomputeAttn s) := rfl

/-- Without power, and in start-up, the rule releases ATTN. -/
theorem attnLaw_of_released (hp : s.power ≠ .on) (ha : s.attn = false) : AttnLaw s := by
  have : attnLevel s = false := by simp [attnLevel, hp]
  rw [AttnLaw, ha, this]

/-- Without power, and in start-up, ATTN is released. -/
theorem AttnLaw.released (h : AttnLaw s) (hp : s.power ≠ .on) : s.attn = false := by
  rw [h]
  simp [attnLevel, hp]

theorem attnLaw_whenOn {f : State → State} (h : AttnLaw s) (ht : whenOn f s = .next t) : AttnLaw t := by
  by_cases hp : s.power = .on
  · rw [whenOn_on hp] at ht
    cases ht
    exact attnLaw_recomputeAttn _
  · rw [whenOn_off hp] at ht
    cases ht
    exact h

/-- The samples that come with a tick are read by a running part alone. -/
theorem beforeTick_of_not_on (samples : PhaseSamples) (hp : s.power ≠ .on) : beforeTick samples s = s := if_neg hp

/-- An event behind the samples of a tick. -/
theorem attnLaw_whenOn_beforeTick {f : State → State} {samples : PhaseSamples} (h : AttnLaw s)
    (ht : whenOn f (beforeTick samples s) = .next t) : AttnLaw t := by
  by_cases hp : s.power = .on
  · rw [whenOn_on ((power_beforeTick samples s).trans hp)] at ht
    cases ht
    exact attnLaw_recomputeAttn _
  · rw [beforeTick_of_not_on samples hp] at ht
    exact attnLaw_whenOn h ht

theorem attnLaw_decisecondTick (samples : PhaseSamples) (h : AttnLaw s)
    (ht : exec (.decisecondTick samples) s = .next t) : AttnLaw t := by
  have hpower := power_beforeTick samples s
  simp only [exec, execDecisecondTick, tickEvent] at ht
  split at ht
  case h_1 =>
    cases ht
    exact attnLaw_recomputeAttn _
  case h_2 hup =>
    have hp : s.power ≠ .on := by simp [← hpower, hup]
    rw [beforeTick_of_not_on samples hp] at ht
    cases ht
    exact attnLaw_of_released hp (h.released hp)
  case h_3 hoff =>
    have hp : s.power ≠ .on := by simp [← hpower, hoff]
    rw [beforeTick_of_not_on samples hp] at ht
    cases ht
    exact h

theorem startUpKeeps_attn : StartUpKeeps fun t => t.attn = false where
  complete x s h := (stepFrame_complete x s).attn.trans h
  fail x landed s h := (stepFrame_fail x landed s).1.attn.trans h
  cut _ _ h _ := h

theorem attnLaw_partReset (input : StartUpInput) (s : State) : AttnLaw (partReset input s) := by
  unfold partReset
  obtain ⟨t, due, ht, h | h⟩ := startUpKeeps_attn.startUp input.bad input.trouble
    (State.blank s.pending (.startUp false) (if s.power = .off then s.store else storeAfterLoss input.landed s)
      s.entropy) rfl
  · exact h ▸ attnLaw_of_released (by simp [State.blank]) rfl
  · exact h ▸ attnLaw_of_released (by simp) ht

theorem attnLaw_exec {c : Instr} (h : AttnLaw s) (ht : exec c s = .next t) : AttnLaw t := by
  cases c
  case powerLost landed =>
    cases ht
    split
    · exact h
    · exact attnLaw_of_released (by simp [losePower, State.blank]) rfl
  case partReset input =>
    have hreset : partReset input s = t := Host.Outcome.next.inj ht
    exact hreset ▸ attnLaw_partReset input s
  case startUpEnd low =>
    obtain ⟨due, -, rfl⟩ | ⟨-, rfl⟩ := startUpEnd_cases ht
    · exact attnLaw_recomputeAttn _
    · exact h
  case decisecondTick samples => exact attnLaw_decisecondTick samples h ht
  case decayTick | lockoutEnd | grantExpiry | idleDeadlineExpiry | trialTimerExpiry | gapTimeout | socrstPulseEnd =>
    simp only [exec, execDecayTick, execLockoutEnd, execGrantExpiry, execIdleDeadlineExpiry, execTrialTimerExpiry,
      execGapTimeout, execSocrstPulseEnd] at ht
    exact attnLaw_whenOn_beforeTick h ht
  case ownerResetJobStart =>
    unfold exec execOwnerResetJobStart at ht
    exact attnLaw_whenOn h ht
  all_goals exact attnLaw_whenOn h ht

end Attn

/-- Settles O53: every command of a running part ends with ATTN's level computed anew, and a part without power or in
start-up has it released. -/
theorem attnFollowsItsRule : Obligations.AttnFollowsItsRule := by
  intro s t h ht
  rcases step_cases ht with ⟨-, rfl⟩ | ⟨c, rest, -, ht⟩
  · exact h
  · exact attnLaw_exec (s := s.withPending rest) h ht

/-! ### The other stations (R161) -/

section Others

variable {may : Effect → Prop} {s t : State} {other : Station}

/-- The station has the same request state when a job of it runs, or waits, in both states or in neither. -/
theorem requestState_eq_of (hr : t.running.bind Running.holder = some other ↔ s.running.bind Running.holder = some other)
    (hq : (∃ j ∈ t.queue, j.holder = some other) ↔ ∃ j ∈ s.queue, j.holder = some other) :
    requestState other t = requestState other s := by
  have hany (u : State) : u.queue.any (fun j => j.holder == some other) = true ↔ ∃ j ∈ u.queue, j.holder = some other := by
    simp
  simp only [requestState, hr, hany, hq]

/-- The OWNER_RESET of station 2 is all that an attachment brings. -/
theorem mem_attachOwnerReset_iff (h : other ≠ 2) (q : Bool) (s : State) :
    (∃ j ∈ (attachOwnerReset q s).queue, j.holder = some other) ↔ ∃ j ∈ s.queue, j.holder = some other := by
  have hne : (2 : Station) ≠ other := Ne.symm h
  simp only [attachOwnerReset]
  split
  case isTrue =>
    constructor
    · rintro ⟨j, hj, ho⟩
      obtain ⟨x, hx, rfl⟩ := List.mem_map.1 hj
      refine ⟨x, hx, ?_⟩
      cases x with
      | ownerReset attached button => simp [Job.holder, hne] at ho
      | _ => exact ho
    · rintro ⟨x, hx, ho⟩
      refine ⟨_, List.mem_map.2 ⟨x, hx, rfl⟩, ?_⟩
      cases x with
      | ownerReset attached button => cases attached <;> simp [Job.holder, hne] at ho
      | _ => exact ho
  case isFalse => simp [Job.holder, hne]

/-- What a frame of another station leaves of a station, and the record too when the stage does not move on. -/
structure LeavesStation (may : Effect → Prop) (other : Station) (s t : State) : Prop where
  requests : requestState other t = requestState other s
  slot : (t.stations.get other).slot = (s.stations.get other).slot
  grant : (t.stations.get other).grant = (s.stations.get other).grant
  record : ¬may .stage → t.stations.get other = s.stations.get other

theorem LeavesStation.of_record {u : State} (h : LeavesStation may other s t)
    (hr : requestState other u = requestState other t) (hs : u.stations.get other = t.stations.get other) :
    LeavesStation may other s u :=
  ⟨hr.trans h.requests, by rw [hs, h.slot], by rw [hs, h.grant], fun hm => hs.trans (h.record hm)⟩

/-- A move that has leave for the replies and records of another station alone, and none for the engine or a SoC reset,
leaves a station's requests and, but for the stage, its record. -/
theorem Move.leavesStation {u : State} (hreply : ¬may (.reply other)) (hrecord : ¬may (.record other))
    (hengine : ¬may .engine) (hstart : ¬may .start) (hboot : ¬may .boot) (h : LeavesStation may other s t)
    (hmove : Move may t u) : LeavesStation may other s u := by
  have hset (st : Station) (r : StationRec) (hst : other ≠ st) :
      (setStation st r t).stations.get other = t.stations.get other := Tbl.get_set_ne _ _ hst
  have hne {st : Station} (hm : may (.reply st)) : other ≠ st := fun he => hreply (he ▸ hm)
  cases hmove with
  | same hview =>
    exact h.of_record
      (requestState_congr (congrArg LawView.queue hview) (congrArg LawView.running hview) other)
      (by rw [show u.stations = t.stations from congrArg LawView.stations hview])
  | reply st slot hm => exact h.of_record rfl (hset st _ (hne hm))
  | record st r hm => exact h.of_record rfl (hset st r fun he => hrecord (he ▸ hm))
  | stage st state hm =>
    have hget : ((moveStation st state t).stations.get other).slot = (t.stations.get other).slot
        ∧ ((moveStation st state t).stations.get other).grant = (t.stations.get other).grant := by
      simp only [moveStation, setStation, Tbl.get_set]
      split
      case isTrue he => rw [he]; exact ⟨rfl, rfl⟩
      case isFalse => exact ⟨rfl, rfl⟩
    exact ⟨h.requests, hget.1.trans h.slot, hget.2.trans h.grant, fun hno => absurd hm hno⟩
  | enqueue st q w hm =>
    refine h.of_record (requestState_eq_of Iff.rfl ?_) rfl
    simp [Machine.enqueue, Job.holder, Ne.symm (hne hm)]
  | attach q hm =>
    exact h.of_record (requestState_eq_of Iff.rfl (mem_attachOwnerReset_iff (hne hm) q t)) rfl
  | withdraw st hm =>
    refine h.of_record (requestState_eq_of Iff.rfl ⟨?_, ?_⟩) rfl
    · rintro ⟨j, hj, ho⟩
      obtain ⟨x, hx, hxj⟩ := List.mem_filterMap.1 hj
      split at hxj
      · simp [Job.holder_of_withdrawn hxj] at ho
      · cases hxj
        exact ⟨_, hx, ho⟩
    · rintro ⟨j, hj, ho⟩
      refine ⟨j, List.mem_filterMap.2 ⟨j, hj, if_neg ?_⟩, ho⟩
      rw [ho]
      exact fun he => hne hm (Option.some.inj he)
  | unqueue st hm =>
    refine h.of_record (requestState_eq_of Iff.rfl ?_) rfl
    simp only [List.mem_filter, bne_iff_ne, and_assoc]
    refine exists_congr fun j => and_congr_right fun _ => and_iff_right_of_imp fun ho => ?_
    rw [ho]
    exact fun he => hne hm (Option.some.inj he)
  | running f hf =>
    refine h.of_record (requestState_eq_of ?_ Iff.rfl) rfl
    cases t.running with
    | none => simp
    | some r => simp [Running.holder, hf.job, hf.crossed]
  | freeze | dropKeys | dropCreds | newCred | changeCred | lockCred => exact h.of_record rfl rfl
  | takeJob hm => exact absurd hm hstart
  | withdrawAll hm | cross hm | bootStations hm | bootChains hm | queueTrial hm => exact absurd hm hboot
  | dropGrants _ hm | queueButton hm | endJob _ _ hm | create _ hm | step _ hm | fail _ _ hm | dropQueue hm | tick hm
  | bareTick hm => exact absurd hm hengine

end Others

/-- A frame brings the sense sampler no sample. -/
theorem senseSamples_of_frame {c : Instr} (h : isFrame c = true) : senseSamples c = [] := by
  cases c <;> first | rfl | cases h

theorem isFrame_of_frameStation {c : Instr} {st : Station} (h : frameStation c = some st) : isFrame c = true := by
  cases c <;> first | rfl | cases h

/-- Settles O58: a frame has leave for the reply slot and the record of its own station alone, and CLOSE_STAGE for the
stage. -/
theorem stationsDoNotInterfere : Obligations.StationsDoNotInterfere := by
  intro c st other s t hst hknown hne ht
  have hframe := isFrame_of_frameStation hst
  have hmoves := moves_frame hframe ht
  have hother : ¬∀ x, frameStation c = some x → x = other := fun h => hne (h st hst).symm
  have hleaves : LeavesStation (permits c s) other s t := by
    refine hmoves.keeps (P := LeavesStation (permits c s) other s) (fun hmove hs => hmove.leavesStation ?_ hother ?_ ?_ ?_ hs)
      ⟨rfl, rfl, rfl, fun _ => rfl⟩
    · exact fun h => hother h.1
    · simp [permits, hframe]
    · simp [permits, hframe]
    · simp [permits, sensesReset, senseSamples_of_frame hframe, movesToAsserted]
  refine ⟨hleaves.requests, fun hc => hleaves.record ?_, hleaves.slot, hleaves.grant⟩
  rintro (h | h | ⟨x, flags, body, rfl⟩)
  · simp [hst] at h
  · simp [hknown] at h
  · cases hst
    exact hc flags body rfl

/-! ### The store and FAULT mode (R176, R177, R178) -/

section Writes

variable {may : Effect → Prop} {s t : State}

theorem Move.store (hw : ¬may .write) (h : Move may s t) : t.store = s.store := by
  have hend (r : Result) (b : List Byte) (s : State) : (Machine.endJob r b s).store = s.store := by
    unfold Machine.endJob
    split
    · rfl
    · split <;> rfl
  cases h with
  | same h => exact congrArg LawView.store h
  | step x _ hwrites =>
    have hfree : x.writes s = false := Bool.eq_false_of_not_eq_true fun h => hw (hwrites h)
    rw [complete_free hfree]
  | fail _ _ _ h => exact absurd h hw
  | endJob r b => exact hend r b s
  | create => exact hend _ _ _
  | _ => rfl

/-- In FAULT mode with no job running, none comes to run. -/
structure FaultIdle (s : State) : Prop where
  fault : s.fault = true
  running : s.running = none

theorem Move.faultIdle (hw : ¬may .write) (hb : FaultIdle s) (h : Move may s t) : FaultIdle t := by
  obtain ⟨hf, hr⟩ := hb
  have hend (r : Result) (b : List Byte) : Machine.endJob r b s = s := by simp [Machine.endJob, hr]
  cases h with
  | same h => exact ⟨(congrArg LawView.fault h).trans hf, (congrArg LawView.running h).trans hr⟩
  | running f => exact ⟨hf, by simp [hr]⟩
  | step x =>
    obtain ⟨f, -, hrun⟩ := running_complete x s
    exact ⟨(stepFrame_complete x s).fault.trans hf, by rw [hrun, hr]; rfl⟩
  | fail _ _ _ h => exact absurd h hw
  | endJob r b => exact ⟨by rw [hend]; exact hf, by rw [hend]; exact hr⟩
  | create _ _ hrun => simp [hr] at hrun
  | takeJob _ hno => simp [hf] at hno
  | cross => exact ⟨hf, by simp [hr]⟩
  | dropQueue => exact ⟨rfl, hr⟩
  | _ => exact ⟨hf, hr⟩

/-- What a command of a job's end does. -/
theorem exec_of_isJobEnd {c : Instr} (hc : isJobEnd c = true) :
    ∃ is fin, ∀ s, exec c s = whenOn (onEnd is fin) s := by
  cases c
  case keyGenerateJobEnd | keyImportJobEnd | keyDeriveJobEnd | keySignJobEnd | keyVerifyJobEnd | keyEraseJobEnd
    | chainExtendJobEnd | quoteJobEnd | updateOpenJobEnd | updateDataJobEnd | targetActivateJobEnd
    | bootConfirmJobEnd | credSetJobEnd | credVerifyJobEnd | credReleaseJobEnd | credClearJobEnd
    | settingsWriteJobEnd | trialAccountJobEnd | ownerResetJobEnd => exact ⟨_, _, fun _ => rfl⟩
  all_goals cases hc

/-- A running part's work that finds nothing to do leaves ATTN's level alone to be computed. -/
theorem whenOn_of_idle {f : State → State} (hf : f s = s) (ht : whenOn f s = .next t) : t = s ∨ t = recomputeAttn s := by
  by_cases hon : s.power = .on
  · rw [whenOn_on hon, hf] at ht
    cases ht
    exact .inr rfl
  · rw [whenOn_off hon] at ht
    cases ht
    exact .inl rfl

/-- With no job running, a command that may write the store finds nothing to write. -/
theorem exec_idle_of_mayWrite {c : Instr} (hr : s.running = none) (hc : mayWrite c = true) (hp : endsPower c = false)
    (ht : exec c s = .next t) : t = s ∨ t = recomputeAttn s := by
  have hway : underWay s = none := by simp [underWay, hr]
  by_cases hend : isJobEnd c = true
  · obtain ⟨is, fin, hexec⟩ := exec_of_isJobEnd hend
    exact whenOn_of_idle (by simp [onEnd, hr]) ((hexec s).symm.trans ht)
  · cases c
    case storeWriteComplete => exact whenOn_of_idle (by simp [writeCompletes, hr]) ht
    case storeWriteFailed landed => exact whenOn_of_idle (by simp [writeFails, hway]) ht
    case credVerifyChargeWritten => exact whenOn_of_idle (by simp [chargeWritten, hway]) ht
    case powerLost | partReset => cases hp
    all_goals simp_all [mayWrite, isJobEnd]

/-- No reply is placed while the running job belongs to no station. -/
structure NoReply (s t : State) : Prop where
  slots : ∀ st, (t.stations.get st).slot = (s.stations.get st).slot
  crossed : ∀ r, t.running = some r → r.crossed = true

theorem NoReply.endJob {r : Result} {b : List Byte} (h : NoReply s t) : NoReply s (endJob r b t) := by
  cases hr : t.running with
  | none => rwa [show Machine.endJob r b t = t by simp [Machine.endJob, hr]]
  | some x =>
    rw [endJob_none hr (holder_crossed x (h.crossed x hr))]
    exact { slots := fun st => h.slots st, crossed := fun r hr => nomatch hr }

theorem slot_dropGrant (b : Grant → Bool) (t : Tbl StationRec 4) (st : Station) :
    ((t.map (StationRec.dropGrant b)).get st).slot = (t.get st).slot := by
  rw [Tbl.get_map]
  rfl

theorem Move.noReply {u : State} (hreply : ∀ st, ¬may (.reply st)) (hstart : ¬may .start) (hboot : ¬may .boot)
    (h : NoReply s t) (hmove : Move may t u) : NoReply s u := by
  obtain ⟨hslots, hcrossed⟩ := h
  have hset (st : Station) (r : StationRec) (hr : r.slot = (t.stations.get st).slot) (x : Station) :
      ((setStation st r t).stations.get x).slot = (t.stations.get x).slot := by
    simp only [setStation, Tbl.get_set]
    split
    case isTrue he => rw [he, hr]
    case isFalse => rfl
  cases hmove with
  | same hv =>
    exact ⟨fun st => by rw [show u.stations = t.stations from congrArg LawView.stations hv]; exact hslots st,
      fun r hr => hcrossed r ((congrArg LawView.running hv).symm.trans hr)⟩
  | reply st _ hm => exact absurd hm (hreply st)
  | enqueue st _ _ hm | withdraw st hm | unqueue st hm => exact absurd hm (hreply st)
  | attach _ hm => exact absurd hm (hreply 2)
  | record st r _ hr => exact ⟨fun x => (hset st r hr x).trans (hslots x), hcrossed⟩
  | stage st state => exact ⟨fun x => (hset st { t.stations.get st with state } rfl x).trans (hslots x), hcrossed⟩
  | dropGrants b => exact ⟨fun st => (slot_dropGrant b _ st).trans (hslots st), hcrossed⟩
  | takeJob hm => exact absurd hm hstart
  | withdrawAll hm | cross hm | bootStations hm | bootChains hm | queueTrial hm => exact absurd hm hboot
  | running f hf =>
    refine ⟨hslots, fun r hr => ?_⟩
    obtain ⟨r', hr', rfl⟩ := Option.map_eq_some_iff.1 hr
    exact (hf.crossed r').trans (hcrossed r' hr')
  | endJob r b => exact NoReply.endJob ⟨hslots, hcrossed⟩
  | create => exact NoReply.endJob ⟨hslots, hcrossed⟩
  | step x =>
    obtain ⟨f, hf, hrun⟩ := running_complete x t
    refine ⟨fun st => .trans ?_ (hslots st), fun r hr => ?_⟩
    · rcases (stepFrame_complete x t).stations with h | h <;> rw [h]
      exact slot_dropGrant _ _ st
    · rw [hrun] at hr
      obtain ⟨r', hr', rfl⟩ := Option.map_eq_some_iff.1 hr
      exact (hf.crossed r').trans (hcrossed r' hr')
  | fail x landed =>
    obtain ⟨-, hst, hrun⟩ := stepFrame_fail x landed t
    exact ⟨fun st => by rw [hst]; exact hslots st, fun r hr => hcrossed r (hrun.symm.trans hr)⟩
  | _ => exact ⟨hslots, hcrossed⟩

end Writes

/-- Settles O59: a command without leave to write leaves the store; in FAULT mode with no job running the others find no
job; and a job that belongs to no station ends without a reply. -/
theorem storeIsWrittenByJobsAlone : Obligations.StoreIsWrittenByJobsAlone := by
  have hstore {c : Instr} {s t : State} (hc : mayWrite c = false) (ht : exec c s = .next t) : t.store = s.store := by
    rcases powerCommand_cases c with ⟨landed, rfl⟩ | ⟨input, rfl⟩ | ⟨low, rfl⟩ | ⟨hp, hup⟩
    · cases hc
    · cases hc
    · obtain ⟨due, -, rfl⟩ | ⟨-, rfl⟩ := startUpEnd_cases ht
      · cases due <;> rfl
      · rfl
    · exact (moves_exec hp hup ht).keeps (P := fun u => u.store = s.store)
        (fun hmove hu => (hmove.store (by simp [permits, hc])).trans hu) rfl
  refine ⟨⟨fun c s t hc ht => hstore hc ht, fun c s t hp ht hon hf hr => ?fault⟩, fun c r s t hc hr hx ht st => ?crossed⟩
  case fault =>
    cases hw : mayWrite c with
    | true =>
      rcases exec_idle_of_mayWrite hr hw hp ht with rfl | rfl
      · exact ⟨hf, hr, hon, rfl⟩
      · exact ⟨hf, hr, hon, rfl⟩
    | false =>
      by_cases hup : ∃ low, c = .startUpEnd low
      · obtain ⟨low, rfl⟩ := hup
        obtain ⟨due, hdue, -⟩ | ⟨-, rfl⟩ := startUpEnd_cases ht
        · simp [hon] at hdue
        · exact ⟨hf, hr, hon, rfl⟩
      · have hmoves := moves_exec hp (fun low h => hup ⟨low, h⟩) ht
        obtain ⟨hf', hr'⟩ := hmoves.keeps (P := FaultIdle)
          (fun hmove hu => hmove.faultIdle (by simp [permits, hw]) hu) ⟨hf, hr⟩
        exact ⟨hf', hr', hmoves.power.trans hon, hstore hw ht⟩
  case crossed =>
    have hsamples : senseSamples c = [] := by
      cases c <;> first | rfl | cases hc
    refine ((moves_of_isJobEnd hc ht).keeps (P := NoReply s)
      (fun hmove hu => hmove.noReply ?_ ?_ ?_ hu) ⟨fun _ => rfl, fun r' hr' => ?_⟩).slots st
    · simp [permits, hc]
    · simp [permits, hc]
    · simp [permits, sensesReset, hsamples, movesToAsserted]
    · rw [hr] at hr'
      cases hr'
      exact hx

/-! ### Floors, revocations and frozen chains (R7, R37, R92) -/

section Grow

variable {may : Effect → Prop} {s t : State}

/-- Every class keeps its record, and its floor does not fall. -/
def FloorsGrow (s t : State) : Prop :=
  ∀ x r, s.classes.get x = some r → ∃ r', t.classes.get x = some r' ∧ r.floor ≤ r'.floor

theorem floorsGrow_of_classes (h : t.classes = s.classes) : FloorsGrow s t :=
  fun _ r hr => ⟨r, by rw [h, hr], le_rfl⟩

theorem FloorsGrow.trans {u : State} (h : FloorsGrow s t) (h' : FloorsGrow t u) : FloorsGrow s u := by
  intro x r hr
  obtain ⟨r', hr', hle⟩ := h x r hr
  obtain ⟨r'', hr'', hle'⟩ := h' x r' hr'
  exact ⟨r'', hr'', hle.trans hle'⟩

theorem floorsGrow_setClass {f : ClassRecord → ClassRecord} (c : ClassNo) (hf : ∀ r, r.floor ≤ (f r).floor) :
    FloorsGrow s (setClass c f s) := by
  intro x r hr
  simp only [setClass, Tbl.get_set]
  split
  case isTrue he =>
    subst he
    exact ⟨f r, by rw [hr]; rfl, hf r⟩
  case isFalse => exact ⟨r, hr, le_rfl⟩

@[simp] theorem ClassRecord.floor_setImage (r : ClassRecord) (bank : Bank) (i : Option ImageRecord) :
    (r.setImage bank i).floor = r.floor := by cases bank <;> rfl

@[simp] theorem ClassRecord.floor_markBelow (r : ClassRecord) (bank : Bank) : (r.markBelow bank).floor = r.floor := by
  unfold ClassRecord.markBelow
  split
  · split <;> simp
  · rfl

theorem ClassRecord.floor_le_confirmed (r : ClassRecord) : r.floor ≤ r.confirmed.floor := by
  unfold ClassRecord.confirmed
  split
  · rw [ClassRecord.floor_markBelow]
    exact le_max_left _ _
  · exact le_rfl

theorem ClassRecord.floor_le_activated (r : ClassRecord) (t : Target) : r.floor ≤ (r.activated t).floor := by
  rw [ClassRecord.activated, ClassRecord.floor_markBelow]
  exact le_max_left _ _

theorem ClassRecord.floor_counted (r : ClassRecord) : r.counted.floor = r.floor := by
  unfold ClassRecord.counted
  split <;> rfl

theorem ClassRecord.floor_reverted (r : ClassRecord) : r.reverted.floor = r.floor := by
  unfold ClassRecord.reverted
  split
  · exact ClassRecord.floor_setImage _ _ _
  · rfl

/-- A step of a job raises floors, adds to the revocation list and leaves every frozen flag. -/
structure Grows (s t : State) : Prop where
  floors : FloorsGrow s t
  revoked : s.revoked <+: t.revoked
  frozen : ∀ c, (t.chains.get c).frozen = (s.chains.get c).frozen

theorem grows_of_view (h : lawView t = lawView s) : Grows s t :=
  ⟨floorsGrow_of_classes (congrArg LawView.classes h),
    by rw [show t.revoked = s.revoked from congrArg LawView.revoked h],
    congrFun (congrArg LawView.frozen h)⟩

theorem grows_of_eq (hc : t.classes = s.classes) (hr : t.revoked = s.revoked) (hf : t.chains = s.chains) : Grows s t :=
  ⟨floorsGrow_of_classes hc, by rw [hr], fun _ => by rw [hf]⟩

theorem grows_eraseAndSweep (slot : Slot) (s : State) : Grows s (eraseAndSweep slot s) := by
  have hview : lawView (eraseAndSweep slot s) = lawView (setKey slot .empty s) := lawView_sweepKey _ _
  obtain ⟨h1, h2, h3⟩ := grows_of_view hview
  exact ⟨h1, h2, h3⟩

theorem grows_setClass {f : ClassRecord → ClassRecord} (c : ClassNo) (hf : ∀ r, r.floor ≤ (f r).floor) :
    Grows s (setClass c f s) := ⟨floorsGrow_setClass c hf, List.prefix_rfl, fun _ => rfl⟩

theorem grows_act (x : JobStep) (s : State) : Grows s (x.act s) := by
  have hid : Grows s s := grows_of_eq rfl rfl rfl
  cases x with
  | activate t => exact grows_setClass t.cls fun r => r.floor_le_activated t
  | activateTrial t =>
    exact grows_setClass t.cls fun r => (ClassRecord.floor_setImage r t.bank (some t.image)).ge
  | confirm c => exact grows_setClass c ClassRecord.floor_le_confirmed
  | clearDeferred c => exact grows_setClass c fun r => le_rfl
  | account c => exact grows_setClass c fun r => r.floor_counted.ge
  | revert c => exact grows_setClass c fun r => r.floor_reverted.ge
  | action c a =>
    simp only [JobStep.act]
    split
    · exact ⟨floorsGrow_of_classes rfl, List.prefix_append _ _, fun _ => rfl⟩
    · exact grows_of_eq rfl rfl rfl
    · exact grows_of_eq rfl rfl rfl
  | revokeSlot slot => exact grows_of_view (lawView_sweepKey (raiseCond .keyRevoked s) slot)
  | sweepClass c b => exact grows_of_view (lawView_sweepClassFloor s c b)
  | marker m => exact grows_of_view (lawView_partExtend s m)
  | charge id =>
    simp only [JobStep.act]
    split <;> exact grows_of_eq rfl rfl rfl
  | success id =>
    simp only [JobStep.act]
    split <;> exact grows_of_eq rfl rfl rfl
  | eraseCred id =>
    simp only [JobStep.act]
    split <;> exact grows_of_eq rfl rfl rfl
  | eraseKey slot =>
    simp only [JobStep.act]
    split
    · obtain ⟨h1, h2, h3⟩ := grows_eraseAndSweep slot s
      exact ⟨h1, h2, h3⟩
    · exact hid
  | _ => exact grows_of_eq rfl rfl rfl

theorem grows_lose (x : JobStep) (s : State) : Grows s (x.lose s) := by
  cases x with
  | keyRemove slot => exact grows_eraseAndSweep slot s
  | eraseKey slot => exact grows_eraseAndSweep slot s
  | _ => exact grows_of_eq rfl rfl rfl

theorem grows_endJob (r : Result) (b : List Byte) (s : State) : Grows s (endJob r b s) := by
  unfold endJob
  split
  · exact grows_of_eq rfl rfl rfl
  · split <;> exact grows_of_eq rfl rfl rfl

/-- Every move raises floors and adds to the revocation list, and none thaws a chain that the boot's end does not
clear. -/
theorem Move.grows (h : Move may s t) :
    FloorsGrow s t ∧ s.revoked <+: t.revoked
      ∧ ∀ c : ChainNo, 10 ≤ c.val ∨ ¬may .boot → (s.chains.get c).frozen = true → (t.chains.get c).frozen = true := by
  have hgrows {t : State} (h : Grows s t) : FloorsGrow s t ∧ s.revoked <+: t.revoked
      ∧ ∀ c : ChainNo, 10 ≤ c.val ∨ ¬may .boot → (s.chains.get c).frozen = true → (t.chains.get c).frozen = true :=
    ⟨h.floors, h.revoked, fun c _ hc => (h.frozen c).trans hc⟩
  cases h with
  | same h => exact hgrows (grows_of_view h)
  | freeze x =>
    refine ⟨floorsGrow_of_classes rfl, List.prefix_rfl, fun c _ hc => ?_⟩
    simp only [setChain, Tbl.get_set]
    split
    · rfl
    · exact hc
  | bootChains hm =>
    refine ⟨floorsGrow_of_classes rfl, List.prefix_rfl, fun c hc hfrozen => ?_⟩
    have hlate : ¬c.val < 10 := by
      rcases hc with hc | hc
      · omega
      · exact absurd hm hc
    simpa [clearBootChains, hlate] using hfrozen
  | step x =>
    obtain ⟨h1, h2, h3⟩ := grows_act x s
    exact hgrows ⟨h1, h2, h3⟩
  | fail x landed =>
    obtain ⟨h1, h2, h3⟩ := grows_lose x s
    exact hgrows ⟨h1, h2, h3⟩
  | endJob r b => exact hgrows (grows_endJob r b s)
  | create =>
    obtain ⟨h1, h2, h3⟩ := grows_endJob .ok _ (setKey _ _ s)
    exact hgrows ⟨h1, h2, h3⟩
  | _ => exact hgrows (grows_of_eq rfl rfl rfl)

end Grow

/-- Settles O60: every move keeps it, and the end of start-up touches neither floors, revocations nor chains. -/
theorem floorsAndRevocationsOnlyGrow : Obligations.FloorsAndRevocationsOnlyGrow := by
  intro c s t hp ht
  by_cases hup : ∃ low, c = .startUpEnd low
  · obtain ⟨low, rfl⟩ := hup
    have hsame : t.classes = s.classes ∧ t.revoked = s.revoked ∧ t.chains = s.chains := by
      obtain ⟨due, -, rfl⟩ | ⟨-, rfl⟩ := startUpEnd_cases ht
      · cases due <;> exact ⟨rfl, rfl, rfl⟩
      · exact ⟨rfl, rfl, rfl⟩
    obtain ⟨hclasses, hrevoked, hchains⟩ := hsame
    exact ⟨floorsGrow_of_classes hclasses, by rw [hrevoked], fun x _ h => by rw [hchains]; exact h⟩
  · obtain ⟨hfloors, hrevoked, hfrozen⟩ := (moves_exec hp (fun low h => hup ⟨low, h⟩) ht).keeps
      (P := fun u => FloorsGrow s u ∧ s.revoked <+: u.revoked
        ∧ ∀ c' : ChainNo, 10 ≤ c'.val ∨ ¬permits c s .boot → (s.chains.get c').frozen = true →
          (u.chains.get c').frozen = true)
      (fun hmove ⟨h1, h2, h3⟩ =>
        have ⟨m1, m2, m3⟩ := hmove.grows
        ⟨h1.trans m1, h2.trans m2, fun c' hc' hs => m3 c' hc' (h3 c' hc' hs)⟩)
      ⟨floorsGrow_of_classes rfl, List.prefix_rfl, fun _ _ h => h⟩
    exact ⟨hfloors, hrevoked, fun x hx => hfrozen x (hx.imp_right fun h => by simp [permits, h])⟩

/-! ### The part after reset -/

/-- Settles O52: nothing waits or runs, no key is revoked, and the factory's keys, the only ones, are excepted from
KeyLaw's second part. -/
theorem resetMeetsTheLaws : Obligations.ResetMeetsTheLaws := by
  have hkeys (slot : Slot) (k : KeyRecord) (h : State.reset.keys.get slot = .active k) : k.origin = .factory := by
    simp only [State.reset, Tbl.get_ofFn] at h
    split at h
    case h_1 k' hk =>
      cases h
      unfold shippedKey at hk
      split_ifs at hk <;> cases hk <;> rfl
    case h_2 => cases h
  refine ⟨by decide, ?evidence, ?engine, ?governor, ⟨by simp [State.reset, State.blank], by
    simp [State.reset, State.blank, Store.shipped]⟩, ?key⟩
  case evidence =>
    exact evidenceLaw_congr (s := State.blank [] .on Store.shipped 0) (t := State.reset) rfl
      (evidenceLaw_of_settled (settled_blank _ _ _ _))
  case engine =>
    refine ⟨fun st => by simp [State.reset, State.blank], fun st _ => ?_, by simp [State.reset, State.blank],
      by simp [State.reset, State.blank], by simp [State.reset, State.blank], fun _ => ⟨rfl, rfl⟩⟩
    simp [State.reset, StationRec.waiting]
  case governor =>
    refine ⟨fun id r h => ?_, fun id c h => ?_⟩
    · simp [State.reset, State.blank] at h
    · simp [State.reset, State.blank, Store.shipped] at h
  case key =>
    refine ⟨fun slot k _ => by simp [State.reset, State.blank], fun a b j k hj hk _ hno => ?_, fun r k h => ?_⟩
    · exact absurd ⟨hkeys a j hj, hkeys b k hk⟩ hno
    · simp [State.reset, State.blank] at h

end Sys2Proof.Machine
end

section
/-! PROOFS. The law of the engine (R164, R173, R177, R179): what is in hand for a station grows by its own request alone,
and that only where nothing was in hand. -/

namespace Sys2Proof.Machine

open Sys2Proof

section Engine

variable {may : Effect → Prop} {s t : State}

/-- The requests of a station that wait or run. -/
def inHand (st : Station) (s : State) : Nat :=
  s.queue.countP (fun j => j.holder == some st) + if s.running.bind Running.holder = some st then 1 else 0

theorem inHand_eq_zero_iff (st : Station) (s : State) : inHand st s = 0 ↔ requestState st s = .idle := by
  simp [inHand, requestState_idle_iff, List.countP_eq_zero, and_comm]

theorem engineLaw_iff : EngineLaw s ↔
    (∀ st, inHand st s ≤ 1) ∧ (∀ st, inHand st s ≠ 0 → (s.stations.get st).slot = none)
      ∧ s.queue.countP (fun j => j == .trialAccount) ≤ 1 ∧ s.queue.countP Job.isOwnerReset ≤ 1
      ∧ (s.fault = true ∨ s.power ≠ .on → s.queue = [] ∧ s.running = none) := by
  simp only [ne_eq, inHand_eq_zero_iff, or_imp]
  rfl

/-- Nothing comes to be in hand, and nothing is placed in the slot of a station that has something in hand. -/
structure EngineShrinks (s t : State) : Prop where
  hand : ∀ st, inHand st t ≤ inHand st s
  slot : ∀ st, inHand st t ≠ 0 →
    (t.stations.get st).slot = none ∨ (t.stations.get st).slot = (s.stations.get st).slot
  trial : t.queue.countP (fun j => j == .trialAccount) ≤ s.queue.countP fun j => j == .trialAccount
  reset : t.queue.countP Job.isOwnerReset ≤ s.queue.countP Job.isOwnerReset
  queue : s.queue = [] → t.queue = []
  running : s.running = none → t.running = none
  fault : t.fault = s.fault
  power : t.power = s.power

theorem EngineLaw.shrunk (hs : EngineLaw s) (h : EngineShrinks s t) : EngineLaw t := by
  rw [engineLaw_iff] at hs ⊢
  obtain ⟨hhand, hslot, htrial, hreset, hidle⟩ := hs
  refine ⟨fun st => (h.hand st).trans (hhand st), fun st hne => ?_, h.trial.trans htrial, h.reset.trans hreset,
    fun hoff => ?_⟩
  · have hbefore : inHand st s ≠ 0 := fun h0 => hne (Nat.le_zero.1 (h0 ▸ h.hand st))
    rcases h.slot st hne with h' | h'
    · exact h'
    · rw [h', hslot st hbefore]
  · rw [h.fault, h.power] at hoff
    exact ⟨h.queue (hidle hoff).1, h.running (hidle hoff).2⟩

/-- The jobs stay as they are: each waits, or runs for the same station. -/
structure SameJobs (s t : State) : Prop where
  queue : t.queue = s.queue
  holder : t.running.bind Running.holder = s.running.bind Running.holder
  running : s.running = none → t.running = none
  fault : t.fault = s.fault
  power : t.power = s.power

theorem sameJobs_of_eq (hq : t.queue = s.queue) (hr : t.running = s.running) (hf : t.fault = s.fault)
    (hp : t.power = s.power) : SameJobs s t :=
  ⟨hq, by rw [hr], fun h => hr.trans h, hf, hp⟩

theorem SameJobs.hand (h : SameJobs s t) (st : Station) : inHand st t = inHand st s := by
  rw [inHand, inHand, h.queue, h.holder]

theorem SameJobs.shrinks (h : SameJobs s t)
    (hslot : ∀ st, inHand st s ≠ 0 →
      (t.stations.get st).slot = none ∨ (t.stations.get st).slot = (s.stations.get st).slot) : EngineShrinks s t :=
  ⟨fun st => (h.hand st).le, fun st hne => hslot st (h.hand st ▸ hne), by rw [h.queue], by rw [h.queue],
    h.queue.trans, h.running, h.fault, h.power⟩

theorem SameJobs.shrinks_of_stations (h : SameJobs s t) (hst : t.stations = s.stations) : EngineShrinks s t :=
  h.shrinks fun _ _ => .inr (by rw [hst])

/-- The running job changes, and is still the same station's. -/
theorem sameJobs_running {f : Running → Running} (hf : ∀ r, (f r).holder = r.holder)
    (hr : t.running = s.running.map f) (hq : t.queue = s.queue) (hfault : t.fault = s.fault)
    (hp : t.power = s.power) : SameJobs s t := by
  refine ⟨hq, ?_, fun h => by rw [hr, h]; rfl, hfault, hp⟩
  rw [hr]
  cases s.running with
  | none => rfl
  | some r => exact hf r

/-- Waiting jobs go, or stay with less: what stays is of no station, or is the job it was. -/
theorem engineShrinks_filterMap {f : Job → Option Job}
    (hf : ∀ j j', f j = some j' → (∀ st, j'.holder = some st → j.holder = some st)
      ∧ (j' = .trialAccount → j = .trialAccount) ∧ (j'.isOwnerReset = true → j.isOwnerReset = true)) :
    EngineShrinks s { s with queue := s.queue.filterMap f } := by
  have hle (p : Job → Bool) (hp : ∀ j j', f j = some j' → p j' = true → p j = true) :
      (s.queue.filterMap f).countP p ≤ s.queue.countP p := by
    rw [List.countP_filterMap]
    refine List.countP_mono_left fun j _ hj => ?_
    cases hfj : f j with
    | none => simp [hfj] at hj
    | some j' => exact hp j j' hfj (by simpa [hfj] using hj)
  exact
    { hand := fun st => Nat.add_le_add_right (hle _ fun j j' h => by simpa using (hf j j' h).1 st) _
      slot := fun _ _ => .inr rfl
      trial := hle _ fun j j' h => by simpa using (hf j j' h).2.1
      reset := hle _ fun j j' h => (hf j j' h).2.2
      queue := fun h => by simp [h]
      running := id
      fault := rfl
      power := rfl }

theorem shrinks_withdrawn {j j' : Job} (h : j.withdrawn = some j') :
    (∀ st, j'.holder = some st → j.holder = some st)
      ∧ (j' = .trialAccount → j = .trialAccount) ∧ (j'.isOwnerReset = true → j.isOwnerReset = true) := by
  refine ⟨fun st hst => ?_, ?_⟩
  · rw [Job.holder_of_withdrawn h] at hst
    cases hst
  · cases j with
    | station => cases h
    | trialAccount => exact ⟨fun _ => rfl, fun h' => by cases h; exact h'⟩
    | ownerReset attached button =>
      refine ⟨?_, fun _ => rfl⟩
      rintro rfl
      cases attached <;> cases button <;> cases h

/-- With its job ended, a station that still had one in hand had two. -/
theorem engineShrinks_endJob (hs : EngineLaw s) (r : Result) (b : List Byte) : EngineShrinks s (endJob r b s) := by
  have hhand := (engineLaw_iff.1 hs).1
  cases hr : s.running with
  | none =>
    rw [show endJob r b s = s by simp [endJob, hr]]
    exact SameJobs.shrinks_of_stations (sameJobs_of_eq rfl rfl rfl rfl) rfl
  | some x =>
    have hdone : ∃ slots, endJob r b s = { s with running := none, stations := slots }
        ∧ ∀ st, x.holder ≠ some st → slots.get st = s.stations.get st := by
      simp only [endJob, hr]
      cases hx : x.holder with
      | none => exact ⟨s.stations, rfl, fun _ _ => rfl⟩
      | some st' => exact ⟨_, rfl, fun st hne => Tbl.get_set_ne _ _ fun he => hne (he ▸ rfl)⟩
    obtain ⟨slots, hend, hslots⟩ := hdone
    have hle (st : Station) : inHand st (endJob r b s) ≤ inHand st s := by
      simp [inHand, hend]
    refine ⟨hle, fun st hne => .inr ?_, by rw [hend], by rw [hend], fun h => by rw [hend]; exact h,
      fun _ => by rw [hend], by rw [hend], by rw [hend]⟩
    have hother : x.holder ≠ some st := by
      intro hx
      have h1 := hhand st
      simp [inHand, hr, hx, hend] at h1 hne
      obtain ⟨j, hj, hjst⟩ := hne
      exact h1 j hj hjst
    rw [hend, hslots st hother]

theorem engineShrinks_setKey (slot : Slot) (k : KeySlot) (s : State) : EngineShrinks s (setKey slot k s) :=
  SameJobs.shrinks_of_stations (sameJobs_of_eq rfl rfl rfl rfl) rfl

/-- A waiting OWNER_RESET_JOB changed by a hold or a request is one still, and no other job changes. -/
theorem countP_mapOwnerReset {f : Job → Job} (hf : ∀ j, j.isOwnerReset = false → f j = j)
    (hreset : ∀ j, (f j).isOwnerReset = j.isOwnerReset) (l : List Job) :
    (l.map f).countP (fun j => j == .trialAccount) = l.countP (fun j => j == .trialAccount)
      ∧ (l.map f).countP Job.isOwnerReset = l.countP Job.isOwnerReset := by
  refine ⟨?_, ?_⟩
  · rw [List.countP_map]
    refine List.countP_congr fun j _ => ?_
    cases hj : j.isOwnerReset with
    | false => simp [hf j hj]
    | true =>
      have hne : f j ≠ .trialAccount := fun he => by
        have := hreset j
        rw [he, hj] at this
        cases this
      have hne' : j ≠ .trialAccount := fun he => by rw [he] at hj; cases hj
      simp [hne, hne']
  · rw [List.countP_map]
    exact List.countP_congr fun j _ => by simp [hreset j]

/-- A station with nothing in hand and an empty slot takes one request in hand, of a part that runs and is not in FAULT
mode. -/
theorem engineLaw_of_taken {st : Station} (hs : EngineLaw s) (hidle : requestState st s = .idle)
    (hempty : (s.stations.get st).slot = none) (hf : s.fault = false) (hp : s.power = .on)
    {queue : List Job}
    (hown : queue.countP (fun j => j.holder == some st) ≤ s.queue.countP (fun j => j.holder == some st) + 1)
    (hother : ∀ x, x ≠ st → queue.countP (fun j => j.holder == some x) = s.queue.countP fun j => j.holder == some x)
    (htrial : queue.countP (fun j => j == .trialAccount) ≤ 1) (hreset : queue.countP Job.isOwnerReset ≤ 1) :
    EngineLaw { s with queue } := by
  obtain ⟨hhand, hslot, -, -, -⟩ := engineLaw_iff.1 hs
  have hzero := (inHand_eq_zero_iff st s).2 hidle
  refine engineLaw_iff.2 ⟨fun x => ?_, fun x hne => ?_, htrial, hreset, fun h => ?_⟩
  · by_cases hx : x = st
    · subst hx
      simp only [inHand] at hzero ⊢
      omega
    · have := hhand x
      simp only [inHand, hother x hx] at this ⊢
      exact this
  · by_cases hx : x = st
    · exact hx ▸ hempty
    · refine hslot x fun h0 => hne ?_
      simpa only [inHand, hother x hx] using h0
  · rcases h with h | h
    · simp [hf] at h
    · exact absurd hp h

theorem engineLaw_attach (hs : EngineLaw s) (q : Bool) (hidle : requestState 2 s = .idle)
    (hempty : (s.stations.get 2).slot = none) (hf : s.fault = false) (hp : s.power = .on) :
    EngineLaw (attachOwnerReset q s) := by
  obtain ⟨-, -, htrial, hreset, -⟩ := engineLaw_iff.1 hs
  have hnone := ((requestState_idle_iff 2 s).1 hidle).2
  unfold attachOwnerReset
  by_cases hany : s.queue.any Job.isOwnerReset = true
  · rw [if_pos hany]
    have hcounts (f : Job → Job) (hf : ∀ j, j.isOwnerReset = false → f j = j)
        (hk : ∀ j, (f j).isOwnerReset = j.isOwnerReset) (h2 : ∀ j, j.isOwnerReset = true → (f j).holder = some 2) :
        EngineLaw { s with queue := s.queue.map f } := by
      obtain ⟨h1, h3⟩ := countP_mapOwnerReset hf hk s.queue
      refine engineLaw_of_taken hs hidle hempty ‹_› hp ?_ (fun x hx => ?_) (h1 ▸ htrial) (h3 ▸ hreset)
      · rw [List.countP_map]
        calc s.queue.countP ((fun j => j.holder == some 2) ∘ f)
            ≤ s.queue.countP Job.isOwnerReset := by
              refine List.countP_mono_left fun j hj hh => ?_
              by_contra hno
              have hfj := hf j (by simpa using hno)
              simp only [Function.comp, hfj, beq_iff_eq] at hh
              exact hnone j hj hh
          _ ≤ 1 := hreset
          _ ≤ _ := Nat.le_add_left _ _
      · rw [List.countP_map]
        refine List.countP_congr fun j hj => ?_
        cases hjr : j.isOwnerReset with
        | false => simp [hf j hjr]
        | true =>
          have hj2 : j.holder ≠ some x := by
            cases j with
            | ownerReset attached button => cases attached <;> simp [Job.holder, Ne.symm hx]
            | _ => cases hjr
          simp [h2 j hjr, Ne.symm hx, hj2]
    refine hcounts _ (fun j hj => ?_) (fun j => ?_) fun j hj => ?_
    · cases j <;> first | rfl | cases hj
    · cases j <;> rfl
    · cases j <;> first | rfl | cases hj
  · rw [if_neg hany]
    have hzero : s.queue.countP Job.isOwnerReset = 0 := by
      rw [List.countP_eq_zero]
      simpa using hany
    refine engineLaw_of_taken hs hidle hempty hf hp ?_ (fun x hx => ?_) ?_ ?_
    · simp [Job.holder]
    · simp [Job.holder, Ne.symm hx]
    · simpa using htrial
    · simp [Job.isOwnerReset, hzero]

/-- An internal job joins the queue of a part that runs and is not in FAULT mode. -/
theorem engineLaw_queued (hs : EngineLaw s) {queue : List Job} (hf : s.fault = false) (hp : s.power = .on)
    (hhand : ∀ x, queue.countP (fun j => j.holder == some x) = s.queue.countP fun j => j.holder == some x)
    (htrial : queue.countP (fun j => j == .trialAccount) ≤ 1) (hreset : queue.countP Job.isOwnerReset ≤ 1) :
    EngineLaw { s with queue } := by
  obtain ⟨hle, hslot, -, -, -⟩ := engineLaw_iff.1 hs
  have hsame (x : Station) : inHand x { s with queue } = inHand x s := by simp [inHand, hhand]
  refine engineLaw_iff.2 ⟨fun x => hsame x ▸ hle x, fun x hne => hslot x (hsame x ▸ hne), htrial, hreset, fun h => ?_⟩
  rcases h with h | h
  · simp [hf] at h
  · exact absurd hp h

theorem engineLaw_queueButton (hs : EngineLaw s) (hp : s.power = .on) : EngineLaw (queueButtonReset s) := by
  obtain ⟨-, -, htrial, hreset, -⟩ := engineLaw_iff.1 hs
  unfold queueButtonReset
  split
  · exact hs
  case isFalse hf =>
    have hfault : s.fault = false := by simpa using hf
    by_cases hany : s.queue.any Job.isOwnerReset = true
    · rw [if_pos hany]
      have hcounts (f : Job → Job) (hf : ∀ j, j.isOwnerReset = false → f j = j)
          (hk : ∀ j, (f j).isOwnerReset = j.isOwnerReset) (hh : ∀ j, (f j).holder = j.holder) :
          EngineLaw { s with queue := s.queue.map f } := by
        obtain ⟨h1, h3⟩ := countP_mapOwnerReset hf hk s.queue
        refine engineLaw_queued hs hfault hp (fun x => ?_) (h1 ▸ htrial) (h3 ▸ hreset)
        rw [List.countP_map]
        exact List.countP_congr fun j _ => by simp [hh j]
      refine hcounts _ (fun j hj => ?_) (fun j => ?_) fun j => ?_
      · cases j <;> first | rfl | cases hj
      · cases j <;> rfl
      · cases j with
        | ownerReset attached button => cases attached <;> rfl
        | _ => rfl
    · rw [if_neg hany]
      have hzero : s.queue.countP Job.isOwnerReset = 0 := by
        rw [List.countP_eq_zero]
        simpa using hany
      refine engineLaw_queued hs hfault hp (fun x => ?_) ?_ ?_
      · simp [Job.holder]
      · simpa using htrial
      · simp [Job.isOwnerReset, hzero]

theorem engineLaw_queueTrial (hs : EngineLaw s) (hp : s.power = .on) : EngineLaw (queueTrialAccount s) := by
  obtain ⟨-, -, htrial, hreset, -⟩ := engineLaw_iff.1 hs
  unfold queueTrialAccount
  split
  · exact hs
  case isFalse hf =>
    obtain ⟨hfault, hnone⟩ : s.fault = false ∧ .trialAccount ∉ s.queue := by simpa using hf
    have hzero : s.queue.countP (fun j => j == .trialAccount) = 0 := by
      rw [List.countP_eq_zero]
      intro j hj he
      exact hnone (eq_of_beq he ▸ hj)
    refine engineLaw_queued hs hfault hp (fun x => ?_) ?_ ?_
    · simp [Job.holder]
    · simp [hzero]
    · simpa [Job.isOwnerReset] using hreset

/-- The engine takes the first job that waits: what is in hand stays in hand. -/
theorem engineLaw_takeJob (hs : EngineLaw s) (hr : s.running = none) :
    EngineLaw (takeJob s) := by
  obtain ⟨hhand, hslot, htrial, hreset, hidle⟩ := engineLaw_iff.1 hs
  have hsame (st : Station) : inHand st (takeJob s) = inHand st s := by
    simp only [inHand, takeJob, hr]
    obtain hq | ⟨j, rest, hq⟩ : s.queue = [] ∨ ∃ j rest, s.queue = j :: rest := by cases s.queue <;> simp
    · simp [hq]
    · simp [hq, List.countP_cons, Running.holder]
  have htail (p : Job → Bool) : (takeJob s).queue.countP p ≤ s.queue.countP p :=
    (List.tail_sublist _).countP_le
  refine engineLaw_iff.2 ⟨fun st => hsame st ▸ hhand st, fun st hne => hslot st (hsame st ▸ hne),
    (htail _).trans htrial, (htail _).trans hreset, fun h => ?_⟩
  obtain ⟨hq, -⟩ := hidle h
  simp [takeJob, hq]

theorem engineLaw_of_idle (hq : s.queue = []) (hr : s.running = none) : EngineLaw s := by
  simp [engineLaw_iff, inHand, hq, hr]

/-- Every move keeps the law of the engine. -/
theorem Move.engineLaw (h : Move may s t) (hs : EngineLaw s) : EngineLaw t := by
  have hrec (st : Station) (r : StationRec) (hr : r.slot = (s.stations.get st).slot ∨ inHand st s = 0 ∨ r.slot = none) :
      EngineShrinks s (setStation st r s) := by
    refine SameJobs.shrinks (sameJobs_of_eq rfl rfl rfl rfl) fun x hne => ?_
    simp only [setStation, Tbl.get_set]
    split
    case isTrue he =>
      subst he
      rcases hr with h | h | h
      · exact .inr h
      · exact absurd h hne
      · exact .inl h
    case isFalse => exact .inr rfl
  have hdrop (b : Grant → Bool) (st : Station) : ((s.stations.map (StationRec.dropGrant b)).get st).slot
      = (s.stations.get st).slot := slot_dropGrant b _ st
  cases h with
  | same h =>
    have hjobs : SameJobs s t := sameJobs_of_eq (congrArg LawView.queue h) (congrArg LawView.running h)
      (congrArg LawView.fault h) (congrArg LawView.power h)
    exact hs.shrunk (hjobs.shrinks_of_stations (congrArg LawView.stations h))
  | freeze | dropKeys | dropCreds | newCred | changeCred | lockCred | tick | bareTick | bootChains =>
    exact hs.shrunk (SameJobs.shrinks_of_stations (sameJobs_of_eq rfl rfl rfl rfl) rfl)
  | reply st slot _ h =>
    refine hs.shrunk (hrec st _ ?_)
    rcases h with h | h
    · exact .inr (.inr h)
    · exact .inr (.inl ((inHand_eq_zero_iff st s).2 h))
  | record st r _ h => exact hs.shrunk (hrec st r (.inl h))
  | stage st state => exact hs.shrunk (hrec st { s.stations.get st with state } (.inl rfl))
  | dropGrants b => exact hs.shrunk (SameJobs.shrinks (sameJobs_of_eq rfl rfl rfl rfl) fun st _ => .inr (hdrop b st))
  | enqueue st q w _ hi hr hf hp =>
    obtain ⟨-, -, htrial, hreset, -⟩ := engineLaw_iff.1 hs
    refine engineLaw_of_taken hs hi hr hf hp ?_ (fun x hx => ?_) ?_ ?_
    · simp [Job.holder]
    · simp [Job.holder, Ne.symm hx]
    · simpa using htrial
    · simpa [Job.isOwnerReset] using hreset
  | attach q _ hi hr hf hp => exact engineLaw_attach hs q hi hr hf hp
  | withdraw st =>
    refine hs.shrunk (engineShrinks_filterMap fun j j' h => ?_)
    split at h
    · exact shrinks_withdrawn h
    · cases h
      exact ⟨fun _ h => h, fun h => h, fun h => h⟩
  | unqueue st =>
    have hle (p : Job → Bool) : (s.queue.filter fun j => j.holder != some st).countP p ≤ s.queue.countP p :=
      List.filter_sublist.countP_le
    exact hs.shrunk
      { hand := fun x => Nat.add_le_add_right (hle _) _
        slot := fun _ _ => .inr rfl
        trial := hle _
        reset := hle _
        queue := fun h => by simp [h]
        running := id
        fault := rfl
        power := rfl }
  | queueButton _ hp => exact engineLaw_queueButton hs hp
  | takeJob _ _ hr => exact engineLaw_takeJob hs hr
  | running f hf =>
    have hholder (r : Running) : (f r).holder = r.holder := by simp [Running.holder, hf.job, hf.crossed]
    exact hs.shrunk (SameJobs.shrinks_of_stations (sameJobs_running hholder rfl rfl rfl rfl) rfl)
  | endJob r b => exact hs.shrunk (engineShrinks_endJob hs r b)
  | @create slot r k =>
    have hkey := hs.shrunk (engineShrinks_setKey slot (createdSlot r.crossed k) s)
    exact hkey.shrunk (engineShrinks_endJob hkey _ _)
  | step x =>
    obtain ⟨f, hf, hrun⟩ := running_complete x s
    have hframe := stepFrame_complete x s
    have hholder (r : Running) : (f r).holder = r.holder := by simp [Running.holder, hf.job, hf.crossed]
    refine hs.shrunk ((sameJobs_running hholder hrun hframe.queue hframe.fault hframe.power).shrinks fun st _ => .inr ?_)
    rcases hframe.stations with h | h <;> rw [h]
    exact hdrop _ st
  | fail x landed =>
    obtain ⟨hframe, hst, hrun⟩ := stepFrame_fail x landed s
    exact hs.shrunk ((sameJobs_of_eq hframe.queue hrun hframe.fault hframe.power).shrinks_of_stations hst)
  | dropQueue _ hr => exact engineLaw_of_idle rfl hr
  | withdrawAll => exact hs.shrunk (engineShrinks_filterMap fun j j' h => shrinks_withdrawn h)
  | cross =>
    have hle (st : Station) : inHand st (crossRunning s) ≤ inHand st s := by
      cases hr : s.running <;> simp [inHand, crossRunning, hr, Running.holder]
    exact hs.shrunk
      { hand := hle
        slot := fun _ _ => .inr rfl
        trial := le_rfl
        reset := le_rfl
        queue := id
        running := fun h => by simp [crossRunning, h]
        fault := rfl
        power := rfl }
  | bootStations =>
    refine hs.shrunk (SameJobs.shrinks (sameJobs_of_eq rfl rfl rfl rfl) fun st _ => .inl ?_)
    simp [resetStations, StationRec.atBoot, StationRec.waiting]
  | queueTrial _ hp => exact engineLaw_queueTrial hs hp

/-! ### Without power, and in start-up -/

/-- Nothing waits and nothing runs. -/
def IdleEngine (s : State) : Prop := s.queue = [] ∧ s.running = none

theorem startUpKeeps_idle : StartUpKeeps IdleEngine where
  complete x s h := by
    obtain ⟨f, -, hrun⟩ := running_complete x s
    exact ⟨(stepFrame_complete x s).queue.trans h.1, by rw [hrun, h.2]; rfl⟩
  fail x landed s h := by
    obtain ⟨hframe, -, hrun⟩ := stepFrame_fail x landed s
    exact ⟨hframe.queue.trans h.1, hrun.trans h.2⟩
  cut _ _ h _ := h

theorem idle_partReset (input : StartUpInput) (s : State) : IdleEngine (partReset input s) := by
  unfold partReset
  obtain ⟨t, due, ht, h | h⟩ := startUpKeeps_idle.startUp input.bad input.trouble
    (State.blank s.pending (.startUp false) (if s.power = .off then s.store else storeAfterLoss input.landed s)
      s.entropy) ⟨rfl, rfl⟩
  · exact h ▸ ⟨rfl, rfl⟩
  · exact h ▸ ht

theorem engineLaw_openPart (hs : EngineLaw s) {due low : Bool} (hp : s.power = .startUp due) :
    EngineLaw (recomputeAttn (startIf due (openPart low s))) := by
  obtain ⟨hq, hr⟩ := (engineLaw_iff.1 hs).2.2.2.2 (.inr (by simp [hp]))
  refine engineLaw_of_idle ?_ ?_
  · cases due <;> exact hq
  · cases due <;> exact hr

end Engine

/-- Settles O55: every move keeps the law, and without power nothing waits and nothing runs. -/
theorem eachStationHoldsOneRequest : Obligations.EachStationHoldsOneRequest := by
  intro s t hs ht
  rcases step_cases ht with ⟨-, rfl⟩ | ⟨c, rest, -, ht⟩
  · exact hs
  · have hs' : EngineLaw (s.withPending rest) := hs
    rcases powerCommand_cases c with ⟨landed, rfl⟩ | ⟨input, rfl⟩ | ⟨low, rfl⟩ | ⟨hp, hup⟩
    · cases ht
      split
      · exact hs'
      · exact engineLaw_of_idle rfl rfl
    · have hreset := Host.Outcome.next.inj ht
      obtain ⟨hq, hr⟩ := idle_partReset input (s.withPending rest)
      exact hreset ▸ engineLaw_of_idle hq hr
    · obtain ⟨due, hp, rfl⟩ | ⟨-, rfl⟩ := startUpEnd_cases ht
      · exact engineLaw_openPart hs' hp
      · exact hs'
    · exact (moves_exec hp hup ht).keeps (P := EngineLaw) Move.engineLaw hs'

end Sys2Proof.Machine
end

section
/-! PROOFS. The law of the governor and the bound of the revocation list (R7, R143): credential by credential, what a
step writes to a credential and to its stored copy. -/

namespace Sys2Proof.Machine

open Sys2Proof

section Governor

variable {may : Effect → Prop} {s t : State} {p : Power} {now : Count}

/-- A SET credential's governor fields are in their bounds, and no deadline stands while the part does not run. -/
structure CredRecord.Within (r : CredRecord) (p : Power) (now : Count) : Prop where
  penalty : r.penalty ≤ Config.penaltyCap
  streak : r.streak ≤ Config.streakCap
  lockout : r.lockout.within now
  deadline : p ≠ .on → ∀ d, r.lockout ≠ .deadline d

/-- A credential fits its stored copy, which is in its bounds. -/
def Credential.Fits (c : Credential) (stored : Option StoredCred) (p : Power) (now : Count) : Prop :=
  (∀ r, c = .held r → r.Within p now ∧ ∀ x, stored = some x → r.penalty ≤ x.penalty)
    ∧ ∀ x, stored = some x → x.penalty ≤ Config.penaltyCap ∧ x.streak ≤ Config.streakCap

theorem governorLaw_iff : GovernorLaw s ↔
    ∀ id, (s.creds.get id).Fits (s.store.creds.get id) s.power s.time.uptime := by
  refine ⟨fun ⟨hheld, hstored⟩ id => ⟨fun r hr => ?_, hstored id⟩, fun h => ⟨fun id r hr => ?_, fun id => (h id).2⟩⟩
  · obtain ⟨h1, h2, h3, h4, h5⟩ := hheld id r hr
    exact ⟨⟨h1, h2, h3, h4⟩, h5⟩
  · obtain ⟨⟨h1, h2, h3, h4⟩, h5⟩ := (h id).1 r hr
    exact ⟨h1, h2, h3, h4, h5⟩

theorem GovernorLaw.fits (h : GovernorLaw s) (id : CredId) :
    (s.creds.get id).Fits (s.store.creds.get id) s.power s.time.uptime := governorLaw_iff.1 h id

theorem governorLaw_congr (hc : t.creds = s.creds) (hst : t.store.creds = s.store.creds) (hp : t.power = s.power)
    (ht : t.time.uptime = s.time.uptime) (h : GovernorLaw s) : GovernorLaw t := by
  rw [governorLaw_iff, hc, hst, hp, ht]
  exact governorLaw_iff.1 h

theorem governorLaw_of_view (hv : lawView t = lawView s) (h : GovernorLaw s) : GovernorLaw t :=
  governorLaw_congr (congrArg LawView.creds hv) (congrArg (fun v => v.store.creds) hv) (congrArg LawView.power hv)
    (congrArg LawView.uptime hv) h

/-- A credential and its stored copy change together, and the new ones fit. -/
theorem GovernorLaw.setBoth (h : GovernorLaw s) (id : CredId) {c : Credential} {stored : Option StoredCred}
    (hfits : c.Fits stored s.power s.time.uptime) (hc : t.creds = s.creds.set id c)
    (hst : t.store.creds = s.store.creds.set id stored) (hp : t.power = s.power)
    (ht : t.time.uptime = s.time.uptime) : GovernorLaw t := by
  refine governorLaw_iff.2 fun x => ?_
  rw [hc, hst, hp, ht, Tbl.get_set, Tbl.get_set]
  split
  · exact hfits
  · exact h.fits x

/-- A credential changes, and still fits its stored copy. -/
theorem GovernorLaw.setCred (h : GovernorLaw s) (id : CredId) {c : Credential}
    (hfits : c.Fits (s.store.creds.get id) s.power s.time.uptime) : GovernorLaw (setCred id c s) :=
  h.setBoth id hfits rfl (Tbl.set_get_self _ _).symm rfl rfl

theorem fits_empty {stored : Option StoredCred}
    (h : ∀ x, stored = some x → x.penalty ≤ Config.penaltyCap ∧ x.streak ≤ Config.streakCap) :
    Credential.Fits .empty stored p now := ⟨nofun, h⟩

theorem Credential.Fits.unstored {c : Credential} {stored : Option StoredCred} (h : c.Fits stored p now) :
    c.Fits none p now := ⟨fun r hr => ⟨(h.1 r hr).1, nofun⟩, nofun⟩

theorem heldCred?_eq_some {id : CredId} {r : CredRecord} : heldCred? id s = some r ↔ s.creds.get id = .held r := by
  unfold heldCred?
  split
  case h_1 r' hr => simp [hr]
  case h_2 hno => exact ⟨nofun, fun h => absurd h (hno r)⟩

/-! ### Steps -/

/-- The credential whose records a step writes. -/
def JobStep.credOf : JobStep → Option CredId
  | .credRecord id | .charge id | .success id | .credRemove id | .eraseCred id => some id
  | _ => none

@[simp] theorem landClass_creds (c : ClassNo) (f : ClassRecord → ClassRecord) (s : State) :
    (landClass c f s).creds = s.store.creds := by
  unfold landClass
  split <;> rfl

theorem JobStep.creds_land {x : JobStep} (h : x.credOf = none) (s : State) : (x.land s).creds = s.store.creds := by
  cases x with
  | credRecord | charge | success | credRemove | eraseCred => cases h
  | activate | activateTrial | confirm | clearDeferred | account | revert => exact landClass_creds _ _ s
  | action c a =>
    simp only [JobStep.land]
    split <;> rfl
  | _ => rfl

theorem JobStep.creds_act {x : JobStep} (h : x.credOf = none) (s : State) : (x.act s).creds = s.creds := by
  cases x with
  | credRecord | charge | success | credRemove | eraseCred => cases h
  | revokeSlot slot => exact congrArg LawView.creds (lawView_sweepKey (raiseCond .keyRevoked s) slot)
  | sweepClass c b => exact congrArg LawView.creds (lawView_sweepClassFloor s c b)
  | marker m => exact congrArg LawView.creds (lawView_partExtend s m)
  | action c a =>
    simp only [JobStep.act]
    split <;> rfl
  | eraseKey slot =>
    simp only [JobStep.act]
    split
    · exact congrArg LawView.creds (lawView_sweepKey (setKey slot .empty s) slot)
    · rfl
  | _ => rfl

theorem JobStep.creds_lose (x : JobStep) (s : State) :
    (x.lose s).creds = s.creds ∨ ∃ id, (x.lose s).creds = s.creds.set id .empty := by
  cases x with
  | keyRemove slot | eraseKey slot =>
    exact .inl (congrArg LawView.creds (lawView_sweepKey (setKey slot .empty s) slot))
  | eraseCred id => exact .inr ⟨id, rfl⟩
  | _ => exact .inl rfl

theorem penalty_le_chargedPenalty {p : Nat} (hp : p ≤ Config.penaltyCap) (streak : Nat) :
    p ≤ chargedPenalty p streak := le_min (Nat.le_add_right _ _) hp

theorem chargedStreak_le_cap (streak : Nat) : chargedStreak streak ≤ Config.streakCap := Nat.min_le_right ..

/-- A landed write leaves a stored copy in its bounds, and but for a success not below the working penalty. -/
theorem fits_land (h : GovernorLaw s) (x : JobStep) (hx : ∀ id, x ≠ .success id) (id : CredId) :
    (s.creds.get id).Fits ((x.land s).creds.get id) s.power s.time.uptime := by
  have hfits := h.fits id
  have hset (id' : CredId) (v : Option StoredCred)
      (hv : (s.creds.get id').Fits v s.power s.time.uptime) :
      (s.creds.get id).Fits ((s.store.creds.set id' v).get id) s.power s.time.uptime := by
    rw [Tbl.get_set]
    split
    case isTrue he => exact he ▸ hv
    case isFalse => exact hfits
  cases x with
  | success id' => exact absurd rfl (hx id')
  | credRemove id' => exact hset id' none (h.fits id').unstored
  | eraseCred id' => exact hset id' none (h.fits id').unstored
  | credRecord id' =>
    simp only [JobStep.land]
    split
    case h_1 contents r _ hr =>
      have hheld := heldCred?_eq_some.1 hr
      obtain ⟨hin, -⟩ := (h.fits id').1 r hheld
      refine hset id' _ ⟨fun r' hr' => ?_, fun y hy => ?_⟩
      · rw [hheld] at hr'
        cases hr'
        exact ⟨hin, fun y hy => by cases hy; exact le_rfl⟩
      · cases hy
        exact ⟨hin.penalty, hin.streak⟩
    case h_2 contents _ hr =>
      refine hset id' _ ⟨fun r' hr' => ?_, fun y hy => ?_⟩
      · rw [heldCred?_eq_some.2 hr'] at hr
        cases hr
      · cases hy
        exact ⟨Nat.zero_le _, Nat.zero_le _⟩
    case h_3 => exact hfits
  | charge id' =>
    simp only [JobStep.land]
    split
    case h_1 r hr =>
      have hheld := heldCred?_eq_some.1 hr
      obtain ⟨hin, -⟩ := (h.fits id').1 r hheld
      refine hset id' _ ⟨fun r' hr' => ?_, fun y hy => ?_⟩
      · rw [hheld] at hr'
        cases hr'
        exact ⟨hin, fun y hy => by cases hy; exact penalty_le_chargedPenalty hin.penalty _⟩
      · cases hy
        exact ⟨chargedPenalty_le_cap _ _, chargedStreak_le_cap _⟩
    case h_2 => exact hfits
  | _ => rw [JobStep.creds_land rfl]; exact hfits

theorem noted_of_idle (h : s.running = none) : noted s = (0, false) := by simp [noted, h]

/-- A step done keeps the law: a charge and a success write the working fields and the stored copy alike. -/
theorem governorLaw_complete (h : GovernorLaw s) (x : JobStep) : GovernorLaw (x.complete s) := by
  have hframe := stepFrame_complete x s
  have htime : (x.complete s).time.uptime = s.time.uptime := by rw [hframe.time]
  have hfits (hx : ∀ id, x ≠ .success id) (id : CredId) :
      (s.creds.get id).Fits ((x.complete s).store.creds.get id) s.power s.time.uptime := by
    simp only [JobStep.complete]
    split
    · exact fits_land h x hx id
    · exact h.fits id
  have hkept (hx : ∀ id, x ≠ .success id) (hc : (x.complete s).creds = s.creds) : GovernorLaw (x.complete s) := by
    refine governorLaw_iff.2 fun id => ?_
    rw [hc, hframe.power, htime]
    exact hfits hx id
  cases x with
  | credRecord | credRemove => exact hkept nofun rfl
  | charge id =>
    cases hr : heldCred? id s with
    | none => exact hkept nofun (by simp [JobStep.complete, JobStep.act, hr])
    | some r =>
      obtain ⟨hin, -⟩ := (h.fits id).1 r (heldCred?_eq_some.1 hr)
      refine h.setBoth (t := JobStep.complete (.charge id) s) id
        (c := .held { r with penalty := chargedPenalty r.penalty r.streak, streak := chargedStreak r.streak })
        (stored := some { contents := r.contents, penalty := chargedPenalty r.penalty r.streak,
                          streak := chargedStreak r.streak })
        ⟨fun r' hr' => ?_, fun y hy => ?_⟩ ?_ ?_ hframe.power htime
      · cases hr'
        exact ⟨⟨chargedPenalty_le_cap _ _, chargedStreak_le_cap _, hin.lockout, hin.deadline⟩,
          fun y hy => by cases hy; exact le_rfl⟩
      · cases hy
        exact ⟨chargedPenalty_le_cap _ _, chargedStreak_le_cap _⟩
      · simp only [JobStep.complete, JobStep.act, hr]
        rfl
      · simp only [JobStep.complete, JobStep.land, JobStep.writes, hr]
        rfl
  | success id =>
    have hsame (hw : JobStep.writes (.success id) s = false) (ha : JobStep.act (.success id) s = s) :
        GovernorLaw (JobStep.complete (.success id) s) := by
      rw [complete_free hw, ha]
      exact h
    cases hm : (noted s).2 with
    | false => exact hsame (by simp [JobStep.writes, hm]) (by simp [JobStep.act, hm])
    | true =>
      cases hr : heldCred? id s with
      | none => exact hsame (by simp [JobStep.writes, hr]) (by simp [JobStep.act, hr])
      | some r =>
        obtain ⟨hin, -⟩ := (h.fits id).1 r (heldCred?_eq_some.1 hr)
        have hle : forgivenPenalty r.penalty (noted s).1 ≤ Config.penaltyCap :=
          (forgivenPenalty_le _ _).trans hin.penalty
        refine h.setBoth (t := JobStep.complete (.success id) s) id
          (c := .held { r with penalty := forgivenPenalty r.penalty (noted s).1, streak := 0 })
          (stored := some { contents := r.contents, penalty := forgivenPenalty r.penalty (noted s).1, streak := 0 })
          ⟨fun r' hr' => ?_, fun y hy => ?_⟩ ?_ ?_ hframe.power htime
        · cases hr'
          exact ⟨⟨hle, Nat.zero_le _, hin.lockout, hin.deadline⟩, fun y hy => by cases hy; exact le_rfl⟩
        · cases hy
          exact ⟨hle, Nat.zero_le _⟩
        · simp only [JobStep.complete, JobStep.act, hr, hm]
          rfl
        · simp only [JobStep.complete, JobStep.land, JobStep.writes, hr, hm]
          rfl
  | eraseCred id =>
    cases hr : heldCred? id s with
    | none => exact hkept nofun (by simp [JobStep.complete, JobStep.act, hr])
    | some r =>
      refine h.setBoth (t := JobStep.complete (.eraseCred id) s) id (fits_empty (stored := none) nofun) ?_ ?_
        hframe.power htime
      · simp only [JobStep.complete, JobStep.act, hr]
        rfl
      · simp only [JobStep.complete, JobStep.land, JobStep.writes, hr]
        rfl
  | _ => exact hkept nofun (JobStep.creds_act rfl s)

theorem governorLaw_fail (h : GovernorLaw s) (x : JobStep) (landed : Bool) : GovernorLaw (x.fail landed s) := by
  obtain ⟨hframe, -, -⟩ := stepFrame_fail x landed s
  have hfits (id : CredId) : (s.creds.get id).Fits ((x.fail landed s).store.creds.get id) s.power s.time.uptime := by
    simp only [JobStep.fail]
    split
    case isTrue hl =>
      refine fits_land h x (fun id' he => ?_) id
      simp [he, JobStep.mayLand] at hl
    case isFalse => exact h.fits id
  refine governorLaw_iff.2 fun id => ?_
  rw [hframe.power, hframe.time]
  obtain hc | ⟨id', hc⟩ := x.creds_lose s
  · rw [show (x.fail landed s).creds = s.creds from hc]
    exact hfits id
  · rw [show (x.fail landed s).creds = s.creds.set id' .empty from hc, Tbl.get_set]
    split
    · exact fits_empty (hfits id).2
    · exact hfits id

/-- What a write leaves in the store when it lands: each stored copy in its bounds. -/
theorem stored_land (h : GovernorLaw s) (x : JobStep) (id : CredId) (c : StoredCred)
    (hc : (x.land s).creds.get id = some c) : c.penalty ≤ Config.penaltyCap ∧ c.streak ≤ Config.streakCap := by
  by_cases hx : ∃ id', x = .success id'
  · obtain ⟨id', rfl⟩ := hx
    simp only [JobStep.land] at hc
    split at hc
    case h_1 r hr =>
      simp only [storeCred, Tbl.get_set] at hc
      split at hc
      · cases hc
        obtain ⟨hin, -⟩ := (h.fits id').1 r (heldCred?_eq_some.1 hr)
        exact ⟨(forgivenPenalty_le _ _).trans hin.penalty, Nat.zero_le _⟩
      · exact (h.fits id).2 c hc
    case h_2 => exact (h.fits id).2 c hc
  · exact (fits_land h x (fun id' he => hx ⟨id', he⟩) id).2 c hc

theorem stored_storeAfterLoss (h : GovernorLaw s) (landed : Bool) (id : CredId) (c : StoredCred)
    (hc : (storeAfterLoss landed s).creds.get id = some c) :
    c.penalty ≤ Config.penaltyCap ∧ c.streak ≤ Config.streakCap := by
  unfold storeAfterLoss at hc
  split at hc
  · split at hc
    · exact stored_land h _ id c hc
    · exact (h.fits id).2 c hc
  · exact (h.fits id).2 c hc

/-! ### Time -/

theorem within_startLockout {old : Lockout} {delay : Nat} (h : old.within now) (hd : delay ≤ Config.lockoutCap) :
    (startLockout now delay old).within now := by
  unfold startLockout
  split
  · exact h
  case isFalse hne =>
    have hval : (deadlineAfter now delay - now).toNat = delay := by
      have : delay < 4294967296 := Nat.lt_of_le_of_lt hd (by decide)
      rw [deadlineAfter, add_sub_cancel_left, BitVec.toNat_ofNat, Nat.mod_eq_of_lt this]
    simp only [Lockout.within, hval]
    exact ⟨Nat.one_le_iff_ne_zero.2 hne, hd⟩

/-- A tick ends a deadline reached, and lessens the others' delay by 1. -/
theorem within_tickLockout {l : Lockout} {first : Bool} (h : l.within now) :
    (tickLockout (now + 1) first l).within (now + 1) := by
  cases l with
  | absent => trivial
  | deadline d =>
    simp only [tickLockout]
    split
    · trivial
    case isFalse hne =>
      simp only [Lockout.within] at h ⊢
      have hpos : (d - (now + 1)).toNat ≠ 0 := by
        intro h0
        exact hne (by bv_omega)
      bv_omega
  | pending delay =>
    simp only [tickLockout]
    split
    · obtain ⟨hpos, hcap⟩ := h
      have := within_startLockout (now := now + 1) (old := .absent) trivial hcap
      rwa [startLockout, if_neg (Nat.one_le_iff_ne_zero.1 hpos)] at this
    · exact h

theorem governorLaw_tick (h : GovernorLaw s) (hp : s.power = .on) :
    GovernorLaw (tickCredentials (tickPulse (advanceTime s))) := by
  refine governorLaw_iff.2 fun id => ?_
  obtain ⟨hheld, hstored⟩ := h.fits id
  refine ⟨fun r hr => ?_, hstored⟩
  simp only [tickCredentials, raiseIf_creds, Tbl.get_map] at hr
  cases hc : s.creds.get id with
  | held r₀ =>
    obtain ⟨hin, hle⟩ := hheld r₀ hc
    have hr' : tickCredential (nextCount s) s.time.firstTick (isDecayTick (nextCount s)) (s.creds.get id) = .held r := hr
    rw [hc] at hr'
    cases hr'
    exact ⟨⟨(decayed_le _ _).trans hin.penalty, hin.streak, within_tickLockout hin.lockout, fun hno => absurd hp hno⟩,
      fun x hx => (decayed_le _ _).trans (hle x hx)⟩
  | empty =>
    have hr' : tickCredential (nextCount s) s.time.firstTick (isDecayTick (nextCount s)) (s.creds.get id) = .held r := hr
    rw [hc] at hr'
    cases hr'
  | reserved =>
    have hr' : tickCredential (nextCount s) s.time.firstTick (isDecayTick (nextCount s)) (s.creds.get id) = .held r := hr
    rw [hc] at hr'
    cases hr'

/-- A count that no deadline waits for goes on. -/
theorem governorLaw_bareTick (h : GovernorLaw s) (hp : s.power ≠ .on) : GovernorLaw (advanceTime s) := by
  refine governorLaw_iff.2 fun id => ?_
  obtain ⟨hheld, hstored⟩ := h.fits id
  refine ⟨fun r hr => ?_, hstored⟩
  obtain ⟨⟨h1, h2, h3, h4⟩, hle⟩ := hheld r hr
  refine ⟨⟨h1, h2, ?_, h4⟩, hle⟩
  cases hl : r.lockout with
  | absent => trivial
  | deadline d => exact absurd hl (h4 hp d)
  | pending delay => rwa [hl] at h3

/-! ### Moves and start-up -/

theorem governorLaw_endJob (h : GovernorLaw s) (r : Result) (b : List Byte) : GovernorLaw (endJob r b s) := by
  unfold endJob
  split
  · exact h
  · split <;> exact h

/-- Every move keeps the law of the governor. -/
theorem Move.governorLaw (hmove : Move may s t) (h : GovernorLaw s) : GovernorLaw t := by
  cases hmove with
  | same hv => exact governorLaw_of_view hv h
  | dropCreds creds hc =>
    refine governorLaw_iff.2 fun id => ?_
    obtain ⟨hheld, hstored⟩ := h.fits id
    exact ⟨fun r hr => hheld r (hc id r hr), hstored⟩
  | newCred id contents =>
    refine h.setCred id ⟨fun r hr => ?_, (h.fits id).2⟩
    cases hr
    exact ⟨⟨Nat.zero_le _, Nat.zero_le _, trivial, nofun⟩, fun _ _ => Nat.zero_le _⟩
  | changeCred id contents hr =>
    obtain ⟨⟨h1, h2, h3, h4⟩, hle⟩ := (h.fits id).1 _ (heldCred?_eq_some.1 hr)
    refine h.setCred id ⟨fun r' hr' => ?_, (h.fits id).2⟩
    cases hr'
    exact ⟨⟨h1, h2, h3, h4⟩, hle⟩
  | lockCred id hd hp hr =>
    obtain ⟨⟨h1, h2, h3, h4⟩, hle⟩ := (h.fits id).1 _ (heldCred?_eq_some.1 hr)
    refine h.setCred id ⟨fun r' hr' => ?_, (h.fits id).2⟩
    cases hr'
    exact ⟨⟨h1, h2, within_startLockout h3 hd, fun hno => absurd hp hno⟩, hle⟩
  | endJob r b => exact governorLaw_endJob h r b
  | create slot => exact governorLaw_endJob (s := setKey slot _ s) h _ _
  | step x => exact governorLaw_complete h x
  | fail x landed => exact governorLaw_fail h x landed
  | tick _ hp => exact governorLaw_tick h hp
  | bareTick _ hp => exact governorLaw_bareTick h hp
  | _ => exact h

/-- The stored copies are in their bounds. -/
def StoredWithin (store : Store) : Prop :=
  ∀ id c, store.creds.get id = some c → c.penalty ≤ Config.penaltyCap ∧ c.streak ≤ Config.streakCap

theorem governorLaw_blank (pending : List Instr) (p : Power) {store : Store} (entropy : Nat)
    (h : StoredWithin store) : GovernorLaw (State.blank pending p store entropy) :=
  governorLaw_iff.2 fun id => ⟨fun r hr => by simp [State.blank] at hr, h id⟩

theorem startUpKeeps_governor : StartUpKeeps fun s => GovernorLaw s ∧ s.running = none where
  complete x s h := by
    obtain ⟨f, -, hrun⟩ := running_complete x s
    exact ⟨governorLaw_complete h.1 x, by rw [hrun, h.2]; rfl⟩
  fail x landed s h := ⟨governorLaw_fail h.1 x landed, (stepFrame_fail x landed s).2.2.trans h.2⟩
  cut x s h hw := by
    refine ⟨governorLaw_iff.2 (fits_land h.1 x ?_), h.2⟩
    rintro id rfl
    simp [JobStep.writes, noted_of_idle h.2] at hw

theorem governorLaw_loadStore (bad : List RecordId) {keys : Tbl KeySlot 64}
    (h : StoredWithin s.store) : GovernorLaw { loadStore bad s with keys } := by
  refine governorLaw_iff.2 fun id => ⟨fun r hr => ?_, fun x hx => h id x ?_⟩
  · simp only [loadStore, raiseIf_creds, Tbl.get_ofFn] at hr
    split at hr
    · cases hr
    · cases hst : s.store.creds.get id with
      | none => simp [hst, loadCredential] at hr
      | some c =>
        rw [hst] at hr
        cases hr
        refine ⟨⟨(h id c hst).1, (h id c hst).2, trivial, nofun⟩, fun x hx => ?_⟩
        simp only [loadStore, raiseIf_store, hst] at hx
        cases hx
        exact le_rfl
  · simpa only [loadStore, raiseIf_store] using hx

theorem governorLaw_reimpose (h : GovernorLaw s) (due : Bool) :
    GovernorLaw { reimposeLockouts s with power := .startUp due } := by
  refine governorLaw_iff.2 fun id => ⟨fun r hr => ?_, (h.fits id).2⟩
  have hr' : (s.creds.get id).reimpose = .held r := by
    rw [← hr]
    exact (Tbl.get_map _ _ _).symm
  cases hc : s.creds.get id with
  | held r₀ =>
    obtain ⟨hin, hle⟩ := (h.fits id).1 r₀ hc
    rw [hc] at hr'
    cases hr'
    refine ⟨⟨hin.penalty, hin.streak, ?_, fun _ d => ?_⟩, hle⟩
    · simp only [pendingLockout]
      split
      · trivial
      case isFalse hne => exact ⟨Nat.one_le_iff_ne_zero.2 hne, lockoutDelay_le_cap _⟩
    · simp only [pendingLockout]
      split <;> nofun
  | empty => rw [hc] at hr'; cases hr'
  | reserved => rw [hc] at hr'; cases hr'

theorem governorLaw_partReset (input : StartUpInput) (h : GovernorLaw s) : GovernorLaw (partReset input s) := by
  unfold partReset
  have hstore : StoredWithin (if s.power = .off then s.store else storeAfterLoss input.landed s) := by
    split
    · exact fun id => (h.fits id).2
    · exact stored_storeAfterLoss h _
  obtain ⟨t, due, ⟨ht, -⟩, h | h⟩ := startUpKeeps_governor.startUp input.bad input.trouble
    (State.blank s.pending (.startUp false) (if s.power = .off then s.store else storeAfterLoss input.landed s)
      s.entropy) ⟨governorLaw_loadStore _ hstore, rfl⟩
  · exact h ▸ governorLaw_blank _ _ _ fun id => (ht.fits id).2
  · exact h ▸ governorLaw_reimpose ht due

theorem governorLaw_openPart (h : GovernorLaw s) {due low : Bool} (hp : s.power = .startUp due) :
    GovernorLaw (recomputeAttn (startIf due (openPart low s))) := by
  have hopen : GovernorLaw (openPart low s) := by
    refine governorLaw_iff.2 fun id => ⟨fun r hr => ?_, (h.fits id).2⟩
    obtain ⟨⟨h1, h2, h3, -⟩, hle⟩ := (h.fits id).1 r hr
    exact ⟨⟨h1, h2, h3, fun hno => absurd rfl hno⟩, hle⟩
  cases due <;> exact hopen

/-! ### The revocation list -/

theorem revoked_add_le {x : Slot} {c : ClassNo} {n : Nat}
    (hx : actionTarget c (.revoke n) s = some x) :
    (s.revoked ++ fingerprintOf x s).length ≤ Config.revocationCap := by
  have hroom : s.revoked.length < Config.revocationCap := by
    simp only [actionTarget] at hx
    split at hx
    · split at hx
      case isTrue hc =>
        simp only [Bool.and_eq_true, decide_eq_true_eq] at hc
        exact hc.1.2
      case isFalse => cases hx
    · cases hx
  have hone : (fingerprintOf x s).length ≤ 1 := by
    unfold fingerprintOf
    cases activeKey? x s <;> simp
  rw [List.length_append]
  omega

@[simp] theorem landClass_revocation (c : ClassNo) (f : ClassRecord → ClassRecord) (s : State) :
    (landClass c f s).revocation = s.store.revocation := by
  unfold landClass
  split <;> rfl

theorem revocation_land (h : RevocationLaw s) (x : JobStep) :
    (x.land s).revocation.length ≤ Config.revocationCap := by
  cases x with
  | activate | activateTrial | confirm | clearDeferred | account | revert =>
    exact (congrArg List.length (landClass_revocation _ _ s)).trans_le h.2
  | action c a =>
    simp only [JobStep.land]
    split
    case h_1 slot n ha => exact revoked_add_le ha
    case h_2 => exact h.2
    case h_3 => exact h.2
  | credRecord id =>
    simp only [JobStep.land]
    split <;> exact h.2
  | charge id | success id =>
    simp only [JobStep.land]
    split <;> exact h.2
  | _ => exact h.2

theorem revoked_act (h : RevocationLaw s) (x : JobStep) : (x.act s).revoked.length ≤ Config.revocationCap := by
  cases x with
  | action c a =>
    simp only [JobStep.act]
    split
    case h_1 slot n ha => exact revoked_add_le ha
    case h_2 => exact h.1
    case h_3 => exact h.1
  | revokeSlot slot =>
    exact (congrArg (fun v => v.revoked.length) (lawView_sweepKey (raiseCond .keyRevoked s) slot)).trans_le h.1
  | sweepClass c b => exact (congrArg (fun v => v.revoked.length) (lawView_sweepClassFloor s c b)).trans_le h.1
  | marker m => exact (congrArg (fun v => v.revoked.length) (lawView_partExtend s m)).trans_le h.1
  | charge id | success id | eraseCred id =>
    simp only [JobStep.act]
    split <;> exact h.1
  | eraseKey slot =>
    simp only [JobStep.act]
    split
    · exact (congrArg (fun v => v.revoked.length) (lawView_sweepKey (setKey slot .empty s) slot)).trans_le h.1
    · exact h.1
  | _ => exact h.1

theorem revocationLaw_complete (h : RevocationLaw s) (x : JobStep) : RevocationLaw (x.complete s) := by
  refine ⟨revoked_act h x, ?_⟩
  simp only [JobStep.complete]
  split
  · exact revocation_land h x
  · exact h.2

theorem revoked_lose (x : JobStep) (s : State) : (x.lose s).revoked = s.revoked := by
  cases x with
  | keyRemove slot | eraseKey slot => exact congrArg LawView.revoked (lawView_sweepKey (setKey slot .empty s) slot)
  | _ => rfl

theorem revocationLaw_fail (h : RevocationLaw s) (x : JobStep) (landed : Bool) : RevocationLaw (x.fail landed s) := by
  refine ⟨(congrArg List.length (revoked_lose x s)).trans_le h.1, ?_⟩
  simp only [JobStep.fail]
  split
  · exact revocation_land h x
  · exact h.2

theorem revocationLaw_endJob (h : RevocationLaw s) (r : Result) (b : List Byte) : RevocationLaw (endJob r b s) := by
  unfold endJob
  split
  · exact h
  · split <;> exact h

/-- Every move keeps the revocation list's bound. -/
theorem Move.revocationLaw (hmove : Move may s t) (h : RevocationLaw s) : RevocationLaw t := by
  cases hmove with
  | same hv =>
    exact ⟨(congrArg (fun v => v.revoked.length) hv).trans_le h.1,
      (congrArg (fun v => v.store.revocation.length) hv).trans_le h.2⟩
  | endJob r b => exact revocationLaw_endJob h r b
  | create slot => exact revocationLaw_endJob (s := setKey slot _ s) h _ _
  | step x => exact revocationLaw_complete h x
  | fail x landed => exact revocationLaw_fail h x landed
  | _ => exact h

theorem revocation_storeAfterLoss (h : RevocationLaw s) (landed : Bool) :
    (storeAfterLoss landed s).revocation.length ≤ Config.revocationCap := by
  unfold storeAfterLoss
  split
  · split
    · exact revocation_land h _
    · exact h.2
  · exact h.2

theorem startUpKeeps_revocation : StartUpKeeps RevocationLaw where
  complete x _ h := revocationLaw_complete h x
  fail x landed _ h := revocationLaw_fail h x landed
  cut x _ h _ := ⟨h.1, revocation_land h x⟩

theorem revocationLaw_partReset (input : StartUpInput) (h : RevocationLaw s) : RevocationLaw (partReset input s) := by
  unfold partReset
  have hstore : (if s.power = .off then s.store else storeAfterLoss input.landed s).revocation.length
      ≤ Config.revocationCap := by
    split
    · exact h.2
    · exact revocation_storeAfterLoss h _
  obtain ⟨t, due, ht, h | h⟩ := startUpKeeps_revocation.startUp input.bad input.trouble
    (State.blank s.pending (.startUp false) (if s.power = .off then s.store else storeAfterLoss input.landed s)
      s.entropy) (by
        simp only [RevocationLaw, loadStore, raiseIf_revoked, raiseIf_store]
        refine ⟨?_, hstore⟩
        split
        · exact Nat.zero_le _
        · exact hstore)
  · exact h ▸ ⟨Nat.zero_le _, ht.2⟩
  · exact h ▸ ht

end Governor

/-- Settles O56: every move keeps both laws; a loss of power and a part reset keep the store's bounds, and start-up
imposes lockouts again from penalties in their bounds. -/
theorem governorStaysInItsBounds : Obligations.GovernorStaysInItsBounds := by
  refine ⟨fun s t hs ht => ?governor, fun s t hs ht => ?revocation⟩
  case governor =>
    rcases step_cases ht with ⟨-, rfl⟩ | ⟨c, rest, -, ht⟩
    · exact hs
    have hs' : GovernorLaw (s.withPending rest) := hs
    rcases powerCommand_cases c with ⟨landed, rfl⟩ | ⟨input, rfl⟩ | ⟨low, rfl⟩ | ⟨hp, hup⟩
    · cases ht
      split
      · exact hs'
      · exact governorLaw_blank _ _ _ (stored_storeAfterLoss hs' landed)
    · exact Host.Outcome.next.inj ht ▸ governorLaw_partReset input hs'
    · obtain ⟨due, hp, rfl⟩ | ⟨-, rfl⟩ := startUpEnd_cases ht
      · exact governorLaw_openPart hs' hp
      · exact hs'
    · exact (moves_exec hp hup ht).keeps (P := GovernorLaw) Move.governorLaw hs'
  case revocation =>
    rcases step_cases ht with ⟨-, rfl⟩ | ⟨c, rest, -, ht⟩
    · exact hs
    have hs' : RevocationLaw (s.withPending rest) := hs
    rcases powerCommand_cases c with ⟨landed, rfl⟩ | ⟨input, rfl⟩ | ⟨low, rfl⟩ | ⟨hp, hup⟩
    · cases ht
      split
      · exact hs'
      · exact ⟨Nat.zero_le _, revocation_storeAfterLoss hs' landed⟩
    · exact Host.Outcome.next.inj ht ▸ revocationLaw_partReset input hs'
    · obtain ⟨due, -, rfl⟩ | ⟨-, rfl⟩ := startUpEnd_cases ht
      · cases due <;> exact hs'
      · exact hs'
    · exact (moves_exec hp hup ht).keeps (P := RevocationLaw) Move.revocationLaw hs'

end Sys2Proof.Machine
end

section
/-! PROOFS. The law of the key table (R4): fingerprints of ACTIVE slots differ, are not revoked, and a running job gives
out none that is not free. -/

namespace Sys2Proof.Machine

open Sys2Proof

section Keys

variable {may : Effect → Prop} {s t : State}

/-- The slots hold only keys that were in them. -/
def KeysFrom (s t : State) : Prop := ∀ slot k, t.keys.get slot = .active k → s.keys.get slot = .active k

/-- Fingerprints of ACTIVE slots differ and are not revoked. -/
def KeysApart (s : State) : Prop :=
  (∀ slot k, s.keys.get slot = .active k → k.fingerprint ∉ s.revoked)
    ∧ ∀ a b j k, s.keys.get a = .active j → s.keys.get b = .active k → a ≠ b → j.fingerprint ≠ k.fingerprint

theorem KeysApart.unrevoked (h : KeysApart s) :
    ∀ slot k, s.keys.get slot = .active k → k.fingerprint ∉ s.revoked := h.1

theorem KeysApart.differ (h : KeysApart s) :
    ∀ a b j k, s.keys.get a = .active j → s.keys.get b = .active k → a ≠ b → j.fingerprint ≠ k.fingerprint := h.2

/-- A running job's key has a free fingerprint, and no step left but its record's write. -/
def RunningKeyFree (s : State) : Prop :=
  ∀ r k, s.running = some r → r.data = .key k →
    fingerprintFree k.fingerprint s = true ∧ ∀ x ∈ r.todo, ∃ slot, x = .keyRecord slot

theorem keyLaw_iff : FactoryKeysDiffer s ∧ KeyLaw s ↔ KeysApart s ∧ RunningKeyFree s := by
  constructor
  · rintro ⟨hfactory, hrevoked, hdiffer, hrunning⟩
    refine ⟨⟨hrevoked, fun a b j k hj hk hab => ?_⟩, hrunning⟩
    by_cases hboth : j.origin = .factory ∧ k.origin = .factory
    · exact hfactory a b j k hj hk hab hboth.1 hboth.2
    · exact hdiffer a b j k hj hk hab hboth
  · rintro ⟨⟨hrevoked, hdiffer⟩, hrunning⟩
    exact ⟨fun a b j k hj hk hab _ _ => hdiffer a b j k hj hk hab, hrevoked,
      fun a b j k hj hk hab _ => hdiffer a b j k hj hk hab, hrunning⟩

theorem fingerprintFree_iff {fp : Bytes 32} : fingerprintFree fp s = true ↔
    fp ∉ s.revoked ∧ ∀ slot k, s.keys.get slot = .active k → k.fingerprint ≠ fp := by
  have hholds : holdsFingerprint fp s = true ↔ ∃ slot k, s.keys.get slot = .active k ∧ k.fingerprint = fp := by
    simp only [holdsFingerprint, List.any_eq_true, List.mem_finRange, true_and]
    refine exists_congr fun slot => ?_
    cases s.keys.get slot <;> simp
  rw [fingerprintFree, Bool.and_eq_true, Bool.not_eq_true', Bool.not_eq_true', ← Bool.not_eq_true, ← Bool.not_eq_true, hholds]
  simp

theorem KeysFrom.fingerprintFree {fp : Bytes 32} (h : KeysFrom s t) (hr : t.revoked = s.revoked)
    (hfree : fingerprintFree fp s = true) : fingerprintFree fp t = true := by
  rw [fingerprintFree_iff] at hfree ⊢
  exact ⟨hr ▸ hfree.1, fun slot k hk => hfree.2 slot k (h slot k hk)⟩

theorem KeysApart.shrunk (h : KeysApart s) (hk : KeysFrom s t) (hr : t.revoked = s.revoked) : KeysApart t :=
  ⟨fun slot k hslot => hr ▸ h.unrevoked slot k (hk slot k hslot),
    fun a b j k hj hk' => h.differ a b j k (hk a j hj) (hk b k hk')⟩

theorem keysFrom_of_eq (h : t.keys = s.keys) : KeysFrom s t := fun slot k hk => by rwa [h] at hk

theorem keysFrom_setEmpty {slot : Slot} (h : t.keys = s.keys.set slot .empty) : KeysFrom s t := by
  intro x k hk
  rw [h, Tbl.get_set] at hk
  split at hk
  · cases hk
  · exact hk

theorem keysFrom_eraseAndSweep (slot : Slot) (s : State) : KeysFrom s (eraseAndSweep slot s) :=
  keysFrom_setEmpty (congrArg LawView.keys (lawView_sweepKey (setKey slot .empty s) slot))

/-- A key whose fingerprint is free comes into a slot. -/
theorem KeysApart.add (h : KeysApart s) {k : KeyRecord} (slot : Slot)
    (hfree : fingerprintFree k.fingerprint s = true) : KeysApart (setKey slot (.active k) s) := by
  obtain ⟨hrevoked, hother⟩ := fingerprintFree_iff.1 hfree
  refine ⟨fun x j hj => ?_, fun a b i j hi hj hab => ?_⟩
  · simp only [setKey, Tbl.get_set] at hj
    split at hj
    · cases hj
      exact hrevoked
    · exact h.unrevoked x j hj
  · simp only [setKey, Tbl.get_set] at hi hj
    split at hi <;> split at hj
    case isTrue.isTrue ha hb => exact absurd (ha.trans hb.symm) hab
    case isTrue.isFalse =>
      cases hi
      exact (hother b j hj).symm
    case isFalse.isTrue =>
      cases hj
      exact hother a i hi
    case isFalse.isFalse => exact h.differ a b i j hi hj hab

/-- A slot's key is revoked, and the slot is EMPTY. -/
theorem KeysApart.revoke (h : KeysApart s) (slot : Slot) (hk : t.keys = s.keys.set slot .empty)
    (hr : t.revoked = s.revoked ++ fingerprintOf slot s) : KeysApart t := by
  refine ⟨fun x k hx => ?_, fun a b j k hj hk' =>
    h.differ a b j k (keysFrom_setEmpty hk a j hj) (keysFrom_setEmpty hk b k hk')⟩
  have hold := keysFrom_setEmpty hk x k hx
  have hne : x ≠ slot := by
    rintro rfl
    rw [hk, Tbl.get_set_self] at hx
    cases hx
  rw [hr, List.mem_append, not_or]
  refine ⟨h.unrevoked x k hold, fun hmem => ?_⟩
  unfold fingerprintOf activeKey? at hmem
  split at hmem
  case h_1 j hj => exact h.differ x slot k j hold hj hne (by simpa using hmem)
  case h_2 => simp at hmem

theorem fingerprintFree_of_install {slot : Slot} {c : ClassNo} {n : Nat} {key : Bytes 64}
    (h : actionTarget c (.install n key) s = some slot) : fingerprintFree (vendorRecord key).fingerprint s = true := by
  simp only [actionTarget] at h
  split at h
  · split at h
    case isTrue hc =>
      simp only [Bool.and_eq_true] at hc
      simp only [fingerprintFree, Bool.and_eq_true]
      exact ⟨hc.1.2, hc.2⟩
    case isFalse => cases h
  · cases h

/-- A step keeps ACTIVE keys apart: an installed key's fingerprint is free, and a revoked key's slot is EMPTY. -/
theorem keysApart_act (h : KeysApart s) (x : JobStep) : KeysApart (x.act s) := by
  have hsame {t : State} (hk : t.keys = s.keys) (hr : t.revoked = s.revoked) : KeysApart t :=
    h.shrunk (keysFrom_of_eq hk) hr
  have hview {t : State} (hv : lawView t = lawView s) : KeysApart t :=
    hsame (congrArg LawView.keys hv) (congrArg LawView.revoked hv)
  cases x with
  | action c a =>
    simp only [JobStep.act]
    split
    case h_1 slot n ha => exact h.revoke slot rfl rfl
    case h_2 slot n key ha => exact (h.add slot (fingerprintFree_of_install ha)).shrunk (keysFrom_of_eq rfl) rfl
    case h_3 => exact hsame rfl rfl
  | revokeSlot slot => exact hview (lawView_sweepKey (raiseCond .keyRevoked s) slot)
  | sweepClass c b => exact hview (lawView_sweepClassFloor s c b)
  | marker m =>
    exact hsame (congrArg LawView.keys (lawView_partExtend s m)) (congrArg LawView.revoked (lawView_partExtend s m))
  | charge id | success id | eraseCred id =>
    simp only [JobStep.act]
    split <;> exact hsame rfl rfl
  | eraseKey slot =>
    simp only [JobStep.act]
    split
    · refine h.shrunk (t := countErased 0 1 (eraseAndSweep slot s)) ?_
        (congrArg LawView.revoked (lawView_sweepKey (setKey slot .empty s) slot))
      exact keysFrom_eraseAndSweep slot s
    · exact h
  | _ => exact hsame rfl rfl

theorem keysApart_complete (h : KeysApart s) (x : JobStep) : KeysApart (x.complete s) :=
  (keysApart_act h x).shrunk (keysFrom_of_eq rfl) rfl

theorem keysFrom_fail (x : JobStep) (landed : Bool) (s : State) : KeysFrom s (x.fail landed s) := by
  cases x with
  | keyRemove slot | eraseKey slot => exact keysFrom_eraseAndSweep slot s
  | _ => exact keysFrom_of_eq rfl

theorem keysApart_fail (h : KeysApart s) (x : JobStep) (landed : Bool) : KeysApart (x.fail landed s) :=
  h.shrunk (keysFrom_fail x landed s) (revoked_lose x s)

theorem keys_endJob (r : Result) (b : List Byte) (s : State) :
    (endJob r b s).keys = s.keys ∧ (endJob r b s).revoked = s.revoked ∧ (endJob r b s).running = none := by
  unfold endJob
  split
  case h_1 hr => exact ⟨rfl, rfl, hr⟩
  case h_2 => split <;> exact ⟨rfl, rfl, rfl⟩

theorem runningKeyFree_of_none (h : s.running = none) : RunningKeyFree s := fun r k hr => by
  rw [h] at hr
  cases hr

/-- The running job keeps its data and its steps, and the slots hold only keys that were in them. -/
theorem RunningKeyFree.shrunk (h : RunningKeyFree s) {f : Running → Running}
    (hf : ∀ r, (f r).todo = r.todo ∧ ∀ k, (f r).data = .key k → r.data = .key k)
    (hrun : t.running = s.running.map f) (hk : KeysFrom s t) (hr : t.revoked = s.revoked) : RunningKeyFree t := by
  intro r k hr' hd
  rw [hrun] at hr'
  obtain ⟨r₀, hr₀, rfl⟩ := Option.map_eq_some_iff.1 hr'
  obtain ⟨hfree, htodo⟩ := h r₀ k hr₀ ((hf r₀).2 k hd)
  exact ⟨hk.fingerprintFree hr hfree, (hf r₀).1 ▸ htodo⟩

theorem RunningKeyFree.same (h : RunningKeyFree s) (hrun : t.running = s.running) (hk : KeysFrom s t)
    (hr : t.revoked = s.revoked) : RunningKeyFree t :=
  h.shrunk (f := id) (fun _ => ⟨rfl, fun _ hd => hd⟩) (by rw [hrun, Option.map_id_fun, id]) hk hr

/-- A job with a key to give out has no step of its own but its record's write. -/
theorem RunningKeyFree.keyRecord_of_ownedBy (h : RunningKeyFree s) {r : Running} {k : KeyRecord} {x : JobStep}
    (hr : s.running = some r) (hd : r.data = .key k) (hx : x.OwnedBy r) : ∃ slot, x = .keyRecord slot := by
  obtain ⟨-, htodo⟩ := h r k hr hd
  rcases hx with hx | ⟨y, hy, u, hx⟩ | hx
  · exact htodo x hx
  · obtain ⟨slot, rfl⟩ := htodo y hy
    cases hx
  · exact hx

/-- Keys are apart, and a running job's key is free. -/
def KeyGood (s : State) : Prop := KeysApart s ∧ RunningKeyFree s

theorem KeyGood.same (h : KeyGood s) (hrun : t.running = s.running) (hk : KeysFrom s t)
    (hr : t.revoked = s.revoked) : KeyGood t := ⟨h.1.shrunk hk hr, h.2.same hrun hk hr⟩

theorem keyGood_endJob (h : KeysApart s) (r : Result) (b : List Byte) : KeyGood (endJob r b s) := by
  obtain ⟨hk, hr, hrun⟩ := keys_endJob r b s
  exact ⟨h.shrunk (keysFrom_of_eq hk) hr, runningKeyFree_of_none hrun⟩

/-- Every move keeps the law of the key table. -/
theorem Move.keyGood (hmove : Move may s t) (h : KeyGood s) : KeyGood t := by
  obtain ⟨hkeys, hrunning⟩ := h
  have h : KeyGood s := ⟨hkeys, hrunning⟩
  cases hmove with
  | same hv =>
    exact h.same (congrArg LawView.running hv) (keysFrom_of_eq (congrArg LawView.keys hv))
      (congrArg LawView.revoked hv)
  | dropKeys keys hk => exact h.same rfl hk rfl
  | takeJob =>
    refine ⟨hkeys, fun r k hr hd => ?_⟩
    obtain ⟨j, -, rfl⟩ := Option.map_eq_some_iff.1 hr
    cases hd
  | running f hf =>
    refine ⟨hkeys, fun r k hr hd => ?_⟩
    obtain ⟨r₀, hr₀, rfl⟩ := Option.map_eq_some_iff.1 hr
    rcases hf.key r₀ k hr₀ hd with ⟨hd₀, howned⟩ | ⟨hfree, htodo⟩
    · exact ⟨(hrunning r₀ k hr₀ hd₀).1, fun x hx => hrunning.keyRecord_of_ownedBy hr₀ hd₀ (howned x hx)⟩
    · exact ⟨hfree, htodo⟩
  | endJob r b => exact keyGood_endJob hkeys r b
  | @create slot r k _ hr hd =>
    refine keyGood_endJob (s := setKey slot (createdSlot r.crossed k) s) ?_ _ _
    unfold createdSlot
    split
    · exact hkeys.shrunk (keysFrom_setEmpty rfl) rfl
    · exact hkeys.add slot (hrunning r k hr hd).1
  | step x _ _ howned =>
    refine ⟨keysApart_complete hkeys x, ?_⟩
    obtain ⟨f, hf, hrun⟩ := running_complete x s
    intro r k hr hd
    rw [hrun] at hr
    obtain ⟨r₀, hr₀, rfl⟩ := Option.map_eq_some_iff.1 hr
    have hd₀ := hf.key r₀ k hd
    obtain ⟨slot, rfl⟩ := hrunning.keyRecord_of_ownedBy hr₀ hd₀ (howned r₀ k hr₀ hd₀)
    obtain ⟨hfree, htodo⟩ := hrunning r₀ k hr₀ hd₀
    exact ⟨hfree, (hf.todo r₀).symm ▸ htodo⟩
  | fail x landed =>
    exact h.same (stepFrame_fail x landed s).2.2 (keysFrom_fail x landed s) (revoked_lose x s)
  | cross =>
    exact ⟨hkeys, hrunning.shrunk (f := fun r => { r with crossed := true }) (fun _ => ⟨rfl, fun _ hd => hd⟩) rfl
      (keysFrom_of_eq rfl) rfl⟩
  | _ => exact h

/-! ### Start-up -/

theorem keyGood_blank (pending : List Instr) (p : Power) (store : Store) (entropy : Nat) :
    KeyGood (State.blank pending p store entropy) :=
  ⟨⟨fun slot k hk => by simp [State.blank] at hk, fun a b j k hj => by simp [State.blank] at hj⟩,
    runningKeyFree_of_none rfl⟩

theorem startUpKeeps_keys : StartUpKeeps fun s => KeysApart s ∧ s.running = none where
  complete x s h := by
    obtain ⟨f, -, hrun⟩ := running_complete x s
    exact ⟨keysApart_complete h.1 x, by rw [hrun, h.2]; rfl⟩
  fail x landed s h := ⟨keysApart_fail h.1 x landed, (stepFrame_fail x landed s).2.2.trans h.2⟩
  cut _ _ h _ := ⟨⟨h.1.unrevoked, h.1.differ⟩, h.2⟩

theorem unlessRevoked_active {revoked : List (Bytes 32)} {k : KeySlot} {r : KeyRecord}
    (h : k.unlessRevoked revoked = .active r) : k = .active r ∧ r.fingerprint ∉ revoked := by
  unfold KeySlot.unlessRevoked at h
  split at h
  · split at h
    · cases h
    case isFalse hno =>
      cases h
      exact ⟨rfl, by simpa using hno⟩
  case h_2 hno => exact absurd h (hno r)

/-- The loaded slots, the revoked ones set EMPTY, hold stored keys that are not revoked. -/
theorem keysApart_loadStore (bad : List RecordId)
    (h : ∀ a b j k, s.store.keys.get a = some j → s.store.keys.get b = some k → a ≠ b →
      j.fingerprint ≠ k.fingerprint) :
    KeysApart { loadStore bad s with
      keys := (loadStore bad s).keys.map (KeySlot.unlessRevoked (loadStore bad s).revoked) } := by
  have hloaded (slot : Slot) (k : KeyRecord) (hk : (loadStore bad s).keys.get slot = .active k) :
      s.store.keys.get slot = some k := by
    simp only [loadStore, raiseIf_keys, Tbl.get_ofFn] at hk
    split at hk
    · cases hk
    · cases hst : s.store.keys.get slot with
      | none => simp [hst, loadKey] at hk
      | some j =>
        rw [hst] at hk
        cases hk
        rfl
  have hkept (slot : Slot) (k : KeyRecord)
      (hk : ((loadStore bad s).keys.map (KeySlot.unlessRevoked (loadStore bad s).revoked)).get slot = .active k) :
      s.store.keys.get slot = some k ∧ k.fingerprint ∉ (loadStore bad s).revoked := by
    rw [Tbl.get_map] at hk
    obtain ⟨hactive, hno⟩ := unlessRevoked_active hk
    exact ⟨hloaded slot k hactive, hno⟩
  exact ⟨fun slot k hk => (hkept slot k hk).2,
    fun a b j k hj hk => h a b j k (hkept a j hj).1 (hkept b k hk).1⟩

theorem keyGood_partReset (input : StartUpInput) (hp : s.power = .off)
    (h : ∀ a b j k, s.store.keys.get a = some j → s.store.keys.get b = some k → a ≠ b →
      j.fingerprint ≠ k.fingerprint) : KeyGood (partReset input s) := by
  unfold partReset
  rw [if_pos hp]
  obtain ⟨t, due, ht, hend | hend⟩ := startUpKeeps_keys.startUp input.bad input.trouble
    (State.blank s.pending (.startUp false) s.store s.entropy) ⟨keysApart_loadStore _ h, rfl⟩
  · exact hend ▸ keyGood_blank _ _ _ _
  · exact hend ▸ ⟨⟨ht.1.unrevoked, ht.1.differ⟩, runningKeyFree_of_none ht.2⟩

end Keys

/-- Settles O57: with the factory's keys apart the law says that all ACTIVE keys are, which every move keeps; and
start-up loads the store's keys but the revoked ones. -/
theorem fingerprintsStayDistinct : Obligations.FingerprintsStayDistinct := by
  refine ⟨fun c rest s t hpending hreset hfactory hlaw ht => ?step, fun input s t hp hstore ht => ?reset⟩
  case reset => exact keyLaw_iff.2 (Host.Outcome.next.inj ht ▸ keyGood_partReset input hp hstore)
  case step =>
    have hs : KeyGood (s.withPending rest) := keyLaw_iff.1 ⟨hfactory, hlaw⟩
    refine keyLaw_iff.2 ?_
    rw [step, hpending] at ht
    rcases powerCommand_cases c with ⟨landed, rfl⟩ | ⟨input, rfl⟩ | ⟨low, rfl⟩ | ⟨hp, hup⟩
    · cases ht
      split
      · exact hs
      · exact keyGood_blank _ _ _ _
    · cases hreset
    · obtain ⟨due, -, rfl⟩ | ⟨-, rfl⟩ := startUpEnd_cases ht
      · cases due <;> exact hs
      · exact hs
    · exact (moves_exec hp hup ht).keeps (P := KeyGood) Move.keyGood hs

end Sys2Proof.Machine
end

section
/-! PROOFS. The receipt stage and the order of checks (R164, R165), FETCH (R168) and ABORT (R172). -/

namespace Sys2Proof.Machine

open Sys2Proof

/-! ### The receipt stage, line by line (R164) -/

section Receipts

variable {st : Station} {code flags : Byte} {req : Option ReqCode} {body : List Byte} {s : State}

/-- A whole frame for which the transmitter has room reaches the receipt stage. -/
theorem exec_ofFrame_room (hp : s.power = .on) (ht : s.txNext = none) (hb : body.length ≤ Config.bodyCap)
    (st : Station) (code flags : Byte) :
    exec (Instr.ofFrame st code flags body) s
      = .next (recomputeAttn (receiptStage st code (ReqCode.ofByte code) flags body (lineIdle s))) := by
  rw [exec_ofFrame, whenOn_on hp, frameArrives, if_neg (Nat.not_lt.2 hb), judgeFrame]
  simp [ht]

theorem ne_of_ofByte {c : ReqCode} (h : code ≠ c.toByte) : ReqCode.ofByte code ≠ some c :=
  fun hc => h (toByte_of_ofByte hc).symm

theorem receiptStage_waiting (h : (s.stations.get st).state = .waiting) :
    receiptStage st code req flags body s = giveReceipt .notOpen s := by
  simp [receiptStage, h]

theorem receiptStage_closed (h : (s.stations.get st).state = .closed) (hf : req ≠ some .fetch)
    (hs : req ≠ some .status) : receiptStage st code req flags body s = giveReceipt .notOpen s := by
  simp [receiptStage, h, hf, hs]

/-- Past NOT_OPEN, a frame other than FETCH, ABORT and an overriding UPDATE_ABORT meets BUSY, HELD or TAKEN. -/
theorem receiptStage_opened (ho : (s.stations.get st).state = .opened) (hf : req ≠ some .fetch)
    (ha : req ≠ some .abort) (hov : overridesStream st req flags body s = false) :
    receiptStage st code req flags body s
      = if requestState st s ≠ .idle then giveReceipt .busy s
        else if (s.stations.get st).slot.isSome then giveReceipt .held s
        else giveReceipt .taken (orderOfChecks st code req flags body s) := by
  simp [receiptStage, ho, hf, ha, hov]

theorem overridesStream_of_ne (h : req ≠ some .updateAbort) : overridesStream st req flags body s = false := by
  simp [overridesStream, h]

/-- A station's stream job in hand waits in the queue or runs. -/
theorem mem_of_streamJobInHand (h : streamJobInHand st s = true) :
    ∃ q w, w.isStream = true ∧ (stationJob st q w ∈ s.queue ∨ ∃ r, s.running = some r ∧ r.job = stationJob st q w) := by
  unfold streamJobInHand at h
  split at h
  case h_2 => cases h
  case h_1 j hj =>
    have hqueue (hfind : (s.queue.find? fun j => j.holder == some st) = some (.station j)) :
        j.station = st ∧ Job.station j ∈ s.queue := by
      refine ⟨?_, List.mem_of_find?_eq_some hfind⟩
      simpa [Job.holder] using List.find?_some hfind
    have hown : j.station = st ∧ (Job.station j ∈ s.queue ∨ ∃ r, s.running = some r ∧ r.job = .station j) := by
      unfold requestInHand at hj
      split at hj
      case h_1 r hr =>
        split at hj
        case isTrue hh =>
          have hjob : r.job = .station j := Option.some.inj hj
          refine ⟨?_, .inr ⟨r, hr, hjob⟩⟩
          unfold Running.holder at hh
          split at hh
          · cases hh
          · rw [hjob] at hh
            exact Option.some.inj hh
        case isFalse =>
          obtain ⟨h1, h2⟩ := hqueue hj
          exact ⟨h1, .inl h2⟩
      case h_2 =>
        obtain ⟨h1, h2⟩ := hqueue hj
        exact ⟨h1, .inl h2⟩
    obtain ⟨rfl, hin⟩ := hown
    exact ⟨j.quiet, j.work, h, hin⟩

theorem streamJobInHand_of_idle (h : requestState st s = .idle) : streamJobInHand st s = false := by
  obtain ⟨hrunning, hqueue⟩ := (requestState_idle_iff st s).1 h
  have hfind : (s.queue.find? fun j => j.holder == some st) = none := by simpa [List.find?_eq_none] using hqueue
  have hnone : requestInHand st s = none := by
    unfold requestInHand
    split
    case h_1 r hr =>
      have hno : ¬r.holder = some st := by simpa [hr] using hrunning
      rw [if_neg hno, hfind]
    case h_2 => exact hfind
  simp [streamJobInHand, hnone]

theorem overridesStream_of_idle (h : requestState st s = .idle) : overridesStream st req flags body s = false := by
  refine Bool.eq_false_of_not_eq_true fun hov => ?_
  simp only [overridesStream, Bool.and_eq_true, beq_iff_eq] at hov
  obtain ⟨⟨⟨⟨-, rfl⟩, -⟩, -⟩, hjob⟩ := hov
  rw [streamJobInHand_of_idle h] at hjob
  cases hjob

theorem Work.isStream_iff {w : Work} : w.isStream = true ↔ w = .updateOpen ∨ ∃ chunk, w = .updateData chunk := by
  cases w <;> simp [Work.isStream]

/-- An UPDATE_ABORT overrides nothing that is not whole, not station 2's, or finds no stream job in hand (R79). -/
theorem overridesStream_of_malformed
    (h : flags &&& 0xFE ≠ 0 ∨ body ≠ [] ∨ st ≠ 2
      ∨ (∀ q w, stationJob 2 q w ∈ s.queue → w ≠ .updateOpen ∧ ∀ chunk, w ≠ .updateData chunk)
        ∧ (∀ r q w, s.running = some r → r.job = stationJob 2 q w →
            w ≠ .updateOpen ∧ ∀ chunk, w ≠ .updateData chunk)) :
    overridesStream st req flags body s = false := by
  by_contra hov
  simp only [overridesStream, Bool.not_eq_false, Bool.and_eq_true, beq_iff_eq, List.isEmpty_iff, flagsOk] at hov
  obtain ⟨⟨⟨⟨-, rfl⟩, hflags⟩, hbody⟩, hjob⟩ := hov
  rcases h with h | h | h | ⟨hqueue, hrunning⟩
  · exact h hflags
  · exact h hbody
  · exact h rfl
  · obtain ⟨q, w, hw, hin⟩ := mem_of_streamJobInHand hjob
    have hno : w ≠ .updateOpen ∧ ∀ chunk, w ≠ .updateData chunk := by
      rcases hin with hin | ⟨r, hr, hj⟩
      · exact hqueue q w hin
      · exact hrunning r q w hr hj
    rcases Work.isStream_iff.1 hw with rfl | ⟨chunk, rfl⟩
    · exact hno.1 rfl
    · exact hno.2 chunk rfl

end Receipts

/-- Settles O4: each receipt by the line of the receipt stage that gives it. -/
theorem refusedFramesLeaveNoTrace : Obligations.RefusedFramesLeaveNoTrace := by
  intro st code flags body s hp ht hb
  have hexec := exec_ofFrame_room hp ht hb st
  refine ⟨fun h => ?notOpen, fun ho h1 h2 h50 hr => ?busy, fun ho hr h => ?abort, fun ho h1 h2 hr hslot => ?held⟩
  case notOpen =>
    rw [hexec]
    rcases h with hw | ⟨hc, h1, h3⟩
    · rw [receiptStage_waiting (s := lineIdle s) hw]
    · rw [receiptStage_closed (s := lineIdle s) hc (ne_of_ofByte h1) (ne_of_ofByte h3)]
  case busy =>
    rw [hexec, receiptStage_opened (s := lineIdle s) ho (ne_of_ofByte h1) (ne_of_ofByte h2)
      (overridesStream_of_ne (ne_of_ofByte h50)), if_pos (by simpa using hr)]
  case abort =>
    rw [hexec, receiptStage_opened (s := lineIdle s) ho (by decide) (by decide)
      (overridesStream_of_malformed (s := lineIdle s) h), if_pos (by simpa using hr)]
  case held =>
    have hidle : ¬requestState st (lineIdle s) ≠ .idle := by simpa using hr
    have hsome : ((lineIdle s).stations.get st).slot.isSome = true := Option.isSome_iff_ne_none.2 hslot
    rw [hexec, receiptStage_opened (s := lineIdle s) ho (ne_of_ofByte h1) (ne_of_ofByte h2)
      (overridesStream_of_idle hr), if_neg hidle, if_pos hsome]

/-! ### The order of checks (R165) -/

section Checks

variable {st : Station} {code flags : Byte} {req : Option ReqCode} {body : List Byte} {s : State}

/-- A frame from a station that may send reaches the order of checks, but for FETCH and ABORT. -/
theorem exec_ofFrame_taken (hs : MaySend st s) (hb : body.length ≤ Config.bodyCap) (h1 : code ≠ 1) (h2 : code ≠ 2) :
    exec (Instr.ofFrame st code flags body) s
      = .next (recomputeAttn (giveReceipt .taken
          (orderOfChecks st code (ReqCode.ofByte code) flags body (lineIdle s)))) := by
  obtain ⟨hp, ht, ho, hslot, hidle⟩ := hs
  rw [exec_ofFrame_room hp ht hb, receiptStage_opened (s := lineIdle s) ho (ne_of_ofByte h1) (ne_of_ofByte h2)
    (overridesStream_of_idle (s := lineIdle s) hidle), if_neg (by simpa using hidle), if_neg (by simp [hslot])]

theorem flagsOk_of_eq (h : flags &&& 0xFE = 0) : flagsOk flags = true := beq_iff_eq.2 h

theorem flagsOk_of_ne (h : flags &&& 0xFE ≠ 0) : flagsOk flags = false := beq_eq_false_iff_ne.2 h

theorem orderOfChecks_reservedBits (h : flags &&& 0xFE ≠ 0) :
    orderOfChecks st code req flags body s = placeReply st .reservedBits code [] (hasBit flags 0) s := by
  simp [orderOfChecks, flagsOk_of_ne h]

theorem orderOfChecks_unknown (h : flagsOk flags = true) :
    orderOfChecks st code none flags body s = placeReply st .unknownRequest code [] (hasBit flags 0) s := by
  simp [orderOfChecks, h]

theorem orderOfChecks_refused {c : ReqCode} {r : Result} (h : flagsOk flags = true)
    (hr : generalRefusal c st body s = some r) :
    orderOfChecks st code (some c) flags body s = placeReply st r code [] (hasBit flags 0) s := by
  simp [orderOfChecks, h, hr]

end Checks

/-- Settles O5: the first of checks 1 to 6 that fails gives the reply. -/
theorem orderOfChecksHolds : Obligations.OrderOfChecks := by
  refine ⟨fun st code flags body s hs hb h1 h2 => ?known, fun st code flags body s hs hb hcode => ?unknown⟩
  case unknown =>
    obtain ⟨hsend, hflags, -⟩ := hs
    have hframe : Instr.ofFrame st code flags body = .unknownRequestFrame st code flags body := by
      simp [Instr.ofFrame, hcode]
    have hne {c : ReqCode} : code ≠ c.toByte := by
      rintro rfl
      simp at hcode
    rw [← hframe, exec_ofFrame_taken hsend hb (hne (c := .fetch)) (hne (c := .abort)), hcode,
      orderOfChecks_unknown hflags]
  case known =>
    have hexec := exec_ofFrame_taken (flags := flags) hs hb h1 h2
    refine ⟨fun h => ?_, fun h hc => ?_, fun c h hc => ?_⟩
    · rw [hexec, orderOfChecks_reservedBits h]
    · rw [hexec, hc, orderOfChecks_unknown (flagsOk_of_eq h)]
    · have hrefused (r : Result) (hr : generalRefusal c st body (lineIdle s) = some r) :
          exec (Instr.ofFrame st code flags body) s = .next (recomputeAttn (giveReceipt .taken
            (placeReply st r code [] (hasBit flags 0) (lineIdle s)))) := by
        rw [hexec, hc, orderOfChecks_refused (flagsOk_of_eq h) hr]
      have hgrant : needsGrant c st body (lineIdle s) = needsGrant c st body s := rfl
      refine ⟨fun hl => hrefused _ ?_, fun hl hperm => hrefused _ ?_, fun hl hperm hf h1 h2 h3 => hrefused _ ?_,
        fun hl hperm hf hn hg => hrefused _ ?_⟩
      · simp [generalRefusal, hl]
      · simp [generalRefusal, hl, hperm]
      · have hne : c ≠ .fetch := by
          rintro rfl
          exact absurd (toByte_of_ofByte hc).symm ‹_›
        simp [generalRefusal, hl, hperm, hf, answeredInFault, h1, h2, h3, hne]
      · simp [generalRefusal, hl, hperm, hf, hgrant, hn, holdsGrant, hg]

/-! ### FETCH (R168) -/

section Fetch

variable {st : Station} {flags : Byte} {body : List Byte} {s : State}

theorem exec_fetch (hp : s.power = .on) (ht : s.txNext = none) (hb : body.length ≤ Config.bodyCap)
    (hw : (s.stations.get st).state ≠ .waiting) :
    exec (.fetch st flags body) s
      = .next (recomputeAttn (handItem (.frame (fetchFrame st flags body (lineIdle s)))
          (fetchSlot st flags body (lineIdle s)))) := by
  refine (exec_ofFrame_room hp ht hb st ReqCode.fetch.toByte flags).trans ?_
  simp [receiptStage, hw]

end Fetch

/-- Settles O6: a good FETCH sends what the slot holds and empties it; a malformed one leaves it. -/
theorem fetchCollectsReply : Obligations.FetchCollectsReply := by
  intro st flags body s hp ht hb
  refine ⟨fun hw => ?waiting, fun hw => ⟨fun hf => ?bits, fun hf hbody => ?length, fun hf hbody => ?good⟩⟩
  case waiting =>
    refine (exec_ofFrame_room hp ht hb st ReqCode.fetch.toByte flags).trans ?_
    rw [receiptStage_waiting (s := lineIdle s) hw]
  case bits =>
    rw [exec_fetch hp ht hb hw, fetchFrame, fetchSlot, flagsOk_of_ne hf]
    rfl
  case length =>
    have hempty : body.isEmpty = false := by simpa using hbody
    rw [exec_fetch hp ht hb hw, fetchFrame, fetchSlot, flagsOk_of_eq hf, hempty]
    rfl
  case good =>
    subst hbody
    have hexec := exec_fetch (flags := flags) hp ht hb hw
    rw [fetchFrame, fetchSlot, flagsOk_of_eq hf] at hexec
    refine ⟨fun r hr => hexec.trans ?_, fun hr => hexec.trans ?_⟩
    · simp only [lineIdle_stations, hr]
      rfl
    · have hsame : ({ s.stations.get st with slot := none } : StationRec) = s.stations.get st := by rw [← hr]
      simp only [lineIdle_stations, hr, hsame, setStation, Tbl.set_get_self]
      rfl

end Sys2Proof.Machine
end

section
/-! PROOFS. ABORT (R172): what it finds in the queue, and what the taken-out request gives back. -/

namespace Sys2Proof.Machine

open Sys2Proof

section Abort

variable {st : Station} {flags : Byte} {s : State} {w : Work} {quiet : Bool} {before after : List Job}

theorem exec_abort (hp : s.power = .on) (ht : s.txNext = none)
    (ho : (s.stations.get st).state = .opened) :
    exec (.abort st flags []) s
      = .next (recomputeAttn (giveReceipt (abortRequest st flags [] (lineIdle s)).1
          (abortRequest st flags [] (lineIdle s)).2)) := by
  refine (exec_ofFrame_room hp ht (Nat.zero_le _) st ReqCode.abort.toByte flags).trans ?_
  simp [receiptStage, ho]

theorem abortRequest_idle (h : requestState st s = .idle) : abortRequest st flags [] s = (.none, s) := by
  simp [abortRequest, h]

theorem abortRequest_running (hf : flagsOk flags = true) (h : requestState st s = .running) :
    abortRequest st flags [] s = (.running, s) := by
  simp [abortRequest, hf, h]

theorem abortRequest_waiting (hf : flagsOk flags = true) (h : requestState st s = .waiting) :
    abortRequest st flags [] s = (.removed, removeWaiting st s) := by
  simp [abortRequest, hf, h]

/-- The state with a station's only waiting job taken out: its notes undone, ABORTED placed. -/
theorem removeWaiting_of_queue (hq : s.queue = before ++ stationJob st quiet w :: after)
    (hother : ∀ j ∈ before ++ after, j.holder ≠ some st) :
    removeWaiting st s
      = placeReply st .aborted w.code [] quiet
          (releaseStream w (releaseWork w { s with queue := before ++ after })) := by
  have hkeep (l : List Job) (hl : ∀ j ∈ l, j.holder ≠ some st) :
      l.filterMap (fun j => if j.holder = some st then j.withdrawn else some j) = l := by
    rw [List.filterMap_congr (g := some) fun j hj => if_neg (hl j hj), List.filterMap_some]
  have hbefore := hkeep before fun j hj => hother j (List.mem_append_left _ hj)
  have hafter := hkeep after fun j hj => hother j (List.mem_append_right _ hj)
  have hfind : (s.queue.find? fun j => j.holder == some st) = some (stationJob st quiet w) := by
    rw [hq, List.find?_append, List.find?_eq_none.2 fun j hj => by simpa using hother j (List.mem_append_left _ hj)]
    simp [Job.holder]
  have hqueue : s.queue.filterMap (fun j => if j.holder = some st then j.withdrawn else some j) = before ++ after := by
    rw [hq, List.filterMap_append, hbefore, List.filterMap_cons_none (by simp [Job.holder, Job.withdrawn]), hafter]
  rw [removeWaiting, hfind, hqueue]
  rfl

/-- ABORT of a waiting request, as one equation. -/
theorem exec_abort_waiting (hp : s.power = .on) (ht : s.txNext = none) (hf : flagsOk flags = true)
    (ho : (s.stations.get st).state = .opened) (hw : requestState st s = .waiting)
    (hq : s.queue = before ++ stationJob st quiet w :: after) (hother : ∀ j ∈ before ++ after, j.holder ≠ some st) :
    exec (.abort st flags []) s
      = .next (recomputeAttn (giveReceipt .removed (placeReply st .aborted w.code [] quiet
          (releaseStream w (releaseWork w (lineIdle { s with queue := before ++ after })))))) := by
  rw [exec_abort hp ht ho, abortRequest_waiting hf (s := lineIdle s) hw,
    removeWaiting_of_queue (s := lineIdle s) hq hother]
  rfl

theorem freeSlot_reserved {slot : Slot} {b : Bool} (h : s.keys.get slot = .reserved b) :
    (freeSlot slot s).keys.get slot = .empty := by
  simp [freeSlot, h, KeySlot.isReserved]

theorem freeCred_reserved {id : CredId} (h : s.creds.get id = .reserved) :
    (freeCred id s).creds.get id = .empty := by
  simp [freeCred, h, Credential.isReserved]

end Abort

/-- Settles O7: what waits is found in the queue, and each request gives back its own notes. -/
theorem abortWithdrawsWaitingRequest : Obligations.AbortWithdrawsWaitingRequest := by
  refine ⟨fun st flags s hp ht hf ho => ⟨fun hi => ?idle, fun hr => ?running, ?waiting⟩,
    fun st flags s quiet w before after hp ht hf ho hw hq hother => ?undo⟩
  case idle => rw [exec_abort hp ht ho, abortRequest_idle (s := lineIdle s) hi]
  case running => rw [exec_abort hp ht ho, abortRequest_running hf (s := lineIdle s) hr]
  case waiting =>
    intro before after quiet w hw hq hother hnone
    rw [exec_abort_waiting hp ht hf ho hw hq hother]
    cases w <;> first | rfl | cases hnone
  case undo =>
    refine ⟨_, exec_abort_waiting hp ht hf ho hw hq hother, ?_⟩
    have hengine := sameEngine_undoJob (stationJob st quiet w) (lineIdle { s with queue := before ++ after })
    refine ⟨hengine.queue, hengine.running, ?_, ?_⟩
    · show (placeReply st .aborted w.code [] quiet
          (releaseStream w (releaseWork w (lineIdle { s with queue := before ++ after })))).stations = _
      rw [placeReply, setStation, show (releaseStream w (releaseWork w
        (lineIdle { s with queue := before ++ after }))).stations = s.stations from hengine.stations]
    · refine ⟨?_, ?_, ?_, ?_, ?_, ?_, ?_, ?_⟩
      · rintro p kind rfl h
        exact freeSlot_reserved (s := lineIdle { s with queue := before ++ after }) h
      · rintro p m b rfl h
        exact freeSlot_reserved (s := lineIdle { s with queue := before ++ after }) h
      · rintro parent fp d target usage mask label rfl h
        exact freeSlot_reserved (s := lineIdle { s with queue := before ++ after }) h
      · rintro p g rfl h
        exact freeCred_reserved (s := lineIdle { s with queue := before ++ after }) h
      · rintro c rfl
        refine ⟨rfl, ?_⟩
        show (if s.timer.overdue then TrialTimer.expired else s.timer) = _
        cases s.timer with
        | running d late => cases late <;> rfl
        | stopped | expired => rfl
      · rintro rfl
        rfl
      · rintro chunk m limit n absorbed rfl h
        show (match s.stream with
          | .absorbing m limit n absorbed => _
          | other => other) = _
        rw [h]
        rfl
      · rintro p rfl
        rfl

end Sys2Proof.Machine
end

section
/-! PROOFS. The reports that every mode answers: STATUS, CONDITIONS and IDENTITY_READ (R63, R169, R194). -/

namespace Sys2Proof.Machine

open Sys2Proof

section Reports

variable {st : Station} {flags : Byte} {s : State}

/-- STATUS is answered to an OPEN and to a CLOSED station, in FAULT mode too (R164, R169). -/
theorem exec_status (hp : s.power = .on) (ht : s.txNext = none) (hst : (s.stations.get st).state ≠ .waiting)
    (hidle : requestState st s = .idle) (hslot : (s.stations.get st).slot = none) (hf : flagsOk flags = true) :
    exec (.status st flags []) s = .next (answered st .ok .status (statusBody st (lineIdle s)) flags (lineIdle s)) := by
  refine (exec_ofFrame_room hp ht (Nat.zero_le _) st ReqCode.status.toByte flags).trans ?_
  have hov := overridesStream_of_idle (req := some .status) (flags := flags) (body := []) (s := lineIdle s) hidle
  have hpass : generalRefusal .status st [] (lineIdle s) = none := by
    simp [generalRefusal, lengthOk, permitted, answeredInFault, needsGrant]
  rw [ofByte_toByte]
  have hnot : ¬((lineIdle s).stations.get st).state = .waiting := hst
  have hsome : ¬((lineIdle s).stations.get st).slot.isSome = true := by simp [hslot]
  rw [receiptStage, if_neg hnot, if_neg (by simp), if_neg (by simp), if_neg (by simp), hov, if_neg (by simp),
    if_neg (by simpa using hidle), if_neg hsome, orderOfChecks, hf]
  simp only [hpass]
  rfl

/-- A request that is answered in FAULT mode too, from a station that may send. -/
theorem exec_anyMode {c : ReqCode} (hs : MaySend st s) (hf : flagsOk flags = true) (h1 : c ≠ .fetch) (h2 : c ≠ .abort)
    (hpass : generalRefusal c st [] (lineIdle s) = none) :
    exec (Instr.ofFrame st c.toByte flags []) s
      = .next (recomputeAttn (giveReceipt .taken (takeRequest c st (hasBit flags 0) [] (lineIdle s)))) := by
  rw [exec_request, whenOn_on hs.1, requestArrives_taken hs (Nat.zero_le _) h1 h2, orderOfChecks, hf]
  simp only [hpass]
  rfl

theorem flagByte_ownerClaimed (s : State) :
    ownerClaimed s = match s.creds.get 0 with | .held _ => true | _ => false := by
  unfold ownerClaimed heldCred?
  cases s.creds.get 0 <;> rfl

/-- The two bits of the waiting internal jobs, as numbers. -/
theorem waitingInternal_eq (s : State) :
    waitingInternal s = byte ((if Job.trialAccount ∈ s.queue then 1 else 0)
      + if s.queue.any Job.isOwnerReset then 2 else 0) := by
  have hmem : s.queue.contains .trialAccount = decide (Job.trialAccount ∈ s.queue) := by simp
  rw [waitingInternal, hmem]
  generalize s.queue.any Job.isOwnerReset = reset
  by_cases ht : Job.trialAccount ∈ s.queue <;> cases reset <;> simp [ht]

end Reports

/-- Settles O8: each report's bytes, field by field. -/
theorem reportsAreAnsweredInFaultMode : Obligations.ReportsAreAnsweredInFaultMode := by
  refine ⟨fun st flags s hp ht hst hidle hslot hf => ?status, fun st flags s hs hf => ⟨?conditions, ?identity⟩⟩
  case status =>
    intro station origin waiting internal claimed stream
    rw [exec_status hp ht hst hidle hslot hf]
    have horigin : engineOrigin (lineIdle s) = origin := rfl
    have hwaiting : s.queue.countP Job.isStation = waiting := rfl
    have hinternal : waitingInternal (lineIdle s) = byte internal := waitingInternal_eq (lineIdle s)
    have hclaimed : ownerClaimed (lineIdle s) = claimed := flagByte_ownerClaimed (lineIdle s)
    have hstream : (s.stream.toByte, s.stream.received) = stream := by
      simp only [stream]
      cases s.stream <;> rfl
    have hidle' : requestState st (lineIdle s) = .idle := hidle
    simp only [statusBody, horigin, hinternal, hclaimed, hidle', ← hstream]
    rfl
  case conditions =>
    refine (exec_anyMode (c := .conditions) hs hf nofun nofun ?_).trans ?_
    · simp [generalRefusal, lengthOk, permitted, answeredInFault, needsGrant]
    · rfl
  case identity =>
    intro cert key hcert hkey
    refine (exec_anyMode (c := .identityRead) hs hf nofun nofun ?_).trans ?_
    · simp [generalRefusal, lengthOk, permitted, answeredInFault, needsGrant]
    · have hcert' : be16 ((lineIdle s).certificate.getD []).length ++ (lineIdle s).certificate.getD [] = cert := by
        rcases hcert with ⟨c, hc, rfl⟩ | ⟨hc, rfl⟩
        · simp [hc]
        · simp only [lineIdle_certificate, hc]
          rfl
      have hkey' : identityKey (lineIdle s) = key := by
        rcases hkey with ⟨k, priv, pub, hk, hm, rfl⟩ | ⟨k, hk, hm, rfl⟩ | ⟨hk, rfl⟩
        · simp [identityKey, hk, hm]
        · simp only [identityKey, lineIdle_keys, hk]
          cases hmat : k.material with
          | signing priv pub => exact absurd hmat (hm priv pub)
          | _ => rfl
        · simp only [identityKey, lineIdle_keys, hk]
          rfl
      simp only [takeRequest, takeIdentityRead, hcert', hkey']
      rfl

end Sys2Proof.Machine
end

section
/-! PROOFS. The requests of the station table (R161, R162, R170, R195), UPDATE_ABORT (R78, R79) and the requests that fill
and empty targets (R88, R89). -/

namespace Sys2Proof.Machine

open Sys2Proof

/-! ### CLEAR_CONDITIONS (R195) -/

section Clear

variable {st : Station} {flags hi lo : Byte} {s : State}

/-- The number of two bytes, as the 16 bits that they hold. -/
theorem ofNat_nat16At (hi lo : Byte) (rest : List Byte) : BitVec.ofNat 16 (nat16At (hi :: lo :: rest) 0) = hi ++ lo :=
  selection_eq_append 0 hi lo rest

theorem and_F800_eq (hi lo : Byte) : (hi ++ lo : BitVec 16) &&& 0xF800 = (hi &&& 0xF8) ++ (0 : Byte) := by
  have hmask : (0xF800 : BitVec 16) = (0xF8 : Byte) ++ (0 : Byte) := by decide
  rw [hmask, BitVec.and_append, show lo &&& 0 = 0 from BitVec.and_zero]

theorem and_F800_ne (h : hi &&& 0xF8 ≠ 0) : (((hi ++ lo : BitVec 16) &&& 0xF800) != 0) = true := by
  rw [and_F800_eq, bne_iff_ne]
  intro h0
  refine h (BitVec.eq_of_toNat_eq ?_)
  have hnat := congrArg BitVec.toNat h0
  rw [BitVec.toNat_append] at hnat
  simpa using hnat

theorem permitted_clearConditions (h : 2 ≤ st.val) (body : List Byte) : permitted .clearConditions st body = true := by
  simp only [permitted]
  revert st
  decide

theorem exec_clearConditions (hs : Ready st flags s) (hst : 2 ≤ st.val) :
    exec (.clearConditions st flags [hi, lo]) s
      = .next (recomputeAttn (giveReceipt .taken (takeClearConditions st (hasBit flags 0) [hi, lo] (lineIdle s)))) :=
  exec_passes (c := .clearConditions) hs (by simp [Config.bodyCap]) nofun nofun rfl (permitted_clearConditions hst _) nofun

theorem severity_lt_iff (i : Fin 11) : severity i < 3 ↔ i.val < 9 := by
  revert i
  decide

theorem raisedSet_congr {s t : State} (h : t.conditions = s.conditions) : raisedSet t = raisedSet s := by
  have hraised : raised t = raised s := funext fun i => by rw [raised, raised, h]
  rw [raisedSet, raisedSet, hraised]

end Clear

/-! ### SET_NOTICE_MASK (R170) -/

/-- An action that is LEAVE, SET or CLEAR gives the mask a value; any other is no action. -/
theorem noticeAction_eq (action : Byte) (mask : Bool) :
    noticeAction action mask = if action.toNat < 3 then some (if action = 0 then mask else action == 1) else none := by
  obtain h | h | h | h : action.toNat = 0 ∨ action.toNat = 1 ∨ action.toNat = 2 ∨ 3 ≤ action.toNat := by omega
  · obtain rfl : action = 0 := BitVec.eq_of_toNat_eq h
    rfl
  · obtain rfl : action = 1 := BitVec.eq_of_toNat_eq h
    rfl
  · obtain rfl : action = 2 := BitVec.eq_of_toNat_eq h
    rfl
  · rw [if_neg (Nat.not_lt.2 h), noticeAction]
    split <;> first | omega | rfl

section Mask

variable {st : Station} {flags own all : Byte} {s : State}

theorem exec_setNoticeMask (hs : Ready st flags s) (h : all = 0 ∨ st = 2) :
    exec (.setNoticeMask st flags [own, all]) s
      = .next (recomputeAttn (giveReceipt .taken (takeSetNoticeMask st (hasBit flags 0) [own, all] (lineIdle s)))) :=
  exec_passes (c := .setNoticeMask) hs (by simp [Config.bodyCap]) nofun nofun rfl
    (by simpa [permitted, byteAt] using h) nofun

theorem takeSetNoticeMask_bad {quiet : Bool} (h : 3 ≤ own.toNat ∨ 3 ≤ all.toNat) :
    takeSetNoticeMask st quiet [own, all] s = answer .setNoticeMask st quiet .badArgument [] s := by
  simp only [takeSetNoticeMask, byteAt_cons_zero, byteAt_cons_succ, noticeAction_eq]
  rcases h with h | h
  · rw [if_neg (by omega)]
  · rw [if_neg (c := all.toNat < 3) (by omega)]
    split <;> simp_all

theorem takeSetNoticeMask_good {quiet : Bool} (h1 : own.toNat < 3) (h2 : all.toNat < 3) :
    takeSetNoticeMask st quiet [own, all] s
      = answer .setNoticeMask st quiet .ok
          [flagByte (if own = 0 then (s.stations.get st).masked else own == 1),
            flagByte (if all = 0 then s.globalMask else all == 1)]
          { setStation st { s.stations.get st with
              masked := if own = 0 then (s.stations.get st).masked else own == 1 } s with
            globalMask := if all = 0 then s.globalMask else all == 1 } := by
  simp only [takeSetNoticeMask, byteAt_cons_zero, byteAt_cons_succ, noticeAction_eq, if_pos h1, if_pos h2]

end Mask

/-! ### CLOSE_STAGE (R161, R162) -/

section Close

variable {st : Station} {flags : Byte} {s : State}

theorem permitted_closeStage (st : Station) (body : List Byte) :
    permitted .closeStage st body = decide (st.val < 2) := by
  simp only [permitted]
  revert st
  decide

theorem exec_closeStage (hs : Ready st flags s) (hst : st.val < 2) :
    exec (.closeStage st flags []) s
      = .next (recomputeAttn (giveReceipt .taken (takeCloseStage st (hasBit flags 0) (lineIdle s)))) := by
  refine exec_passes (c := .closeStage) hs (Nat.zero_le _) nofun nofun rfl ?_ nofun
  rw [permitted_closeStage, decide_eq_true hst]

/-- The stage moves on: its station closes, and what follows it opens. -/
theorem closeStage_get (hst : st.val < 2) (x : Station) :
    (closeStage st s).stations.get x
      = { s.stations.get x with
          state := if x = st then .closed
            else if (st = 0 ∧ x = 1) ∨ (st = 1 ∧ 2 ≤ x.val) then .opened
            else (s.stations.get x).state } := by
  obtain rfl | rfl : st = 0 ∨ st = 1 := by revert st; decide
  · simp only [closeStage, moveStation, setStation, Tbl.get_set]
    fin_cases x <;> simp
  · simp only [closeStage, moveStation, setStation, Tbl.get_set]
    fin_cases x <;> simp

theorem closeStage_frame (st : Station) (s : State) : closeStage st s = { s with stations := (closeStage st s).stations } := by
  unfold closeStage
  split <;> rfl

end Close

/-- Settles O12: each request by the masks, states and conditions that it leaves. -/
theorem stationRequestsChangeTheStationTable : Obligations.StationRequestsChangeTheStationTable := by
  refine ⟨fun st flags hi lo s hs hst => ⟨fun hbits => ?reserved, fun hbits after hafter => ?clear⟩,
    fun st flags own all s hs => ?mask, fun st flags s hs => ⟨fun hst => ?refused, fun hst => ?stage⟩⟩
  case reserved =>
    rw [exec_clearConditions hs hst, takeClearConditions, ofNat_nat16At, if_pos (and_F800_ne hbits)]
    rfl
  case clear =>
    have hyes : ¬(((hi ++ lo : BitVec 16) &&& 0xF800) != 0) = true := by
      rw [and_F800_eq, hbits]
      decide
    have htable : (clearNamed (hi ++ lo) (lineIdle s)).conditions = after := by
      refine Tbl.ext_get fun i => ?_
      simp only [clearNamed, Tbl.get_mapFin, hafter, Bool.and_eq_true, decide_eq_true_eq, severity_lt_iff, lineIdle_conditions]
      simp only [and_comm (a := i.val < 9)]
    have hstate : clearNamed (hi ++ lo) (lineIdle s) = lineIdle { s with conditions := after } := by
      rw [← htable]
      rfl
    rw [exec_clearConditions hs hst, takeClearConditions, ofNat_nat16At, if_neg hyes, hstate,
      raisedSet_congr (s := { s with conditions := after }) rfl]
    rfl
  case mask =>
    intro does refuses
    refine ⟨fun hall hst => ?_, fun h hbad => ?_, fun h h1 h2 => ?_⟩
    · exact exec_notPermitted (c := .setNoticeMask) hs (by simp [Config.bodyCap]) nofun nofun rfl
        (by simpa [permitted, byteAt] using And.intro hall hst)
    · show exec _ s = _
      rw [exec_setNoticeMask hs h, takeSetNoticeMask_bad hbad]
      rfl
    · show exec _ s = _
      rw [exec_setNoticeMask hs h, takeSetNoticeMask_good h1 h2]
      rfl
  case refused =>
    refine exec_notPermitted (c := .closeStage) hs (Nat.zero_le _) nofun nofun rfl ?_
    rw [permitted_closeStage, decide_eq_false (Nat.not_lt.2 hst)]
  case stage =>
    have hget (x : Station) := closeStage_get (s := lineIdle s) hst x
    have hreply (x : Station) : ((takeCloseStage st (hasBit flags 0) (lineIdle s)).stations.get x)
        = if x = st then
            { (closeStage st (lineIdle s)).stations.get st with
              slot := some { result := .ok, code := 7, body := stationStates (closeStage st (lineIdle s)),
                             notice := !hasBit flags 0 } }
          else (closeStage st (lineIdle s)).stations.get x := Tbl.get_set _ _ _ _
    have hstate (x : Station) : ((takeCloseStage st (hasBit flags 0) (lineIdle s)).stations.get x).state
        = ((closeStage st (lineIdle s)).stations.get x).state := by
      rw [hreply]
      split
      case isTrue he => rw [he]
      case isFalse => rfl
    refine ⟨_, exec_closeStage hs hst, fun x => (hstate x).trans (by rw [hget]; rfl), ?_, fun x hx => ?_,
      fun x => ?_, ?_⟩
    · refine (congrArg StationRec.slot ((hreply st).trans (if_pos rfl))).trans ?_
      simp only [stationStates, ← hstate]
      rfl
    · exact (congrArg StationRec.slot ((hreply x).trans (if_neg hx))).trans (by rw [hget]; rfl)
    · have hboth : ((takeCloseStage st (hasBit flags 0) (lineIdle s)).stations.get x).masked
            = (s.stations.get x).masked
          ∧ ((takeCloseStage st (hasBit flags 0) (lineIdle s)).stations.get x).grant = (s.stations.get x).grant := by
        rw [hreply]
        split
        case isTrue he =>
          subst he
          simp only [hget]
          exact ⟨rfl, rfl⟩
        case isFalse =>
          simp only [hget]
          exact ⟨rfl, rfl⟩
      exact hboth
    · have hframe := closeStage_frame st (lineIdle s)
      rw [takeCloseStage]
      generalize closeStage st (lineIdle s) = u at hframe
      rw [hframe]
      rfl

/-! ### UPDATE_ABORT (R78, R79) -/

section UpdateAbort

variable {flags : Byte} {s : State} {w : Work} {quiet : Bool} {before after : List Job}

/-- A whole UPDATE_ABORT of station 2 over the stream's job in hand takes effect at the receipt stage. -/
theorem exec_updateAbort_over (hp : s.power = .on) (ht : s.txNext = none) (ho : (s.stations.get 2).state = .opened)
    (hf : flagsOk flags = true) (hjob : streamJobInHand 2 s = true) :
    exec (.updateAbort 2 flags []) s
      = .next (recomputeAttn (giveReceipt .taken (overrideStream 2 (lineIdle s)))) := by
  refine (exec_ofFrame_room hp ht (Nat.zero_le _) 2 ReqCode.updateAbort.toByte flags).trans ?_
  have hov : overridesStream 2 (some .updateAbort) flags [] (lineIdle s) = true := by
    rw [overridesStream, hf, show streamJobInHand 2 (lineIdle s) = streamJobInHand 2 s from rfl, hjob]
    rfl
  rw [ofByte_toByte]
  simp [receiptStage, ho, hov]

/-- A station's only waiting job is the one that the queue is searched for. -/
theorem find_of_queue {st : Station} (hq : s.queue = before ++ stationJob st quiet w :: after)
    (hother : ∀ j ∈ before ++ after, j.holder ≠ some st) :
    (s.queue.find? fun j => j.holder == some st) = some (stationJob st quiet w) := by
  rw [hq, List.find?_append, List.find?_eq_none.2 fun j hj => by simpa using hother j (List.mem_append_left _ hj)]
  simp [Job.holder]

theorem filter_of_queue {st : Station} (hq : s.queue = before ++ stationJob st quiet w :: after)
    (hother : ∀ j ∈ before ++ after, j.holder ≠ some st) :
    s.queue.filter (fun j => j.holder != some st) = before ++ after := by
  have hkeep (l : List Job) (hl : ∀ j ∈ l, j.holder ≠ some st) : l.filter (fun j => j.holder != some st) = l :=
    List.filter_eq_self.2 fun j hj => by simpa using hl j hj
  rw [hq, List.filter_append, hkeep before fun j hj => hother j (List.mem_append_left _ hj),
    List.filter_cons_of_neg (by simp [Job.holder]), hkeep after fun j hj => hother j (List.mem_append_right _ hj)]

theorem requestInHand_of_queue {st : Station} (hw : requestState st s = .waiting)
    (hq : s.queue = before ++ stationJob st quiet w :: after) (hother : ∀ j ∈ before ++ after, j.holder ≠ some st) :
    requestInHand st s = some (stationJob st quiet w) := by
  obtain ⟨hrunning, -⟩ := (requestState_waiting_iff st s).1 hw
  unfold requestInHand
  split
  case h_1 r hr =>
    have hno : ¬r.holder = some st := by simpa [hr] using hrunning
    rw [if_neg hno, find_of_queue hq hother]
  case h_2 => exact find_of_queue hq hother

theorem overrideStream_waiting (hw : requestState 2 s = .waiting)
    (hq : s.queue = before ++ stationJob 2 quiet w :: after) (hother : ∀ j ∈ before ++ after, j.holder ≠ some 2) :
    overrideStream 2 s
      = placeReply 2 .aborted w.code [] quiet { s with queue := before ++ after, stream := .closed } := by
  obtain ⟨hrunning, -⟩ := (requestState_waiting_iff 2 s).1 hw
  have hwithdraw : overrideStream.withdraw 2 s
      = placeReply 2 .aborted w.code [] quiet { s with queue := before ++ after, stream := .closed } := by
    rw [overrideStream.withdraw, find_of_queue hq hother, filter_of_queue hq hother]
    rfl
  unfold overrideStream
  split
  case h_1 r hr =>
    have hno : ¬r.holder = some 2 := by simpa [hr] using hrunning
    rw [if_neg hno, hwithdraw]
  case h_2 => exact hwithdraw

end UpdateAbort

/-- Settles O15: with nothing in hand UPDATE_ABORT is a request like any other; over the stream's job the receipt stage
has it. -/
theorem updateAbortClosesStream : Obligations.UpdateAbortClosesStream := by
  intro flags s hp ht ho hf hfault
  refine ⟨fun hidle hslot => ?idle, fun before after quiet w hw hq hother hstream => ?waiting,
    fun r quiet w hr hx hj hstream => ?running⟩
  case idle =>
    refine ⟨_, (exec_passes (c := .updateAbort) ⟨⟨hp, ht, ho, hslot, hidle⟩, hf, hfault⟩ (Nat.zero_le _) nofun nofun rfl
      rfl nofun).trans ?_, rfl⟩
    simp only [takeRequest, takeUpdateAbort, lineIdle_stream]
    cases s.stream <;> rfl
  case waiting =>
    have hjob : streamJobInHand 2 s = true := by
      simp only [streamJobInHand, requestInHand_of_queue hw hq hother]
      exact hstream
    rw [exec_updateAbort_over hp ht ho hf hjob, overrideStream_waiting (s := lineIdle s) hw hq hother]
    rfl
  case running =>
    have hholder : r.holder = some 2 := by simp [Running.holder, hx, hj, Job.holder]
    have hjob : streamJobInHand 2 s = true := by
      simp only [streamJobInHand, requestInHand, hr, hholder, hj]
      exact hstream
    rw [exec_updateAbort_over hp ht ho hf hjob]
    simp only [overrideStream, lineIdle_running, hr, hholder]
    rfl

/-! ### TARGET_PREPARE and TARGET_DISCARD (R88, R89) -/

section Targets

variable {flags : Byte} {s : State} {m : Manifest} {limit n : Nat} {r : ClassRecord}

/-- The lowest number with a property, found. -/
theorem find?_finRange_of_first {n : Nat} {p : Fin n → Bool} {i : Fin n} (hi : p i = true)
    (hj : ∀ j < i, p j = false) : (List.finRange n).find? p = some i := by
  rw [List.find?_eq_some_iff_getElem]
  refine ⟨hi, i, by simp, by simp, fun j hlt => ?_⟩
  have := hj ⟨j, by omega⟩ (by simpa [Fin.lt_def] using hlt)
  simpa using this

theorem firstEmptyTarget_of_first {i : TargetNo} (hi : s.targets.get i = none)
    (hj : ∀ j < i, s.targets.get j ≠ none) : firstEmptyTarget s = some i :=
  find?_finRange_of_first (by simp [hi]) fun j hlt => by simpa [Option.isSome_iff_ne_none] using hj j hlt

theorem firstEmptyTarget_of_full (h : ∀ i, s.targets.get i ≠ none) : firstEmptyTarget s = none := by
  simpa [firstEmptyTarget, List.find?_eq_none] using h

theorem checkPrepare_streamState (h : ∀ m limit n, s.stream ≠ .verified m limit n) :
    checkPrepare s = .error .streamState := by
  unfold checkPrepare
  split
  case h_1 hs => exact absurd hs (h _ _ _)
  case h_2 => rfl

variable (hs : s.stream = .verified m limit n) (hr : s.classes.get m.cls = some r)
include hs hr

theorem checkPrepare_rollback (h : m.version < r.floor) : checkPrepare s = .error .rollback := by
  simp only [checkPrepare, hs, floorOf_of_class hr, if_pos h]

theorem checkPrepare_revoked (h : r.floor ≤ m.version) (hk : ∀ k, s.keys.get m.signer ≠ .active k) :
    checkPrepare s = .error .revoked := by
  simp only [checkPrepare, hs, floorOf_of_class hr, if_neg (Nat.not_lt.2 h), activeKey?_of_not_active hk]
  rfl

variable {k : KeyRecord} (hfloor : r.floor ≤ m.version) (hk : s.keys.get m.signer = .active k)
include hfloor hk

theorem checkPrepare_badArgument (ht : m.trial = true) (h : m.cls = 2 ∨ r.active = m.bank) :
    checkPrepare s = .error .badArgument := by
  have hbank : activeBank m.cls s = some r.active := by simp [activeBank, hr]
  simp only [checkPrepare, hs, floorOf_of_class hr, if_neg (Nat.not_lt.2 hfloor), activeKey?_of_active hk, ht, hbank]
  rcases h with h | h
  · simp [h]
  · simp [h]

/-- Past the checks of the image, the entry to fill decides. -/
theorem checkPrepare_entry (ht : m.trial = true → m.cls ≠ 2 ∧ r.active ≠ m.bank) :
    checkPrepare s = (firstEmptyTarget s).elim (.error .targetFull) fun i => .ok (i, m.target) := by
  have hbank : activeBank m.cls s = some r.active := by simp [activeBank, hr]
  have h2 : (m.trial && m.cls == 2) = false := by
    cases hm : m.trial with
    | false => rfl
    | true => simp [(ht hm).1]
  have h3 : (m.trial && some r.active == some m.bank) = false := by
    cases hm : m.trial with
    | false => rfl
    | true => simp [(ht hm).2]
  simp only [checkPrepare, hs, floorOf_of_class hr, if_neg (Nat.not_lt.2 hfloor), activeKey?_of_active hk, hbank, h2, h3]
  cases firstEmptyTarget s <;> rfl

end Targets

theorem exec_targetPrepare {flags : Byte} {s : State} (hs : Ready 2 flags s) :
    exec (.targetPrepare 2 flags []) s
      = .next (recomputeAttn (giveReceipt .taken (takeTargetPrepare 2 (hasBit flags 0) (lineIdle s)))) :=
  exec_passes (c := .targetPrepare) hs (Nat.zero_le _) nofun nofun rfl rfl nofun

/-- A refused TARGET_PREPARE answers with the stream's state and reason. -/
theorem exec_targetPrepare_refused {flags : Byte} {s : State} {x : Result} (hs : Ready 2 flags s)
    (h : checkPrepare s = .error x) :
    exec (.targetPrepare 2 flags []) s
      = .next (answered 2 x .targetPrepare (streamReason s.stream) flags (lineIdle s)) := by
  rw [exec_targetPrepare hs, takeTargetPrepare, show checkPrepare (lineIdle s) = checkPrepare s from rfl, h]
  rfl

theorem exec_targetPrepare_ok {flags : Byte} {s : State} {i : TargetNo} {t : Target} (hs : Ready 2 flags s)
    (h : checkPrepare s = .ok (i, t)) :
    exec (.targetPrepare 2 flags []) s
      = .next (answered 2 .ok .targetPrepare (targetBytes i (some t)) flags (lineIdle (fillTarget i t s))) := by
  rw [exec_targetPrepare hs, takeTargetPrepare, show checkPrepare (lineIdle s) = checkPrepare s from rfl, h]
  rfl

@[simp] theorem fin?_target (i : TargetNo) : fin? 8 (byte i).toNat = some i := fin?_byte (by decide) i

theorem exec_targetDiscard {flags b : Byte} {s : State} (hs : Ready 2 flags s) :
    exec (.targetDiscard 2 flags [b]) s
      = .next (recomputeAttn (giveReceipt .taken (takeTargetDiscard 2 (hasBit flags 0) [b] (lineIdle s)))) :=
  exec_passes (c := .targetDiscard) hs (by simp [Config.bodyCap]) nofun nofun rfl rfl nofun

/-- Settles O16: the checks of a prepare in their order, and the entry of a discard. -/
theorem targetsAreFilledAndDiscarded : Obligations.TargetsAreFilledAndDiscarded := by
  intro flags s hs
  refine ⟨fun m limit n i k r hst hr hfloor hk ht hi hj => ?fill, fun h => ?streamState,
    fun m limit n r hst hr h => ?rollback, fun m limit n r hst hr hfloor => ?later, fun b hb => ?noEntry,
    fun i t h => ?discard, fun i h => ?empty⟩
  case fill =>
    refine exec_targetPrepare_ok hs (t := m.target) ?_
    rw [checkPrepare_entry hst hr hfloor hk ht, firstEmptyTarget_of_first hi hj]
    rfl
  case streamState => exact exec_targetPrepare_refused hs (checkPrepare_streamState h)
  case rollback =>
    rw [exec_targetPrepare_refused hs (checkPrepare_rollback hst hr h), hst]
    rfl
  case later =>
    intro refused
    have hrefused {x : Result} (h : checkPrepare s = .error x) : refused x := by
      show exec _ s = _
      rw [exec_targetPrepare_refused hs h, hst]
      rfl
    refine ⟨fun hk => hrefused (checkPrepare_revoked hst hr hfloor hk), fun k hk => ⟨fun ht h => ?_, fun ht hfull => ?_⟩⟩
    · exact hrefused (checkPrepare_badArgument hst hr hfloor hk ht h)
    · refine hrefused ?_
      rw [checkPrepare_entry hst hr hfloor hk ht, firstEmptyTarget_of_full hfull]
      rfl
  case noEntry =>
    rw [exec_targetDiscard hs, takeTargetDiscard, byteAt_cons_zero, fin?_eq_none hb]
    rfl
  case discard =>
    rw [exec_targetDiscard hs, takeTargetDiscard, byteAt_cons_zero, fin?_target]
    simp only [lineIdle_targets, h]
    rfl
  case empty =>
    rw [exec_targetDiscard hs, takeTargetDiscard, byteAt_cons_zero, fin?_target]
    simp only [lineIdle_targets, h]
    rfl

end Sys2Proof.Machine
end

section
/-! PROOFS. The requests that create and erase keys, as they are taken (R5, R9, R13, R15 to R17, R19, R21, R25). -/

namespace Sys2Proof.Machine

open Sys2Proof

/-! ### The sweeps, as one equation each (R82, R83, R108, R109) -/

section Sweep

variable {s : State}

/-- The conditions after a sweep: UPDATE_REJECTED is raised when the stream has failed. -/
def sweptConditions (after : Stream) (s : State) : Tbl (Option Count) 11 :=
  if after = s.stream then s.conditions else s.conditions.set 2 (some s.time.uptime)

theorem sweptConditions_same : sweptConditions s.stream s = s.conditions := if_pos rfl

/-- The sweep for a slot changes targets, stream and conditions. -/
theorem sweepKey_eq (slot : Slot) (s : State) :
    sweepKey slot s
      = { s with
          targets := s.targets.map fun t => t.filter fun t => !(t.signer == slot)
          stream := s.stream.afterSlot slot
          conditions := sweptConditions (s.stream.afterSlot slot) s } := by
  simp only [sweepKey, failStale, dropTargets, sweptConditions]
  cases hs : s.stream with
  | receiving m | absorbing m | verified m =>
    simp only [Stream.sweepable, Stream.afterSlot, beq_iff_eq]
    split
    · simp [failStream, raiseCond, Condition.index]
    · simp
  | _ => simp [Stream.sweepable, Stream.afterSlot]

/-- The sweep for a class changes targets, stream and conditions. -/
theorem sweepClassFloor_eq (c : ClassNo) (changed : Bool) (s : State) :
    sweepClassFloor c changed s
      = { s with
          targets := s.targets.map fun t => t.filter fun t => !(t.cls == c
            && (decide (t.version < floorOf c s)
              || (changed && t.trial && (s.classes.get c).map ClassRecord.active == some t.bank)))
          stream := s.stream.afterFloor c (floorOf c s)
          conditions := sweptConditions (s.stream.afterFloor c (floorOf c s)) s } := by
  simp only [sweepClassFloor, failStale, dropTargets, sweptConditions]
  cases hs : s.stream with
  | receiving m | absorbing m | verified m =>
    simp only [Stream.sweepable, Stream.afterFloor, Bool.and_eq_true, beq_iff_eq, decide_eq_true_eq]
    split
    · simp [failStream, raiseCond, Condition.index]
    · simp
  | _ => simp [Stream.sweepable, Stream.afterFloor]

end Sweep

/-! ### The slot a creating request names (R9) -/

section Reserve

variable {b : Byte} {slot : Slot} {s : State}

theorem reservable_of_noSlot (h : 64 ≤ b.toNat) : reservable b s = .error .badArgument := by
  simp [reservable, fin?_eq_none h]

theorem fin?_of_lt {n v : Nat} (h : v < n) : fin? n v = some ⟨v, h⟩ := dif_pos h

theorem reservable_of_vendor (h : b.toNat < 6) : reservable b s = .error .notPermitted := by
  simp [reservable, fin?_of_lt (Nat.lt_trans h (by decide : 6 < 64)), isVendor, h]

theorem reservable_of_occupied (hg : 6 ≤ slot.val) (h : s.keys.get slot ≠ .empty) :
    reservable (byte slot) s = .error .slotOccupied := by
  simp [reservable, isVendor, Nat.not_lt.2 hg, h]

@[simp] theorem reservable_lineIdle (b : Byte) (s : State) : reservable b (lineIdle s) = reservable b s := rfl

end Reserve

/-! ### The body of KEY_GENERATE and KEY_IMPORT (R206) -/

section Creating

variable {b kindByte usage mask options code chain : Byte} {value : Bytes 32} {rest label : List Byte} {s : State}

theorem length_creatingBody :
    (creatingBody b kindByte usage mask options code chain value).length = 39 := by
  simp [creatingBody]

theorem creatingBody_eq : creatingBody b kindByte usage mask options code chain value ++ rest
    = b :: kindByte :: usage :: mask :: options :: code :: chain :: (value.list ++ rest) := by
  simp [creatingBody]

theorem drop_creatingBody (n : Nat) :
    (creatingBody b kindByte usage mask options code chain value ++ rest).drop (39 + n) = rest.drop n := by
  rw [List.drop_append, length_creatingBody, List.drop_eq_nil_of_le (by rw [length_creatingBody]; omega)]
  simp

theorem byteAt_creatingBody (i : Nat) :
    byteAt (creatingBody b kindByte usage mask options code chain value ++ rest) (39 + i) = byteAt rest i := by
  have h := byteAt_append (creatingBody b kindByte usage mask options code chain value) rest i
  rwa [length_creatingBody] at h

/-- The forms that a body gives a binding (R13). -/
def BindingForm (code chain : Byte) (value : Bytes 32) (binding : BindingOption) : Prop :=
  code = 0 ∧ binding = .unbound
    ∨ ∃ c : ChainNo, chain = byte c ∧ (code = 1 ∧ binding = .given { chain := c, value }
      ∨ code = 2 ∧ binding = .current c)

theorem bindingOption_of_form {binding : BindingOption} (h : BindingForm code chain value binding) :
    bindingOption (creatingBody b kindByte usage mask options code chain value ++ rest) = some binding := by
  have hvalue : bytesAt 32 (creatingBody b kindByte usage mask options code chain value ++ rest) 7 = value := by
    rw [creatingBody_eq]
    exact bytesAt_append [b, kindByte, usage, mask, options, code, chain] rest value
  simp only [bindingOption, hvalue]
  simp only [creatingBody_eq, byteAt_cons_zero, byteAt_cons_succ]
  rcases h with ⟨rfl, rfl⟩ | ⟨c, rfl, ⟨rfl, rfl⟩ | ⟨rfl, rfl⟩⟩
  · rfl
  · exact congrArg (Option.map _) (fin?_chain c)
  · exact congrArg (Option.map _) (fin?_chain c)

@[simp] theorem ofByte_kindToByte (kind : KeyKind) : KeyKind.ofByte kind.toByte = some kind := by cases kind <;> rfl

/-- KEY_GENERATE comes to the slot that it names. -/
theorem admitKeyGenerate_eq {kind : KeyKind} {binding : BindingOption} (hbits : keyBitsOk usage mask options = true)
    (hl : label.length ≤ 16) (hu : generateUsageOk kind usage = true) (hm : mask ≠ 0)
    (hb : BindingForm code chain value binding) :
    admitKeyGenerate (creatingBody b kind.toByte usage mask options code chain value ++ label) s
      = (reservable b s).map fun slot =>
          ({ slot, usage, mask, persistence := persistenceOf options, ownerHeld := hasBit options 1, binding, label },
            kind) := by
  have hkind : kind ≠ .verifying := by
    rintro rfl
    cases hu
  have hdrop : (creatingBody b kind.toByte usage mask options code chain value ++ label).drop 39 = label :=
    drop_creatingBody 0
  have hfields (i : Nat) := congrArg (fun l => byteAt l i)
    (creatingBody_eq (b := b) (kindByte := kind.toByte) (usage := usage) (mask := mask) (options := options)
      (code := code) (chain := chain) (value := value) (rest := label))
  have h0 : byteAt (creatingBody b kind.toByte usage mask options code chain value ++ label) 0 = b := hfields 0
  have h1 : byteAt (creatingBody b kind.toByte usage mask options code chain value ++ label) 1 = kind.toByte := hfields 1
  have h2 : byteAt (creatingBody b kind.toByte usage mask options code chain value ++ label) 2 = usage := hfields 2
  have h3 : byteAt (creatingBody b kind.toByte usage mask options code chain value ++ label) 3 = mask := hfields 3
  have h4 : byteAt (creatingBody b kind.toByte usage mask options code chain value ++ label) 4 = options := hfields 4
  have hmask : (mask == 0) = false := by simpa using hm
  simp only [admitKeyGenerate, h0, h1, h2, h3, h4, hdrop, hbits, ofByte_kindToByte, hu, hmask, bindingOption_of_form hb,
    if_neg (Nat.not_lt.2 hl)]
  cases kind with
  | verifying => exact absurd rfl hkind
  | _ => cases reservable b s <;> rfl

/-- The record that a KEY_IMPORT asks for. -/
def importParams (slot : Slot) (usage mask options : Byte) (owner : Bool) (binding : BindingOption)
    (label : List Byte) : NewKey :=
  { slot, usage, mask, persistence := persistenceOf options, ownerHeld := hasBit options 1 || owner, binding, label }

/-- KEY_IMPORT comes to the slot that it names; an owner update key is persistent and unbound, and the table has room
for it (R16). -/
theorem admitKeyImport_eq {kind : KeyKind} {binding : BindingOption} {field : List Byte} {material : Material}
    (hbits : keyBitsOk usage mask options = true) (hl : label.length ≤ 16) (hf : field.length < 256)
    (hmaterial : importMaterial kind field = some material) (hu : importUsageOk kind usage = true) (hm : mask ≠ 0)
    (hb : BindingForm code chain value binding)
    (howner : (kind.toByte == 2 && usage == 0x10) = true →
      hasBit options 0 = false ∧ binding = .unbound ∧ ownerUpdateCount s < 2) :
    admitKeyImport (creatingBody b kind.toByte usage mask options code chain value
        ++ byte field.length :: (field ++ label)) s
      = (reservable b s).map fun slot =>
          (importParams slot usage mask options (kind.toByte == 2 && usage == 0x10) binding label, material) := by
  generalize hbody : creatingBody b kind.toByte usage mask options code chain value
    ++ byte field.length :: (field ++ label) = body
  have hcons : body = b :: kind.toByte :: usage :: mask :: options :: code :: chain ::
      (value.list ++ byte field.length :: (field ++ label)) := by rw [← hbody, creatingBody_eq]
  have h0 : byteAt body 0 = b := by rw [hcons]; rfl
  have h1 : byteAt body 1 = kind.toByte := by rw [hcons]; rfl
  have h2 : byteAt body 2 = usage := by rw [hcons]; rfl
  have h3 : byteAt body 3 = mask := by rw [hcons]; rfl
  have h4 : byteAt body 4 = options := by rw [hcons]; rfl
  have h39 : (byteAt body 39).toNat = field.length := by
    rw [← hbody, byteAt_creatingBody 0]
    simpa [byte] using hf
  have hdrop : body.drop (40 + field.length) = label := by
    rw [← hbody, show 40 + field.length = 39 + (1 + field.length) by omega, drop_creatingBody,
      Nat.add_comm 1, List.drop_succ_cons, List.drop_left]
  have hslice : slice body 40 field.length = field := by
    rw [← hbody, slice, show 40 = 39 + 1 from rfl, drop_creatingBody, List.drop_succ_cons, List.drop_zero,
      List.take_left]
  have hlength : body.length = 40 + field.length + label.length := by
    rw [← hbody, List.length_append, length_creatingBody]
    simp
    omega
  have hbinding : bindingOption body = some binding := hbody ▸ bindingOption_of_form hb
  have hown : importsOwnerUpdate body = (kind.toByte == 2 && usage == 0x10) := by rw [importsOwnerUpdate, h1, h2]
  have hmask : (mask == 0) = false := by simpa using hm
  have hshort : (decide (body.length < 40 + field.length) || decide (16 < label.length)) = false := by
    rw [hlength]
    simp
    omega
  have hpersist : (importsOwnerUpdate body && (persistenceOf options != .persistent || binding != .unbound)) = false := by
    rw [hown, Bool.and_eq_false_iff]
    cases ho : (kind.toByte == 2 && usage == 0x10) with
    | false => exact .inl rfl
    | true =>
      obtain ⟨h0, hunbound, -⟩ := howner ho
      simp [persistenceOf, h0, hunbound]
  have hroom : (importsOwnerUpdate body && decide (Config.ownerUpdateCap ≤ ownerUpdateCount s)) = false := by
    rw [hown, Bool.and_eq_false_iff]
    cases ho : (kind.toByte == 2 && usage == 0x10) with
    | false => exact .inl rfl
    | true => exact .inr (decide_eq_false (Nat.not_le.2 (howner ho).2.2))
  have hkind : kind ≠ .signing := by
    rintro rfl
    cases hu
  simp only [admitKeyImport, h0, h1, h2, h3, h4, h39, hdrop, hslice, hbits, hshort, ofByte_kindToByte, hmaterial, hu,
    hmask, hbinding, hpersist, hroom]
  cases kind with
  | signing => exact absurd rfl hkind
  | _ => cases reservable b s <;> simp only [hown] <;> rfl

theorem importsOwnerUpdate_creatingBody :
    importsOwnerUpdate (creatingBody b kindByte usage mask options code chain value ++ rest)
      = (kindByte == 2 && usage == 0x10) := by
  rw [creatingBody_eq]
  rfl

end Creating

section Take

variable {st : Station} {flags b kindByte usage mask options code chain : Byte} {value : Bytes 32}
  {rest label : List Byte} {s : State} {slot : Slot}

theorem exec_keyGenerate (hs : Ready st flags s) (hl : label.length ≤ 16)
    (hg : hasBit options 1 = true → (s.stations.get st).grant ≠ none) :
    exec (.keyGenerate st flags (creatingBody b kindByte usage mask options code chain value ++ label)) s
      = .next (recomputeAttn (giveReceipt .taken (takeKeyGenerate st (hasBit flags 0)
          (creatingBody b kindByte usage mask options code chain value ++ label) (lineIdle s)))) := by
  have hlen : (creatingBody b kindByte usage mask options code chain value ++ label).length = 39 + label.length := by
    rw [List.length_append, length_creatingBody]
  refine exec_passes (c := .keyGenerate) hs ?_ nofun nofun ?_ rfl fun h => hg ?_
  · rw [hlen, Config.bodyCap]
    omega
  · simp [lengthOk, hlen]
  · rw [creatingBody_eq] at h
    exact h

theorem exec_keyImport (hs : Ready st flags s) (hl : 1 ≤ rest.length) (hcap : rest.length ≤ 1000)
    (hg : (hasBit options 1 || (kindByte == 2 && usage == 0x10)) = true → (s.stations.get st).grant ≠ none) :
    exec (.keyImport st flags (creatingBody b kindByte usage mask options code chain value ++ rest)) s
      = .next (recomputeAttn (giveReceipt .taken (takeKeyImport st (hasBit flags 0)
          (creatingBody b kindByte usage mask options code chain value ++ rest) (lineIdle s)))) := by
  have hlen : (creatingBody b kindByte usage mask options code chain value ++ rest).length = 39 + rest.length := by
    rw [List.length_append, length_creatingBody]
  refine exec_passes (c := .keyImport) hs ?_ nofun nofun ?_ rfl fun h => hg ?_
  · rw [hlen, Config.bodyCap]
    omega
  · simp only [lengthOk, hlen, decide_eq_true_eq]
    omega
  · rw [creatingBody_eq] at h
    exact h

/-- The slot that a KEY_GENERATE names decides: it is refused, or the slot is reserved. -/
theorem keyGenerate_of_slot {kind : KeyKind} {binding : BindingOption} (hs : Ready st flags s)
    (hbits : keyBitsOk usage mask options = true) (hl : label.length ≤ 16) (hu : generateUsageOk kind usage = true)
    (hm : mask ≠ 0) (hb : BindingForm code chain value binding)
    (hg : hasBit options 1 = true → (s.stations.get st).grant ≠ none) :
    (∀ r, reservable b s = .error r →
        exec (.keyGenerate st flags (creatingBody b kind.toByte usage mask options code chain value ++ label)) s
          = .next (answered st r .keyGenerate [] flags (lineIdle s)))
      ∧ ∀ slot, reservable b s = .ok slot →
        exec (.keyGenerate st flags (creatingBody b kind.toByte usage mask options code chain value ++ label)) s
          = .next (queued st (.keyGenerate
              { slot, usage, mask, persistence := persistenceOf options, ownerHeld := hasBit options 1, binding, label }
              kind) flags (lineIdle { s with keys := s.keys.set slot (.reserved false) })) := by
  have hexec := exec_keyGenerate (b := b) (kindByte := kind.toByte) (usage := usage) (mask := mask) (code := code)
    (chain := chain) (value := value) hs hl hg
  refine ⟨fun r hr => hexec.trans ?_, fun slot hr => hexec.trans ?_⟩
  all_goals rw [takeKeyGenerate, admitKeyGenerate_eq hbits hl hu hm hb, reservable_lineIdle, hr]; rfl

/-- The slot that a KEY_IMPORT names decides: it is refused, or the slot is reserved. -/
theorem keyImport_of_slot {kind : KeyKind} {binding : BindingOption} {field : List Byte} {material : Material}
    (hs : Ready st flags s) (hbits : keyBitsOk usage mask options = true) (hl : label.length ≤ 16)
    (hf : field.length < 256) (hmaterial : importMaterial kind field = some material)
    (hu : importUsageOk kind usage = true) (hm : mask ≠ 0) (hb : BindingForm code chain value binding)
    (howner : (kind.toByte == 2 && usage == 0x10) = true →
      hasBit options 0 = false ∧ binding = .unbound ∧ ownerUpdateCount s < 2)
    (hg : (hasBit options 1 || (kind.toByte == 2 && usage == 0x10)) = true → (s.stations.get st).grant ≠ none) :
    (∀ r, reservable b s = .error r →
        exec (.keyImport st flags (creatingBody b kind.toByte usage mask options code chain value
            ++ byte field.length :: (field ++ label))) s
          = .next (answered st r .keyImport [] flags (lineIdle s)))
      ∧ ∀ slot, reservable b s = .ok slot →
        exec (.keyImport st flags (creatingBody b kind.toByte usage mask options code chain value
            ++ byte field.length :: (field ++ label))) s
          = .next (queued st (.keyImport
              (importParams slot usage mask options (kind.toByte == 2 && usage == 0x10) binding label) material) flags
              (lineIdle { s with keys := s.keys.set slot (.reserved (kind.toByte == 2 && usage == 0x10)) })) := by
  have hexec := exec_keyImport (b := b) (kindByte := kind.toByte) (usage := usage) (mask := mask) (code := code)
    (chain := chain) (value := value) (rest := byte field.length :: (field ++ label)) hs (by simp) (by simp; omega) hg
  have hadmit := admitKeyImport_eq (b := b) (s := lineIdle s) hbits hl hf hmaterial hu hm hb howner
  refine ⟨fun r hr => hexec.trans ?_, fun slot hr => hexec.trans ?_⟩
  all_goals rw [takeKeyImport, hadmit, reservable_lineIdle, hr, importsOwnerUpdate_creatingBody]; rfl

theorem keyBitsOk_of {usage mask options : Byte} (hu : usage &&& 0xC0 = 0) (hm : mask &&& 0xF0 = 0)
    (ho : options &&& 0xFC = 0) : keyBitsOk usage mask options = true := by
  simp only [keyBitsOk, Bool.and_eq_true]
  exact ⟨⟨beq_iff_eq.2 hu, beq_iff_eq.2 hm⟩, beq_iff_eq.2 ho⟩

theorem bytesAt_list {n : Nat} (v : Bytes n) : bytesAt n v.list 0 = v := by simpa using bytesAt_append [] [] v

@[simp] theorem importMaterial_secret (v : Bytes 32) : importMaterial .secret v.list = some (.secret v) := by
  simp [importMaterial, bytesAt_list]

@[simp] theorem importMaterial_verifying (pub : Bytes 64) :
    importMaterial .verifying pub.list = some (.verifying pub) := by
  simp [importMaterial, bytesAt_list]

end Take

/-- Settles O18: each kind with its usages comes to the slot, which is EMPTY. -/
theorem creatingRequestsReserve : Obligations.CreatingRequestsReserve := by
  intro st flags mask options chain value label slot s hs hslot hempty hmask hmask' hoptions hl params bindingForm
  have hreserve := reservable_of_empty hslot hempty
  refine ⟨fun code binding usage kind hb hkind hg => ⟨?generate, fun v hsecret => ?secret⟩,
    fun code binding pub hb hg => ?verifying, fun pub h0 hg hcount => ?owner⟩
  case generate =>
    have hu : generateUsageOk kind usage = true ∧ usage &&& 0xC0 = 0 := by
      rcases hkind with ⟨rfl, rfl | rfl | rfl⟩ | ⟨rfl, rfl⟩ <;> decide
    exact (keyGenerate_of_slot hs (keyBitsOk_of hu.2 hmask' hoptions) hl hu.1 hmask hb hg).2 slot hreserve
  case secret =>
    obtain rfl : usage = 0x20 := by
      rcases hkind with ⟨rfl, -⟩ | ⟨-, h⟩
      · cases hsecret
      · exact h
    have h := (keyImport_of_slot (kind := .secret) (usage := 0x20) hs (keyBitsOk_of (by decide) hmask' hoptions) hl
      (by simp) (importMaterial_secret v) rfl hmask hb (fun h => absurd h (by decide)) (fun h => hg (by simpa using h))).2 slot hreserve
    have hparams : importParams slot 0x20 mask options (KeyKind.secret.toByte == 2 && (0x20 : Byte) == 0x10) binding label
        = params 0x20 (hasBit options 1) binding := by
      simp only [importParams, show (KeyKind.secret.toByte == 2 && (0x20 : Byte) == 0x10) = false from rfl, Bool.or_false]
      rfl
    rw [hparams, Tbl.length_list] at h
    exact h
  case verifying =>
    have h := (keyImport_of_slot (kind := .verifying) (usage := 0x04) hs (keyBitsOk_of (by decide) hmask' hoptions) hl
      (by simp) (importMaterial_verifying pub) rfl hmask hb (fun h => absurd h (by decide)) (fun h => hg (by simpa [KeyKind.toByte] using h))).2 slot hreserve
    have hparams : importParams slot 0x04 mask options (KeyKind.verifying.toByte == 2 && (0x04 : Byte) == 0x10) binding label
        = params 0x04 (hasBit options 1) binding := by
      simp only [importParams, show (KeyKind.verifying.toByte == 2 && (0x04 : Byte) == 0x10) = false from rfl, Bool.or_false]
      rfl
    rw [hparams, Tbl.length_list] at h
    exact h
  case owner =>
    have h := (keyImport_of_slot (kind := .verifying) (usage := 0x10) (code := 0) (chain := chain) (value := value) hs
      (keyBitsOk_of (by decide) hmask' hoptions) hl (by simp) (importMaterial_verifying pub) rfl hmask
      (.inl ⟨rfl, rfl⟩) (fun _ => ⟨h0, rfl, hcount⟩) (fun _ => hg)).2 slot hreserve
    have hparams : importParams slot 0x10 mask options (KeyKind.verifying.toByte == 2 && (0x10 : Byte) == 0x10) .unbound label
        = params 0x10 true .unbound := by
      simp only [importParams, show (KeyKind.verifying.toByte == 2 && (0x10 : Byte) == 0x10) = true from rfl, Bool.or_true]
      rfl
    rw [hparams, Tbl.length_list] at h
    exact h

/-! ### KEY_DERIVE's target and KEY_ERASE (R21, R25) -/

section Erase

variable {st : Station} {flags b : Byte} {s : State} {slot : Slot}

/-- A parent that may derive gives its child the usage DERIVE_SESSION. -/
theorem usage_within_derive {usage : Byte} (h : hasBit usage 5 = true) : (0x20 : Byte) &&& ~~~usage = 0 := by
  revert usage
  decide

/-- A KEY_DERIVE that passes its parent's checks comes to its target. -/
theorem keyDerive_of_refused {mask : Byte} {parent : Slot} {k : KeyRecord} {derivation label : List Byte} {r : Result}
    (hs : Ready st flags s) (hm : mask &&& 0xF0 = 0) (hl : label.length ≤ 16) (hd1 : 1 ≤ derivation.length)
    (hd32 : derivation.length ≤ 32) (h : MayUse parent 5 st k s) (hkm : mask &&& k.mask ≠ 0)
    (hr : reservable b s = .error r) :
    exec (.keyDerive st flags (deriveBody (byte parent) b 0x20 mask derivation label)) s
      = .next (answered st r .keyDerive [] flags (lineIdle s)) := by
  have hadmit : admitKeyDerive st (deriveBody (byte parent) b 0x20 mask derivation label) (lineIdle s) = .error r := by
    simp only [admitKeyDerive, deriveBody_length_field hd32, length_deriveBody, deriveBody_label,
      deriveBody_usage, deriveBody_mask, deriveBody_parent, deriveBody_target, useChecks_lineIdle, reservable_lineIdle,
      keyBitsOk_of_zero (usage := 0x20) (by decide) hm, useChecks_of_mayUse h, hr]
    rw [if_neg (by simp), if_neg (by simp only [Bool.or_eq_true, decide_eq_true_eq]; omega),
      if_neg (by simpa using usage_within_derive h.2.1), if_neg (by simpa using hkm)]
  refine (exec_keyDerive hs hd32 hl).trans ?_
  rw [takeKeyDerive, hadmit]
  rfl

theorem exec_keyErase (hs : Ready st flags s)
    (hg : needsGrant .keyErase st [b] s = true → (s.stations.get st).grant ≠ none) :
    exec (.keyErase st flags [b]) s
      = .next (recomputeAttn (giveReceipt .taken (takeKeyErase st (hasBit flags 0) [b] (lineIdle s)))) :=
  exec_passes (c := .keyErase) hs (by simp [Config.bodyCap]) nofun nofun rfl rfl hg

theorem needsGrant_keyErase_noSlot (h : 64 ≤ b.toNat) : needsGrant .keyErase st [b] s = false := by
  simp [needsGrant, fin?_eq_none h]

theorem needsGrant_keyErase (slot : Slot) :
    needsGrant .keyErase st [byte slot] s = (activeKey? slot s).any KeyRecord.ownerHeld := by
  simp only [needsGrant, byteAt_cons_zero, fin?_slot]

theorem exec_keyErase_refused {r : Result} (hs : Ready st flags s)
    (hg : needsGrant .keyErase st [b] s = true → (s.stations.get st).grant ≠ none)
    (h : admitKeyErase st [b] s = .error r) :
    exec (.keyErase st flags [b]) s = .next (answered st r .keyErase [] flags (lineIdle s)) := by
  rw [exec_keyErase hs hg, takeKeyErase, show admitKeyErase st [b] (lineIdle s) = admitKeyErase st [b] s from rfl, h]
  rfl

theorem admitKeyErase_active {k : KeyRecord} (hg : 6 ≤ slot.val) (hk : s.keys.get slot = .active k)
    (hm : hasBit k.mask st = true) : admitKeyErase st [byte slot] s = .ok (slot, k) := by
  simp only [admitKeyErase, byteAt_cons_zero, fin?_slot, activeKey?_of_active hk, hm]
  simp [isVendor, Nat.not_lt.2 hg]

end Erase

/-- Settles O19: the named slot decides; an EPOCH key goes at once, and the sweep follows. -/
theorem erasingAndVendorSlots : Obligations.ErasingAndVendorSlots := by
  refine ⟨fun st flags b mask chain value label s hs hmask hmask' hl => ?slots,
    fun st flags slot k s hs hslot hk hm hgrant => ⟨fun hp => ?persistent, fun hp => ?epoch⟩⟩
  case slots =>
    intro creating erase
    have hcreating {r : Result} (hr : reservable b s = .error r) : creating r := by
      refine ⟨?_, fun v => ?_, fun parent k derivation h hkm hd1 hd32 => ?_⟩
      · exact (keyGenerate_of_slot (kind := .signing) (usage := 2) (options := 0) (code := 0) (chain := chain)
          (value := value) hs (keyBitsOk_of (by decide) hmask' (by decide)) hl rfl hmask (.inl ⟨rfl, rfl⟩)
          (fun h => absurd h (by decide))).1 r hr
      · have h := (keyImport_of_slot (kind := .secret) (usage := 0x20) (options := 0) (code := 0) (chain := chain)
          (value := value) (field := v.list) hs (keyBitsOk_of (by decide) hmask' (by decide)) hl (by simp)
          (importMaterial_secret v) rfl hmask (.inl ⟨rfl, rfl⟩) (fun h => absurd h (by decide))
          (fun h => absurd h (by decide))).1 r hr
        rw [Tbl.length_list] at h
        exact h
      · exact keyDerive_of_refused hs hmask' hl hd1 hd32 h hkm hr
    refine ⟨fun h64 => ⟨hcreating (reservable_of_noSlot h64), ?_⟩, fun h6 => hcreating (reservable_of_vendor h6),
      fun h6 howner => ?_, ?_⟩
    · refine exec_keyErase_refused hs (fun h => ?_) ?_
      · rw [needsGrant_keyErase_noSlot h64] at h
        cases h
      · simp [admitKeyErase, fin?_eq_none h64]
    · have h64 : b.toNat < 64 := Nat.lt_trans h6 (by decide)
      have hb : b = byte (⟨b.toNat, h64⟩ : Slot) := by simp [byte]
      refine exec_keyErase_refused hs (fun h => ?_) ?_
      · rw [hb, needsGrant_keyErase, Option.any_eq_true] at h
        obtain ⟨k, hk, hheld⟩ := h
        have hactive : s.keys.get (⟨b.toNat, h64⟩ : Slot) = .active k := by
          unfold activeKey? at hk
          split at hk
          case h_1 k' hk' =>
            cases hk
            exact hk'
          case h_2 => cases hk
        rw [howner _ hb k hactive] at hheld
        cases hheld
      · simp [admitKeyErase, fin?_of_lt h64, isVendor, h6]
    · rintro slot rfl hg
      refine ⟨fun hne => hcreating (reservable_of_occupied hg hne), fun hno => ?_⟩
      refine exec_keyErase_refused hs (fun h => ?_) ?_
      · rw [needsGrant_keyErase, activeKey?_of_not_active hno] at h
        cases h
      · simp [admitKeyErase, isVendor, Nat.not_lt.2 hg, activeKey?_of_not_active hno]
  all_goals
    have hneeds : needsGrant .keyErase st [byte slot] s = true → (s.stations.get st).grant ≠ none := by
      rw [needsGrant_keyErase, activeKey?_of_active hk]
      exact hgrant
    have hadmit := admitKeyErase_active (s := lineIdle s) hslot hk hm
  case persistent =>
    rw [exec_keyErase hs hneeds, takeKeyErase, hadmit]
    simp only [hp]
    rfl
  case epoch =>
    refine ⟨_, exec_keyErase hs hneeds, ?_⟩
    rw [takeKeyErase, hadmit]
    simp only [hp, eraseAndSweep, sweepKey_eq]
    refine ⟨rfl, rfl, fun i => ?_, ?_, fun h => ?_, fun h => ?_, rfl⟩
    · show ((s.targets.map _).get i) = _
      rw [Tbl.get_map]
      exact congrArg (fun p => (s.targets.get i).filter p) (funext fun x => by by_cases h : x.signer = slot <;> simp [h])
    · show s.stream.afterSlot slot = _
      cases s.stream <;> rfl
    · exact if_pos h
    · exact if_neg h

end Sys2Proof.Machine
end

section
/-! PROOFS. The requests of the stream, of activation and confirm, of the credentials and of the owner, as they are taken
(R68, R73, R93, R106, R118 to R127, R175, R202). -/

namespace Sys2Proof.Machine

open Sys2Proof

/-! ### UPDATE_OPEN and UPDATE_DATA (R68, R73) -/

section Stream

variable {flags code : Byte} {raw chunk : List Byte} {s : State}

theorem exec_updateOpen (hs : Ready 2 flags s) (h1 : 1 ≤ raw.length) (h512 : raw.length ≤ 512) :
    exec (.updateOpen 2 flags (code :: raw)) s
      = .next (recomputeAttn (giveReceipt .taken (takeUpdateOpen 2 (hasBit flags 0) (code :: raw) (lineIdle s)))) := by
  refine exec_passes (c := .updateOpen) hs (by simp [Config.bodyCap]; omega) nofun nofun ?_ rfl nofun
  simp only [lengthOk, List.length_cons, Bool.and_eq_true, decide_eq_true_eq]
  omega

/-- The chunk limit of a code is that of codes 1 and 2, or the least. -/
theorem chunkLimit_eq (code : Byte) : chunkLimit code = if code = 1 then 512 else if code = 2 then 1024 else 256 := by
  unfold chunkLimit
  split
  case h_1 h => rw [if_pos (BitVec.eq_of_toNat_eq h)]
  case h_2 h =>
    obtain rfl : code = 2 := BitVec.eq_of_toNat_eq h
    rfl
  case h_3 h1 h2 =>
    rw [if_neg fun h => h1 (by rw [h]; rfl), if_neg fun h => h2 (by rw [h]; rfl)]

theorem updateOpen_of_replaceable (hs : Ready 2 flags s) (h1 : 1 ≤ raw.length) (h512 : raw.length ≤ 512)
    (h : s.stream.replaceable = true) :
    exec (.updateOpen 2 flags (code :: raw)) s
      = .next (queued 2 .updateOpen flags (lineIdle { s with stream := .checking raw (chunkLimit code) })) := by
  rw [exec_updateOpen hs h1 h512, takeUpdateOpen, if_pos (show (lineIdle s).stream.replaceable = true from h)]
  rfl

theorem updateOpen_of_busy (hs : Ready 2 flags s) (h1 : 1 ≤ raw.length) (h512 : raw.length ≤ 512)
    (h : s.stream.replaceable = false) :
    exec (.updateOpen 2 flags (code :: raw)) s
      = .next (answered 2 .streamState .updateOpen (streamReason s.stream) flags (lineIdle s)) := by
  rw [exec_updateOpen hs h1 h512, takeUpdateOpen,
    if_neg (show ¬(lineIdle s).stream.replaceable = true by simp [h])]
  rfl

theorem exec_updateData (hs : Ready 2 flags s) (h1 : 1 ≤ chunk.length) (h1100 : chunk.length ≤ 1100) :
    exec (.updateData 2 flags chunk) s
      = .next (recomputeAttn (giveReceipt .taken (takeUpdateData 2 (hasBit flags 0) chunk (lineIdle s)))) := by
  refine exec_passes (c := .updateData) hs h1100 nofun nofun ?_ rfl nofun
  simp only [lengthOk, Bool.and_eq_true, decide_eq_true_eq]
  omega

end Stream

/-- Settles O21: the stream's state decides, and for a chunk its limits. -/
theorem streamRequestsAreTaken : Obligations.StreamRequestsAreTaken := by
  refine ⟨fun flags code raw s hs h1 h512 => ⟨fun h => ?replaced, fun m l n a d h => ?receiving, fun h => ?busy⟩,
    fun flags chunk s hs h1 h1100 => ⟨fun m limit n absorbed deadline h => ⟨fun hfit himage => ?fits, fun hbad => ?unfit⟩,
      fun h => ?other⟩⟩
  case replaced =>
    rw [← chunkLimit_eq]
    refine updateOpen_of_replaceable hs h1 h512 ?_
    rcases h with h | ⟨x, l, n, r, h⟩ | ⟨m, l, n, h⟩ <;> rw [h] <;> rfl
  case receiving =>
    rw [updateOpen_of_busy hs h1 h512 (by rw [h]; rfl), h]
    rfl
  case busy =>
    rcases h with ⟨x, l, h⟩ | ⟨m, l, n, a, h⟩
    all_goals
      rw [updateOpen_of_busy hs h1 h512 (by rw [h]; rfl), h]
      rfl
  all_goals rw [exec_updateData hs h1 h1100]
  case fits =>
    have hgood : (decide (limit < chunk.length) || decide (m.imageLength < n + chunk.length)) = false := by
      simp
      omega
    simp only [takeUpdateData, lineIdle_stream, h, hgood]
    rfl
  case unfit =>
    have hno : (decide (limit < chunk.length) || decide (m.imageLength < n + chunk.length)) = true := by
      simpa using hbad
    simp only [takeUpdateData, lineIdle_stream, h, hno, failStream]
    rfl
  case other =>
    unfold takeUpdateData
    split
    case h_1 m l n a d hst => exact absurd hst (h m l n a d)
    case h_2 => rfl

/-! ### TARGET_ACTIVATE and BOOT_CONFIRM (R93, R106) -/

section Activate

variable {flags b : Byte} {s : State}

theorem exec_targetActivate (hs : Ready 2 flags s) :
    exec (.targetActivate 2 flags [b]) s
      = .next (recomputeAttn (giveReceipt .taken
          (takeWork .targetActivate 2 (hasBit flags 0) (admitTargetActivate [b] s) (lineIdle s)))) :=
  exec_passes (c := .targetActivate) hs (by simp [Config.bodyCap]) nofun nofun rfl rfl nofun

theorem exec_bootConfirm (hs : Ready 2 flags s) :
    exec (.bootConfirm 2 flags [b]) s
      = .next (recomputeAttn (giveReceipt .taken (takeBootConfirm 2 (hasBit flags 0) [b] (lineIdle s)))) :=
  exec_passes (c := .bootConfirm) hs (by simp [Config.bodyCap]) nofun nofun rfl rfl nofun

theorem exec_bootConfirm_refused {r : Result} (hs : Ready 2 flags s) (h : admitBootConfirm [b] s = .error r) :
    exec (.bootConfirm 2 flags [b]) s = .next (answered 2 r .bootConfirm [] flags (lineIdle s)) := by
  rw [exec_bootConfirm hs, takeBootConfirm, show admitBootConfirm [b] (lineIdle s) = admitBootConfirm [b] s from rfl, h]
  rfl

theorem trialBooting_of_booting {c : ClassNo} {r : ClassRecord} {bank : Bank} {n : Nat} (hr : s.classes.get c = some r)
    (h : r.state = .booting bank n) : trialBooting c s = true := by
  simp [trialBooting, hr, h]

theorem trialBooting_of_not {c : ClassNo} {r : ClassRecord} (hr : s.classes.get c = some r)
    (h : ∀ bank n, r.state ≠ .booting bank n) : trialBooting c s = false := by
  cases hst : r.state with
  | booting bank n => exact absurd hst (h bank n)
  | _ => simp [trialBooting, hr, hst]

end Activate

/-- Settles O22: the entry's, the class's and the timer's states decide. -/
theorem activateAndConfirmAreTaken : Obligations.ActivateAndConfirmAreTaken := by
  intro flags b s hs activate confirm
  have hconfirm {r : Result} (h : admitBootConfirm [b] s = .error r) : confirm r := exec_bootConfirm_refused hs h
  refine ⟨fun h8 => ?noEntry, fun h4 => hconfirm (by simp [admitBootConfirm, fin?_eq_none h4]), ?entry, ?image⟩
  case noEntry =>
    show exec _ s = _
    rw [exec_targetActivate hs, admitTargetActivate, byteAt_cons_zero, fin?_eq_none h8]
    rfl
  case entry =>
    rintro i rfl
    refine ⟨fun h => (exec_targetActivate hs).trans ?_, fun h => (exec_targetActivate hs).trans ?_⟩
    · simp only [admitTargetActivate, byteAt_cons_zero, fin?_target, h]
      rfl
    · simp only [admitTargetActivate, byteAt_cons_zero, fin?_target, Option.isSome_iff_ne_none.2 h]
      rfl
  case image =>
    rintro c r rfl hr
    refine ⟨fun hno => hconfirm ?_, fun bank n hst => ?_⟩
    · simp only [admitBootConfirm, byteAt_cons_zero, fin?_class, trialBooting_of_not hr hno]
      rfl
    · have hbooting := trialBooting_of_booting hr hst
      refine ⟨fun ht => hconfirm ?_, fun ht => hconfirm ?_, fun d reached ht => (exec_bootConfirm hs).trans ?_⟩
      · simp only [admitBootConfirm, byteAt_cons_zero, fin?_class, hbooting, ht]
        rfl
      · simp only [admitBootConfirm, byteAt_cons_zero, fin?_class, hbooting, ht]
        rfl
      · have hadmit : admitBootConfirm [byte c] (lineIdle s) = .ok c := by
          simp only [admitBootConfirm, byteAt_cons_zero, fin?_class,
            show trialBooting c (lineIdle s) = true from hbooting, lineIdle_timer, ht]
          rfl
        rw [takeBootConfirm, hadmit]
        rfl

/-! ### CRED_SET (R118, R120) -/

/-- The kinds, rights and release masks that a CRED_SET may have (R118). -/
def CredForm (kind : CredKind) (rights mask : Byte) (id : CredId) : Prop :=
  kind = .verifier ∧ mask = 0 ∧ (rights = 0 ∧ id ≠ 0 ∨ rights = 1)
    ∨ kind = .secret ∧ (mask = 4 ∨ mask = 8 ∨ mask = 12) ∧ (rights = 0 ∨ rights = 2) ∧ id ≠ 0

/-- The body of a CRED_SET (R206). -/
def credBody (id : CredId) (kind : CredKind) (rights mask : Byte) (label secret : List Byte) : List Byte :=
  [byte id, kind.toByte, rights, mask, byte label.length] ++ label ++ secret

/-- What a CRED_SET asks for. -/
def credParams (id : CredId) (kind : CredKind) (rights mask : Byte) (label secret : List Byte) : CredParams :=
  { id, kind, label, grants := hasBit rights 0, freeRelease := hasBit rights 1, releaseMask := mask, secret }

section CredSet

variable {st : Station} {flags rights mask : Byte} {kind : CredKind} {id : CredId} {label secret : List Byte} {s : State}

/-- A form passes the checks of the rights and of the release mask, in their order. -/
theorem credForm_checks (h : CredForm kind rights mask id) :
    ((mask &&& 0xF0) != 0) = false ∧ ((rights &&& 0xFC) != 0) = false
      ∧ ((kind == .secret && hasBit rights 0) || (kind == .verifier && hasBit rights 1)
          || (id == 0 && (kind == .secret || !hasBit rights 0))) = false
      ∧ ((kind == .verifier && mask != 0)
          || (kind == .secret && (mask == 0 || (mask &&& 0x03) != 0))) = false := by
  rcases h with ⟨rfl, rfl, ⟨rfl, hid⟩ | rfl⟩ | ⟨rfl, hmask, hrights, hid⟩
  · have h0 : (id == 0) = false := by simpa using hid
    exact ⟨rfl, rfl, by rw [h0]; rfl, rfl⟩
  · exact ⟨rfl, rfl, by cases id == 0 <;> rfl, rfl⟩
  · have h0 : (id == 0) = false := by simpa using hid
    rw [h0]
    rcases hmask with rfl | rfl | rfl <;> rcases hrights with rfl | rfl <;> decide

@[simp] theorem ofByte_credToByte (kind : CredKind) : CredKind.ofByte kind.toByte = some kind := by cases kind <;> rfl

/-- Past its checks, CRED_SET comes to the state of the id. -/
theorem admitCredSet_eq (h : CredForm kind rights mask id) (hl : label.length ≤ 24) (h1 : 1 ≤ secret.length)
    (h64 : secret.length ≤ 64) :
    (s.creds.get id = .reserved → admitCredSet (credBody id kind rights mask label secret) s = .error .slotOccupied)
      ∧ (s.creds.get id = .empty → admitCredSet (credBody id kind rights mask label secret) s
          = .ok (.credSet (credParams id kind rights mask label secret) false (id != 0)))
      ∧ ∀ r, s.creds.get id = .held r → admitCredSet (credBody id kind rights mask label secret) s
          = .ok (.credSet (credParams id kind rights mask label secret) true true) := by
  obtain ⟨hmask, hrights, hkind, hrelease⟩ := credForm_checks h
  have h4 : (byteAt (credBody id kind rights mask label secret) 4).toNat = label.length := by
    have : byteAt (credBody id kind rights mask label secret) 4 = byte label.length := rfl
    rw [this, byte, BitVec.toNat_ofNat, Nat.mod_eq_of_lt (by omega)]
  have h0 : byteAt (credBody id kind rights mask label secret) 0 = byte id := rfl
  have hk : byteAt (credBody id kind rights mask label secret) 1 = kind.toByte := rfl
  have h2 : byteAt (credBody id kind rights mask label secret) 2 = rights := rfl
  have h3 : byteAt (credBody id kind rights mask label secret) 3 = mask := rfl
  have hslice : slice (credBody id kind rights mask label secret) 5 label.length = label := by
    rw [credBody, List.append_assoc]
    exact slice_append [byte id, kind.toByte, rights, mask, byte label.length] label secret
  have hdrop : (credBody id kind rights mask label secret).drop (5 + label.length) = secret := by
    rw [credBody]
    exact List.drop_left' (by simp; omega)
  have hlen : (credBody id kind rights mask label secret).length = 5 + label.length + secret.length := by
    simp [credBody]
    omega
  have hshort : (decide ((credBody id kind rights mask label secret).length < 5 + label.length)
      || decide (24 < label.length) || decide (secret.length = 0) || decide (64 < secret.length)) = false := by
    rw [hlen]
    simp only [Bool.or_eq_false_iff, decide_eq_false_iff_not]
    omega
  refine ⟨fun hc => ?_, fun hc => ?_, fun r hc => ?_⟩
  all_goals
    simp only [admitCredSet, h0, hk, h2, h3, h4, hslice, hdrop, hmask, hrights, hkind, hrelease, hshort,
      ofByte_credToByte, fin?_cred, hc]
    rfl

theorem permitted_of_owner {c : ReqCode} (hst : 2 ≤ st.val) (body : List Byte)
    (h : c = .credSet ∨ c = .credVerify ∨ c = .credRelease ∨ c = .credClear) : permitted c st body = true := by
  have hor : (st == 2 || st == 3) = true := by
    revert st
    decide
  rcases h with rfl | rfl | rfl | rfl <;> exact hor

theorem exec_credSet (hs : Ready st flags s) (hst : 2 ≤ st.val) (hl : label.length ≤ 24) (h64 : secret.length ≤ 64)
    (hg : (id ≠ 0 ∨ ownerClaimed s = true) → (s.stations.get st).grant ≠ none) :
    exec (.credSet st flags (credBody id kind rights mask label secret)) s
      = .next (recomputeAttn (giveReceipt .taken (takeCredSet st (hasBit flags 0)
          (credBody id kind rights mask label secret) (lineIdle s)))) := by
  have hlen : (credBody id kind rights mask label secret).length = 5 + label.length + secret.length := by
    simp [credBody]
    omega
  refine exec_passes (c := .credSet) hs ?_ nofun nofun ?_ (permitted_of_owner hst _ (.inl rfl)) fun h => hg ?_
  · rw [hlen, Config.bodyCap]
    omega
  · simp only [lengthOk, hlen, decide_eq_true_eq]
    omega
  · have hneeds : (!(byte id == 0 && !ownerClaimed s)) = true := h
    by_cases h0 : id = 0
    · refine .inr ?_
      simpa [h0, byte] using hneeds
    · exact .inl h0

theorem not_ownerClaimed_of {id : CredId} (h : ∀ r, s.creds.get id ≠ .held r) (h0 : ¬id ≠ 0) : ownerClaimed s = false := by
  obtain rfl : id = 0 := not_not.1 h0
  unfold ownerClaimed heldCred?
  split
  case h_1 r hr => exact absurd hr (h r)
  case h_2 => rfl

end CredSet

/-! ### CRED_VERIFY, CRED_RELEASE and CRED_CLEAR (R121, R126, R127) -/

section CredOther

variable {st : Station} {flags b : Byte} {candidate : List Byte} {s : State} {id : CredId}

theorem exec_credVerify (hs : Ready st flags s) (hst : 2 ≤ st.val) (h1 : 1 ≤ candidate.length)
    (h64 : candidate.length ≤ 64) :
    exec (.credVerify st flags (b :: candidate)) s
      = .next (recomputeAttn (giveReceipt .taken
          (takeWork .credVerify st (hasBit flags 0) (admitCredVerify (b :: candidate) s) (lineIdle s)))) := by
  refine exec_passes (c := .credVerify) hs (by simp [Config.bodyCap]; omega) nofun nofun ?_
    (permitted_of_owner hst _ (.inr (.inl rfl))) nofun
  simp only [lengthOk, List.length_cons, Bool.and_eq_true, decide_eq_true_eq]
  omega

theorem exec_credRelease (hs : Ready st flags s) (hst : 2 ≤ st.val)
    (hg : needsGrant .credRelease st [b] s = true → (s.stations.get st).grant ≠ none) :
    exec (.credRelease st flags [b]) s
      = .next (recomputeAttn (giveReceipt .taken
          (takeWork .credRelease st (hasBit flags 0) (admitCredRelease st [b] s) (lineIdle s)))) :=
  exec_passes (c := .credRelease) hs (by simp [Config.bodyCap]) nofun nofun rfl
    (permitted_of_owner hst _ (.inr (.inr (.inl rfl)))) hg

theorem exec_credClear (hs : Ready st flags s) (hst : 2 ≤ st.val) (hg : (s.stations.get st).grant ≠ none) :
    exec (.credClear st flags [b]) s
      = .next (recomputeAttn (giveReceipt .taken
          (takeWork .credClear st (hasBit flags 0) (admitCredClear [b] s) (lineIdle s)))) :=
  exec_passes (c := .credClear) hs (by simp [Config.bodyCap]) nofun nofun rfl
    (permitted_of_owner hst _ (.inr (.inr (.inr rfl)))) fun _ => hg

/-- A request that needs a grant that its station does not hold is refused by check 6 (R165). -/
theorem exec_noGrant {c : ReqCode} {body : List Byte} (hs : Ready st flags s) (hl : body.length ≤ Config.bodyCap)
    (hf : c ≠ .fetch) (ha : c ≠ .abort) (hlen : lengthOk c body.length = true) (hp : permitted c st body = true)
    (hn : needsGrant c st body s = true) (hg : (s.stations.get st).grant = none) :
    exec (Instr.ofFrame st c.toByte flags body) s = .next (answered st .noGrant c [] flags (lineIdle s)) := by
  have hrefused : generalRefusal c st body (lineIdle s) = some .noGrant := by
    have hneeds : needsGrant c st body (lineIdle s) = true := hn
    simp [generalRefusal, hlen, hp, hs.2.2, hneeds, holdsGrant, hg]
  rw [exec_request, whenOn_on hs.1.1, requestArrives_taken hs.1 hl hf ha, orderOfChecks_refused hs.2.1 hrefused]
  rfl

theorem heldCred?_of_not_held (h : ∀ r, s.creds.get id ≠ .held r) : heldCred? id s = none := by
  unfold heldCred?
  split
  case h_1 r hr => exact absurd hr (h r)
  case h_2 => rfl

theorem needsGrant_credRelease (id : CredId) :
    needsGrant .credRelease st [byte id] s
      = (heldCred? id s).any fun r => r.contents.kind == .secret && !r.contents.freeRelease := by
  simp only [needsGrant, byteAt_cons_zero, fin?_cred]

theorem admitCredRelease_eq (id : CredId) :
    admitCredRelease st [byte id] s = (releaseChecks id st s).map fun _ => .credRelease id := by
  simp only [admitCredRelease, byteAt_cons_zero, fin?_cred]
  cases releaseChecks id st s <;> rfl

theorem releaseChecks_of_held {r : CredRecord} (h : s.creds.get id = .held r) :
    releaseChecks id st s
      = if r.contents.kind != .secret then .error .badArgument
        else if !hasBit r.contents.releaseMask st then .error .notPermitted
        else .ok r := by
  simp only [releaseChecks, heldCred?_eq_some.2 h]

end CredOther

/-- Settles O23: the credential's state decides, and for a release its kind, its form and its mask. -/
theorem credentialRequestsAreTaken : Obligations.CredentialRequestsAreTaken := by
  refine ⟨fun st flags rights mask kind id label secret s hs hst hl h1 h64 hform => ?set,
    fun st flags b candidate s hs hst h1 h64 => ?other⟩
  case set =>
    intro body params
    obtain ⟨hreserved, hempty, hheld⟩ := admitCredSet_eq (s := lineIdle s) hform hl h1 h64
    refine ⟨fun hc hg => ?_, fun r hc hg => ?_, fun hc hg => ?_⟩
    · have hclaim (h : id ≠ 0 ∨ ownerClaimed s = true) : (s.stations.get st).grant ≠ none := by
        by_cases h0 : id ≠ 0
        · exact hg h0
        · rw [not_ownerClaimed_of (fun r => by simp [hc]) h0] at h
          exact absurd h (by simp [h0])
      refine (exec_credSet hs hst hl h64 hclaim).trans ?_
      rw [takeCredSet, hempty hc]
      rfl
    · refine (exec_credSet hs hst hl h64 fun _ => hg).trans ?_
      rw [takeCredSet, hheld r hc]
      rfl
    · have hclaim (h : id ≠ 0 ∨ ownerClaimed s = true) : (s.stations.get st).grant ≠ none := by
        by_cases h0 : id ≠ 0
        · exact hg h0
        · rw [not_ownerClaimed_of (fun r => by simp [hc]) h0] at h
          exact absurd h (by simp [h0])
      refine (exec_credSet hs hst hl h64 hclaim).trans ?_
      rw [takeCredSet, hreserved hc]
      rfl
  case other =>
    intro verify release clear granted
    have hclear {r : Result} (hg : granted) (h : admitCredClear [b] s = .error r) : clear r := by
      show exec _ s = _
      rw [exec_credClear hs hst hg, h]
      rfl
    have hverify {r : Result} (h : admitCredVerify (b :: candidate) s = .error r) : verify r := by
      show exec _ s = _
      rw [exec_credVerify hs hst h1 h64, h]
      rfl
    have hrelease {r : Result} (hg : needsGrant .credRelease st [b] s = true → granted)
        (h : admitCredRelease st [b] s = .error r) : release r := by
      show exec _ s = _
      rw [exec_credRelease hs hst hg, h]
      rfl
    refine ⟨fun h16 => ⟨hverify ?_, hrelease ?_ ?_, fun hg => hclear hg ?_⟩, fun hg => ?_, ?_⟩
    · simp [admitCredVerify, fin?_eq_none h16]
    · simp [needsGrant, fin?_eq_none h16]
    · simp [admitCredRelease, fin?_eq_none h16]
    · simp [admitCredClear, fin?_eq_none h16]
    · exact exec_noGrant (c := .credClear) hs (by simp [Config.bodyCap]) nofun nofun rfl
        (permitted_of_owner hst _ (.inr (.inr (.inr rfl)))) rfl (not_not.1 hg)
    · rintro id rfl
      refine ⟨fun hno => ?_, fun hg h0 => hclear hg ?_, fun r hr => ?_⟩
      · have hnone := heldCred?_of_not_held hno
        refine ⟨hverify ?_, hrelease ?_ ?_, fun hg h0 => hclear hg ?_⟩
        · simp [admitCredVerify, fin?_byte, hnone]
        · simp [needsGrant_credRelease, hnone]
        · simp [admitCredRelease_eq, releaseChecks, hnone, Except.map]
        · simp [admitCredClear, fin?_byte, hnone, h0]
      · subst h0
        rfl
      · have hsome := heldCred?_eq_some.2 hr
        have hneeds : needsGrant .credRelease st [byte id] s
            = (r.contents.kind == .secret && !r.contents.freeRelease) := by
          rw [needsGrant_credRelease, hsome]
          rfl
        have hchecks := admitCredRelease_eq (st := st) (s := s) id
        rw [releaseChecks_of_held hr] at hchecks
        refine ⟨(exec_credVerify hs hst h1 h64).trans ?_, fun hk => hrelease ?_ ?_, fun hk hf hg => ?_, fun hk hg => ?_,
          fun hg h0 => (exec_credClear hs hst hg).trans ?_⟩
        · simp only [admitCredVerify, byteAt_cons_zero, fin?_cred, hsome]
          rfl
        · simp [hneeds, hk]
        · rw [hchecks, hk]
          rfl
        · exact exec_noGrant (c := .credRelease) hs (by simp [Config.bodyCap]) nofun nofun rfl
            (permitted_of_owner hst _ (.inr (.inr (.inl rfl)))) (by simp [hneeds, hk, hf]) (not_not.1 hg)
        · have hgrant (h : needsGrant .credRelease st [byte id] s = true) : granted := by
            rcases hg with hf | hg
            · simp [hneeds, hf] at h
            · exact hg
          refine ⟨fun hm => hrelease hgrant ?_, fun hm => (exec_credRelease hs hst hgrant).trans ?_⟩
          · rw [hchecks, hk, hm]
            rfl
          · rw [hchecks, hk, hm]
            rfl
        · simp only [admitCredClear, byteAt_cons_zero, fin?_cred, if_neg h0, hsome]
          rfl

/-! ### SETTINGS_WRITE and OWNER_RESET (R175, R202) -/

section Owner

variable {st : Station} {flags : Byte} {body : List Byte} {s : State}

theorem exec_settingsWrite (hs : Ready st flags s) (hst : st = 0 ∨ st = 2 ∧ (s.stations.get st).grant ≠ none)
    (hl : body.length = 10) :
    exec (.settingsWrite st flags body) s
      = .next (recomputeAttn (giveReceipt .taken
          (takeWork .settingsWrite st (hasBit flags 0) (admitSettingsWrite body) (lineIdle s)))) := by
  refine exec_passes (c := .settingsWrite) hs (by rw [hl]; decide) nofun nofun (by rw [hl]; rfl) ?_ fun h => ?_
  · rcases hst with rfl | ⟨rfl, -⟩ <;> rfl
  · rcases hst with rfl | ⟨-, hg⟩
    · cases h
    · exact hg

theorem exec_ownerReset (hs : Ready 2 flags s) (hg : (s.stations.get 2).grant ≠ none) :
    exec (.ownerReset 2 flags []) s
      = .next (recomputeAttn (giveReceipt .taken (attachOwnerReset (hasBit flags 0) (lineIdle s)))) :=
  exec_passes (c := .ownerReset) hs (Nat.zero_le _) nofun nofun rfl rfl fun _ => hg

theorem isOwnerReset_iff {j : Job} : j.isOwnerReset = true ↔ ∃ a b, j = .ownerReset a b := by
  cases j <;> simp [Job.isOwnerReset]

theorem any_isOwnerReset_of_none {l : List Job} (h : ∀ a b, Job.ownerReset a b ∉ l) : l.any Job.isOwnerReset = false := by
  rw [List.any_eq_false]
  intro j hj hreset
  obtain ⟨a, b, rfl⟩ := isOwnerReset_iff.1 hreset
  exact h a b hj

theorem attachOwnerReset_new {quiet : Bool} (h : ∀ a b, Job.ownerReset a b ∉ s.queue) :
    attachOwnerReset quiet s = { s with queue := s.queue ++ [.ownerReset (some quiet) false] } := by
  rw [attachOwnerReset, if_neg (by simp [any_isOwnerReset_of_none h])]

theorem attachOwnerReset_waiting {quiet button : Bool} {attached : Option Bool} {before after : List Job}
    (hq : s.queue = before ++ .ownerReset attached button :: after)
    (h : ∀ a b, Job.ownerReset a b ∉ before ++ after) :
    attachOwnerReset quiet s = { s with queue := before ++ .ownerReset (some quiet) button :: after } := by
  have hany : s.queue.any Job.isOwnerReset = true := by simp [hq, Job.isOwnerReset]
  have hkeep (f : Job → Job) (hf : ∀ j, j.isOwnerReset = false → f j = j) (l : List Job)
      (hl : ∀ a b, Job.ownerReset a b ∉ l) : l.map f = l := by
    rw [List.map_congr_left (g := id) fun j hj => hf j ?_, List.map_id]
    exact List.any_eq_false.1 (any_isOwnerReset_of_none hl) j hj |> Bool.eq_false_of_not_eq_true
  have hbefore : ∀ a b, Job.ownerReset a b ∉ before := fun a b hj => h a b (List.mem_append_left _ hj)
  have hafter : ∀ a b, Job.ownerReset a b ∉ after := fun a b hj => h a b (List.mem_append_right _ hj)
  rw [attachOwnerReset, if_pos hany, hq, List.map_append, List.map_cons, hkeep _ ?_ before hbefore,
    hkeep _ ?_ after hafter]
  all_goals
    intro j hj
    cases j with
    | ownerReset => cases hj
    | _ => rfl

/-- ABORT detaches station 2's OWNER_RESET from its job, which stays for a button hold alone. -/
theorem removeWaiting_ownerReset {quiet button : Bool} {before after : List Job}
    (hq : s.queue = before ++ .ownerReset (some quiet) button :: after)
    (hother : ∀ j ∈ before ++ after, j.holder ≠ some 2) :
    removeWaiting 2 s
      = placeReply 2 .aborted 10 [] quiet
          { s with queue := before ++ (if button then [.ownerReset none true] else []) ++ after } := by
  have hkeep (l : List Job) (hl : ∀ j ∈ l, j.holder ≠ some 2) :
      l.filterMap (fun j => if j.holder = some 2 then j.withdrawn else some j) = l := by
    rw [List.filterMap_congr (g := some) fun j hj => if_neg (hl j hj), List.filterMap_some]
  have hbefore := hkeep before fun j hj => hother j (List.mem_append_left _ hj)
  have hafter := hkeep after fun j hj => hother j (List.mem_append_right _ hj)
  have hfind : (s.queue.find? fun j => j.holder == some 2) = some (.ownerReset (some quiet) button) := by
    rw [hq, List.find?_append, List.find?_eq_none.2 fun j hj => by simpa using hother j (List.mem_append_left _ hj)]
    simp [Job.holder]
  have hqueue : s.queue.filterMap (fun j => if j.holder = some 2 then j.withdrawn else some j)
      = before ++ (if button then [.ownerReset none true] else []) ++ after := by
    rw [hq, List.filterMap_append, hbefore, List.filterMap_cons, hafter]
    cases button <;> simp [Job.holder, Job.withdrawn]
  rw [removeWaiting, hfind, hqueue]
  rfl

end Owner

/-- Settles O24: the fields of a SETTINGS_WRITE are read from its body; OWNER_RESET finds its job in the queue. -/
theorem ownerRequestsAreTaken : Obligations.OwnerRequestsAreTaken := by
  refine ⟨fun st flags selection base tHi tLo gHi gLo bHi bLo eHi eLo s hs hst => ?settings,
    fun flags s hs hg => ⟨fun hno => ?new, fun before after attached button hq hno => ?attach, ?detach⟩⟩
  case settings =>
    intro body
    have hexec := exec_settingsWrite (body := body) hs hst rfl
    have henables : BitVec.ofNat 16 (nat16At body 8) = eHi ++ eLo := ofNat_nat16At eHi eLo []
    have h0 : byteAt body 0 = selection := rfl
    have hbits (h : eHi &&& 0xF8 = 0) : (((eHi ++ eLo : BitVec 16) &&& 0xF800) != 0) = false := by
      rw [and_F800_eq, h]
      rfl
    refine ⟨fun h => hexec.trans ?_, fun h hb => hexec.trans ?_, fun h0' hsel hb => hexec.trans ?_⟩
    · have hno : ((selection &&& 0xE0) != 0 || (((eHi ++ eLo : BitVec 16) &&& 0xF800) != 0)) = true := by
        rw [Bool.or_eq_true]
        rcases h with h | h
        · exact .inl (bne_iff_ne.2 h)
        · exact .inr (and_F800_ne h)
      rw [admitSettingsWrite]
      simp only [h0, henables, hno]
      rfl
    · rw [admitSettingsWrite]
      simp only [h0, henables, hbits hb, h]
      rfl
    · have hsel' : ((selection &&& 0xE0) != 0) = false := by rw [hsel]; rfl
      have hne : (selection == 0) = false := by simpa using h0'
      rw [admitSettingsWrite]
      simp only [h0, henables, hbits hb, hsel', hne]
      have hnat (hi lo : Byte) : beNat [hi, lo] = hi.toNat * 256 + lo.toNat := by simp [beNat]
      simp only [nat16At, hnat]
      rfl
  case new =>
    rw [exec_ownerReset hs hg, attachOwnerReset_new (s := lineIdle s) hno]
    rfl
  case attach =>
    rw [exec_ownerReset hs hg, attachOwnerReset_waiting (s := lineIdle s) hq hno]
    rfl
  case detach =>
    intro before after quiet button t hp ht ho hr hq hother
    have hw : requestState 2 t = .waiting := by
      refine (requestState_waiting_iff 2 t).2 ⟨fun h => ?_, .ownerReset (some quiet) button, by simp [hq], rfl⟩
      obtain ⟨r, hrun, hh⟩ := Option.bind_eq_some_iff.1 h
      exact hr r hrun hh
    rw [exec_abort hp ht ho, abortRequest_waiting hs.2.1 (s := lineIdle t) hw,
      removeWaiting_ownerReset (s := lineIdle t) hq hother]
    rfl

end Sys2Proof.Machine
end

section
/-! PROOFS. The key table's and the attestation unit's jobs: how a job is refused, launched and ended (O25 to O29). -/

namespace Sys2Proof.Machine

open Sys2Proof

variable {s t : State} {st : Station} {q : Bool} {w : Work} {rest : List Job} {r : Result}

/-! ### A station job from its start to its end -/

/-- The state in which a station job makes its checks: the engine has taken it. -/
abbrev taken (st : Station) (q : Bool) (w : Work) (rest : List Job) (s : State) : State :=
  { s with queue := rest, running := some (fresh (stationJob st q w) [] .blank []) }

/-- A station job that may start is taken and makes its checks. -/
theorem exec_jobStart {start : StationJob → Option (State → State)} {f : State → State} {u : State}
    (h : MayStart (stationJob st q w) rest s) (hf : start { station := st, quiet := q, work := w } = some f)
    (hu : f (taken st q w rest s) = u) (ht : recomputeAttn u = t) : whenOn (onStart start) s = .next t := by
  rw [whenOn_onStart h hf, hu, ht]

/-- A taken job that fails a check is turned down, with what its block undoes. -/
theorem failJob_taken {c : ReqCode} {body : List Byte} (hc : w.code = c.toByte)
    (hw : releaseWork w (taken st q w rest s) = taken st q w rest t) :
    recomputeAttn (failJob r body (taken st q w rest s)) = turnedDown st r c body q rest t := by
  rw [failJob_of rfl, hw, endJob_of rfl rfl]
  show recomputeAttn (placeReply st r w.code body q _) = _
  rw [hc]
  rfl

/-- A taken job that reserved a key slot gives it back when it fails a check. -/
theorem failJob_taken_slot {c : ReqCode} {body : List Byte} {slot : Slot} {o : Bool} (hc : w.code = c.toByte)
    (hw : ∀ u, releaseWork w u = freeSlot slot u) (hk : s.keys.get slot = .reserved o) :
    recomputeAttn (failJob r body (taken st q w rest s))
      = turnedDown st r c body q rest { s with keys := s.keys.set slot .empty } :=
  failJob_taken hc (by simp [hw, freeSlot, hk, KeySlot.isReserved])

/-- A taken job with nothing to write has started. -/
theorem launch_taken (d : JobData) :
    recomputeAttn (launch d [] (taken st q w rest s)) = started (stationJob st q w) rest [] d s := rfl

/-- A taken job whose first step writes the store has started, with its steps before it. -/
theorem launch_taken_writes {d : JobData} {x : JobStep} {steps : List JobStep}
    (h : x.writes (setData d (taken st q w rest s)) = true) :
    recomputeAttn (launch d (x :: steps) (taken st q w rest s)) = started (stationJob st q w) rest (x :: steps) d s := by
  rw [launch, runFree_write h]
  rfl

/-- The end of the running job, its steps done first. -/
theorem exec_jobEnd_of {run done : Running} {is : Job → Bool} {fin : Running → State → State} {u v : State}
    (hp : s.power = .on) (hr : s.running = some run) (hi : is run.job = true) (hs : finishSteps s = u)
    (hd : u.running = some done) (hf : fin done u = v) (ht : recomputeAttn v = t) :
    whenOn (onEnd is fin) s = .next t := by
  rw [whenOn_onEnd hp hr hi hs hd, hf, ht]

/-- A station's job, gone by nothing, ends with a result that its data decides. -/
theorem exec_jobEnd {c : ReqCode} {d : JobData} {body : List Byte} {is : Job → Bool} {fin : Running → State → State}
    (hp : s.power = .on) (hr : s.running = some (fresh (stationJob st q w) [] d [])) (hi : is (stationJob st q w) = true)
    (hc : w.code = c.toByte) (hf : fin (fresh (stationJob st q w) [] d []) s = endJob r body s) :
    whenOn (onEnd is fin) s = .next (ended st r c body q s) := by
  refine exec_jobEnd_of hp hr hi (finishSteps_done hr rfl) hr (hf.trans (endJob_of hr rfl)) ?_
  show recomputeAttn (placeReply st r w.code body q _) = _
  rw [hc]
  rfl

/-! ### The checks on a key at job start -/

theorem activeKey?_eq_some {slot : Slot} {k : KeyRecord} : activeKey? slot s = some k ↔ s.keys.get slot = .active k := by
  unfold activeKey?
  cases s.keys.get slot <;> simp

theorem bindingHolds_iff {b : Option Binding} :
    bindingHolds b s = true ↔ ∀ x, b = some x → (s.chains.get x.chain).value = x.value := by
  cases b <;> simp [bindingHolds]

/-- The record that a noted fingerprint still finds. -/
theorem notedKey_some {slot : Slot} {noted : Bytes 32} {k : KeyRecord} (hk : s.keys.get slot = .active k)
    (hf : k.fingerprint = noted) : (activeKey? slot s).filter (fun k => k.fingerprint == noted) = some k := by
  simp [activeKey?_eq_some.2 hk, Option.filter, hf]

/-- A noted fingerprint that finds no record. -/
theorem notedKey_none {slot : Slot} {noted : Bytes 32}
    (h : ∀ k, s.keys.get slot = .active k → k.fingerprint ≠ noted) :
    (activeKey? slot s).filter (fun k => k.fingerprint == noted) = none := by
  cases hk : activeKey? slot s with
  | none => rfl
  | some k => simpa [Option.filter] using h k (activeKey?_eq_some.1 hk)

theorem keyAtStart_fit {slot : Slot} {noted : Bytes 32} {k : KeyRecord} (h : KeyFit slot noted k s) :
    keyAtStart slot noted s = .ok k := by
  obtain ⟨hk, hf, hb⟩ := h
  simp only [keyAtStart, notedKey_some hk hf, if_pos (bindingHolds_iff.2 hb)]

theorem keyAtStart_unfit {slot : Slot} {noted : Bytes 32} (h : KeyUnfit slot noted s r) :
    keyAtStart slot noted s = .error r := by
  rcases h with ⟨hno, ⟨hrev, rfl⟩ | ⟨hrev, rfl⟩⟩ | ⟨k, b, hk, hf, hb, hv, rfl⟩
  · simp [keyAtStart, notedKey_none hno, hrev]
  · simp [keyAtStart, notedKey_none hno, hrev]
  · have hfalse : bindingHolds k.binding s = false := by simp [hb, bindingHolds, hv]
    simp [keyAtStart, notedKey_some hk hf, hfalse]

/-- A job start that goes by the check of its key fails as the check does. -/
theorem turnedDown_of_unfit {slot : Slot} {noted : Bytes 32} (h : KeyUnfit slot noted s r) :
    keyAtStart slot noted (taken st q w rest s) = .error r := keyAtStart_unfit (s := taken st q w rest s) h

theorem started_of_fit {slot : Slot} {noted : Bytes 32} {k : KeyRecord} (h : KeyFit slot noted k s) :
    keyAtStart slot noted (taken st q w rest s) = .ok k := keyAtStart_fit (s := taken st q w rest s) h

/-! ### O25: sign, verify, derive and quote -/

/-- Settles O25: the check of the key decides at start, the data computed at start at the end. -/
theorem keyUsingJobsCheckAndAnswer : Obligations.KeyUsingJobsCheckAndAnswer := by
  refine ⟨fun st q slot fp rest r s hu => ⟨fun d h => ?sign, fun d sig h => ?verify, fun selection nonce h => ?quote,
    fun d target usage mask label o h hk => ?derive⟩,
    fun st q slot fp d sig rest k s => ⟨fun priv pub h hfit hm => ?signFit, fun out hp hr => ?signEnd,
      fun pub h hfit hm => ?verifyFit, fun valid hp hr => ?verifyEnd⟩⟩
  case sign =>
    refine (whenOn_onStart h rfl).trans ?_
    simp only [startKeySign, turnedDown_of_unfit hu]
    exact congrArg _ (failJob_taken rfl rfl)
  case verify =>
    refine (whenOn_onStart h rfl).trans ?_
    simp only [startKeyVerify, turnedDown_of_unfit hu]
    exact congrArg _ (failJob_taken rfl rfl)
  case quote =>
    refine (whenOn_onStart h rfl).trans ?_
    simp only [startQuote, turnedDown_of_unfit hu]
    exact congrArg _ (failJob_taken rfl rfl)
  case derive =>
    refine (whenOn_onStart h rfl).trans ?_
    simp only [startKeyDerive, turnedDown_of_unfit hu]
    exact congrArg _ (failJob_taken_slot rfl (fun _ => rfl) hk)
  case signFit =>
    refine (whenOn_onStart h rfl).trans ?_
    simp only [startKeySign, started_of_fit hfit, hm]
    rfl
  case signEnd => exact exec_jobEnd hp hr rfl rfl rfl
  case verifyFit =>
    refine (whenOn_onStart h rfl).trans ?_
    simp only [startKeyVerify, started_of_fit hfit, hm, Material.publicKey?]
    rfl
  case verifyEnd => exact exec_jobEnd hp hr rfl rfl rfl

/-! ### O26: the quote -/

/-- Adding up a list's chosen weights from the left, as the raised set is built. -/
theorem foldl_addIf {α : Type} (p : α → Bool) (f : α → Nat) (l : List α) (n : Nat) :
    l.foldl (fun acc i => if p i then acc + f i else acc) n = n + (l.map fun i => if p i then f i else 0).sum := by
  induction l generalizing n with
  | nil => rfl
  | cons i l ih =>
    rw [List.foldl_cons, ih, List.map_cons, List.sum_cons]
    split <;> omega

theorem raisedSet_eq_sum (s : State) :
    raisedSet s = ((List.finRange 11).map fun i => if (s.conditions.get i).isSome then 2 ^ i.val else 0).sum :=
  (foldl_addIf (fun i => (s.conditions.get i).isSome) (fun i : Fin 11 => 2 ^ i.val) _ 0).trans (Nat.zero_add _)

theorem classEntry_of {c : ClassNo} {r : ClassRecord} (h : s.classes.get c = some r) :
    classEntry c s
      = be16 r.floor ++ [r.active.toByte] ++ be16 (((r.image r.active).map ImageRecord.version).getD 0)
          ++ [r.state.toByte] := by
  simp only [classEntry, h]
  cases r.image r.active <;> rfl

/-- The snapshot's class entries, one after the other. -/
theorem classEntries_eq (s : State) : (List.finRange 4).flatMap (fun c => classEntry c s)
    = classEntry 0 s ++ classEntry 1 s ++ classEntry 2 s ++ classEntry 3 s := by
  have h : List.finRange 4 = [0, 1, 2, 3] := by decide
  simp [h, List.append_assoc]

/-- Settles O26: the statement's parts are the snapshot's, one by one. -/
theorem quoteJobSignsSnapshot : Obligations.QuoteJobSignsSnapshot := by
  refine fun st q slot fp selection nonce bytes rest s =>
    ⟨fun k priv pub r0 r1 r2 r3 h hfit hm h0 h1 h2 h3 => ?_, fun hp hr => exec_jobEnd hp hr rfl rfl rfl⟩
  intro entry isSet locked claimed statement
  have hset : ∀ id, (heldCred? id s).isSome = isSet (s.creds.get id) := fun id => by
    simp only [heldCred?]
    cases s.creds.get id <;> rfl
  have hlocked : ∀ id, ((heldCred? id s).any fun r => r.lockout.inForce s.time.uptime) = locked (s.creds.get id) :=
    fun id => by
      simp only [heldCred?]
      cases s.creds.get id with
      | held c =>
        obtain ⟨_, _, _, lockout⟩ := c
        cases lockout with
        | deadline d => exact (decide_not ..).symm
        | _ => rfl
      | _ => rfl
  have hstatement : quoteStatement slot k.fingerprint selection nonce s = statement := by
    simp only [quoteStatement, classEntries_eq, classEntry_of h0, classEntry_of h1, classEntry_of h2, classEntry_of h3,
      raisedSet_eq_sum, ownerClaimed, setCredentials, lockedCredentials, hset, hlocked, hfit.2.1]
    rfl
  refine (whenOn_onStart h rfl).trans ?_
  simp only [startQuote, started_of_fit hfit, hm]
  show Host.Outcome.next (recomputeAttn (launch (.statement (quoteStatement slot k.fingerprint selection nonce s
    ++ (sign priv (digest (quoteStatement slot k.fingerprint selection nonce s))).list)) [] _)) = _
  rw [hstatement]
  rfl

/-! ### O27: generation and import -/

/-- A creating job that has its record goes on to its store write, when there is one. -/
theorem launchKey_taken (slot : Slot) (k : KeyRecord) :
    recomputeAttn (launchKey slot k (taken st q w rest s))
      = started (stationJob st q w) rest (if k.persistence = .persistent then [.keyRecord slot] else []) (.key k) s := by
  cases hk : k.persistence with
  | persistent => simpa [launchKey, recordSteps, hk] using launch_taken_writes rfl
  | epoch => simpa [launchKey, recordSteps, hk] using launch_taken _

/-- The draws stop at the first that is free. -/
theorem firstFresh_eq {kind : KeyKind} : ∀ {fuel n m : Nat}, n < fuel →
    (∀ i < n, fingerprintFree (drawMaterial kind (m + i)).fingerprint s = false) →
    fingerprintFree (drawMaterial kind (m + n)).fingerprint s = true →
    firstFresh fuel m kind s = (m + n + 1, some (drawMaterial kind (m + n)))
  | fuel + 1, 0, m, _, _, hfree => if_pos hfree
  | fuel + 1, n + 1, m, hlt, hheld, hfree => by
    have hshift : ∀ i, m + 1 + i = m + (i + 1) := fun i => by omega
    have hnext : firstFresh fuel (m + 1) kind s = (m + 1 + n + 1, some (drawMaterial kind (m + 1 + n))) :=
      firstFresh_eq (by omega) (fun i hi => by rw [hshift]; exact hheld (i + 1) (by omega)) (by rw [hshift]; exact hfree)
    rw [hshift] at hnext
    rw [firstFresh, if_neg (by simpa using hheld 0 (by omega)), hnext]

theorem holdsFingerprint_iff {fp : Bytes 32} :
    holdsFingerprint fp s = true ↔ ∃ slot k, s.keys.get slot = .active k ∧ k.fingerprint = fp := by
  simp only [holdsFingerprint, List.any_eq_true, List.mem_finRange, true_and]
  refine exists_congr fun slot => ?_
  cases s.keys.get slot <;> simp

theorem holdsGrant_iff : holdsGrant st s = true ↔ (s.stations.get st).grant ≠ none := by
  simp [holdsGrant, Option.isSome_iff_ne_none]

/-- The grant that an owner-held key needs is missing. -/
theorem grantMissing_iff {ownerHeld : Bool} :
    (ownerHeld && !holdsGrant st s) = true ↔ ¬(ownerHeld = true → (s.stations.get st).grant ≠ none) := by
  rw [← holdsGrant_iff]
  cases ownerHeld <;> simp

/-- An import that holds the grant it needs goes on to the checks of its fingerprint. -/
theorem startKeyImport_granted {p : NewKey} {m : Material}
    (hg : p.ownerHeld = true → (s.stations.get st).grant ≠ none) :
    startKeyImport st p m s
      = if s.revoked.contains m.fingerprint then failJob .revoked [] s
        else if holdsFingerprint m.fingerprint s then failJob .slotOccupied [] s
        else launchKey p.slot (newRecord p .imported m (resolveBinding p.binding s)) s :=
  if_neg fun h => grantMissing_iff.1 h hg

/-- Settles O27: both jobs test the grant first; a generation draws until a fingerprint is free, an import tests its
own. -/
theorem generateAndImportJobsStart : Obligations.GenerateAndImportJobsStart := by
  refine ⟨fun st q p kind rest s h hkind => ⟨fun ho hg o hk => ?noGrant, fun n hn hgrant hheld hfree => ?drawn⟩,
    fun st q o p m rest s h hk => ?imported⟩
  case noGrant =>
    exact exec_jobStart h rfl (if_pos (grantMissing_iff.2 fun h => h ho hg)) (failJob_taken_slot rfl (fun _ => rfl) hk)
  case drawn =>
    intro material k
    have hdrawn : firstFresh Config.drawFuel s.entropy kind (taken st q (.keyGenerate p kind) rest s)
        = (s.entropy + n + 1, some material) := firstFresh_eq hn hheld hfree
    have hk : newRecord p .generated material (resolveBinding p.binding s) = k := by
      simp only [newRecord, k]
      cases p.binding <;> rfl
    have hstep : generateStep p kind (resolveBinding p.binding s) (taken st q (.keyGenerate p kind) rest s)
        = launchKey p.slot k (taken st q (.keyGenerate p kind) rest { s with entropy := s.entropy + n + 1 }) := by
      rw [generateStep]
      simp only [hdrawn, hk]
    exact exec_jobStart h rfl ((if_neg fun h => grantMissing_iff.1 h hgrant).trans hstep) (launchKey_taken _ _)
  case imported =>
    intro refused granted held
    have hrefused : ∀ {r : Result}, recomputeAttn (failJob r [] (taken st q (.keyImport p m) rest s))
        = turnedDown st r .keyImport [] q rest { s with keys := s.keys.set p.slot .empty } :=
      failJob_taken_slot rfl (fun _ => rfl) hk
    have hgo (hg : granted) := startKeyImport_granted (s := taken st q (.keyImport p m) rest s) (p := p) (m := m) hg
    refine ⟨fun hg => exec_jobStart h rfl (if_pos (grantMissing_iff.2 hg)) hrefused,
      fun hg hrev => exec_jobStart h rfl ((hgo hg).trans (if_pos ?_)) hrefused,
      fun hg hrev hheld => exec_jobStart h rfl ((hgo hg).trans ((if_neg ?_).trans
        (if_pos (holdsFingerprint_iff.2 hheld)))) hrefused,
      fun hg hrev hheld => exec_jobStart h rfl ((hgo hg).trans ((if_neg ?_).trans
        (if_neg fun h => hheld (holdsFingerprint_iff.1 h)))) ((launchKey_taken _ _).trans ?_)⟩
    · simpa using hrev
    · simpa using hrev
    · simpa using hrev
    · simp only [newRecord]
      cases p.binding <;> rfl

/-! ### O28: derivation, and the creating jobs' ends -/

/-- The steps that a creating job still has to do at its end leave its record in the store. -/
theorem finishSteps_created {slot : Slot} {k : KeyRecord} {run : Running} {todo : List JobStep}
    (hr : s.running = some run) (hd : run.data = .key k) (ht : run.todo = todo)
    (h : todo = [] ∨ todo = [.keyRecord slot]) :
    finishSteps s = { s with
      store := if todo = [] then s.store else { s.store with keys := s.store.keys.set slot (some k) }
      running := some { run with todo := [] } } := by
  rcases h with rfl | rfl
  · have hsame : { run with todo := [] } = run := by rw [← ht]
    rw [finishSteps_done hr ht, hsame, ← hr]
    rfl
  · have hk : runningKey s = some k := by simp [runningKey, hr, hd]
    rw [finishSteps_one hr ht]
    simp [JobStep.finish, JobStep.follow, JobStep.complete, JobStep.writes, JobStep.land, JobStep.act, setTodo, hr, hk]

/-- The reply that a creating job places carries the descriptor, and for a generated key the public key field. -/
theorem endCreate_placed {slot : Slot} {k : KeyRecord} {c : ReqCode} {run : Running} (hr : s.running = some run)
    (hj : run.job = stationJob st q w) (hc : run.crossed = false) (hw : w.code = c.toByte) :
    endCreate slot run k s
      = placeReply st .ok c.toByte (createdReply slot k) q { s with keys := s.keys.set slot (.active k), running := none } := by
  have hh : run.holder = some st := by simp [Running.holder, hc, hj, Job.holder]
  rw [endCreate, endJob_of (r := run) (s := setKey slot _ s) hr hh, hj, hc, ← hw]
  rfl

/-- A creating job across which a SoC reset has gone leaves its key, but for an EPOCH one. -/
theorem endCreate_crossed {slot : Slot} {k : KeyRecord} {run : Running} (hr : s.running = some run)
    (hc : run.crossed = true) :
    endCreate slot run k s
      = { s with keys := s.keys.set slot (if k.persistence = .epoch then .empty else .active k), running := none } := by
  rw [endCreate, endJob_none (r := run) (s := setKey slot _ s) hr (holder_crossed _ hc), hc]
  cases hp : k.persistence <;> simp [createdSlot, hp, setKey]

/-- A creating job's end, for its three requests: what `fin` does is `endCreate`. -/
theorem exec_createEnd {slot : Slot} {k : KeyRecord} {c : ReqCode} {todo : List JobStep} {is : Job → Bool}
    {fin : Running → State → State} (hp : s.power = .on) (hi : is (stationJob st q w) = true) (hw : w.code = c.toByte)
    (hf : ∀ crossed u, fin { fresh (stationJob st q w) [] (.key k) [] with crossed } u
      = endCreate slot { fresh (stationJob st q w) [] (.key k) [] with crossed } k u)
    (htodo : todo = [] ∨ todo = [.keyRecord slot]) :
    let store : Store := if todo = [] then s.store else { s.store with keys := s.store.keys.set slot (some k) }
    (s.running = some (fresh (stationJob st q w) todo (.key k) []) →
        whenOn (onEnd is fin) s
          = .next (ended st .ok c (createdReply slot k) q { s with store, keys := s.keys.set slot (.active k) }))
      ∧ (s.running = some { fresh (stationJob st q w) todo (.key k) [] with crossed := true } →
        whenOn (onEnd is fin) s
          = .next (recomputeAttn { s with
              store, keys := s.keys.set slot (if k.persistence = .epoch then .empty else .active k), running := none })) :=
  ⟨fun hr => exec_jobEnd_of hp hr hi (finishSteps_created hr rfl rfl htodo) rfl
      ((hf false _).trans (endCreate_placed rfl rfl rfl hw)) rfl,
    fun hr => exec_jobEnd_of hp hr hi (finishSteps_created hr rfl rfl htodo) rfl
      ((hf true _).trans (endCreate_crossed rfl rfl)) rfl⟩

/-- Settles O28: a derivation tests its child's fingerprint; the three creating jobs share their end. -/
theorem deriveJobAndCreatingEnds : Obligations.DeriveJobAndCreatingEnds := by
  refine ⟨fun st q o parent fp v d target usage mask label rest k s h hfit hm hk => ?derive,
    fun st q slot w c end_ k todo s hw hp htodo => ?ends⟩
  case derive =>
    intro child refused held
    have hrefused : ∀ {r : Result}, recomputeAttn
        (failJob r [] (taken st q (.keyDerive parent fp d target usage mask label) rest s))
        = turnedDown st r .keyDerive [] q rest { s with keys := s.keys.set target .empty } :=
      failJob_taken_slot rfl (fun _ => rfl) hk
    have hchild (u : State) (hu : taken st q (.keyDerive parent fp d target usage mask label) rest s = u) :
        startKeyDerive parent fp d target usage mask label u
        = if s.revoked.contains child.fingerprint then failJob .revoked [] u
          else if holdsFingerprint child.fingerprint s then failJob .slotOccupied [] u
          else launchKey target (childRecord k (derive v d) usage mask label) u := by
      subst hu
      simp only [startKeyDerive, started_of_fit hfit, hm]
      rfl
    refine ⟨fun hrev => exec_jobStart h rfl ((hchild _ rfl).trans (if_pos ?_)) hrefused,
      fun hrev hheld => exec_jobStart h rfl ((hchild _ rfl).trans ((if_neg ?_).trans
        (if_pos (holdsFingerprint_iff.2 hheld)))) hrefused,
      fun hrev hheld => exec_jobStart h rfl ((hchild _ rfl).trans ((if_neg ?_).trans
        (if_neg fun h => hheld (holdsFingerprint_iff.1 h)))) (launchKey_taken _ _)⟩
    all_goals simpa using hrev
  case ends =>
    intro store active
    have hend : (s.running = some (fresh (stationJob st q w) todo (.key k) []) →
          exec end_ s = .next (ended st .ok c (createdReply slot k) q active))
        ∧ (s.running = some { fresh (stationJob st q w) todo (.key k) [] with crossed := true } →
          exec end_ s = .next (recomputeAttn { s with
            store, keys := s.keys.set slot (if k.persistence = .epoch then .empty else .active k), running := none })) := by
      rcases hw with ⟨p, kind, rfl, rfl, rfl, rfl⟩ | ⟨p, m, rfl, rfl, rfl, rfl⟩ | ⟨parent, fp, d, u, m, l, rfl, rfl, rfl⟩
      · exact exec_createEnd hp rfl rfl (fun _ _ => rfl) htodo
      · exact exec_createEnd hp rfl rfl (fun _ _ => rfl) htodo
      · exact exec_createEnd hp rfl rfl (fun _ _ => rfl) htodo
    refine ⟨fun reply hr hreply => ?_, fun hr => (hend.2 hr).trans ?_⟩
    · have hcreated : reply = createdReply slot k := by
        rw [hreply, createdReply, publicField]
        cases k.material <;> rfl
      rw [hcreated, hend.1 hr]
    · split <;> rfl

/-! ### O29: erasure -/

/-- A removal's write lands, and leaves the rest. -/
theorem finishSteps_keyRemove {slot : Slot} {run : Running} (hr : s.running = some run) (ht : run.todo = [.keyRemove slot]) :
    finishSteps s = { s with
      store := { s.store with keys := s.store.keys.set slot none }, running := some { run with todo := [] } } := by
  rw [finishSteps_one hr ht]
  simp [JobStep.finish, JobStep.follow, JobStep.complete, JobStep.writes, JobStep.land, JobStep.act, setTodo, hr]

/-- Settles O29: the start finds the key by its fingerprint and tests its grant; the end removes, empties and sweeps. -/
theorem eraseJobErases : Obligations.EraseJobErases := by
  refine fun st q slot fp rest s => ⟨fun h => ⟨fun hno => ?gone, fun k hk hf => ⟨fun ho hg => ?noGrant, fun hg => ?erases⟩⟩,
    fun hp hr => ?ends⟩
  case gone =>
    refine (whenOn_onStart h rfl).trans ?_
    simp only [startKeyErase, notedKey_none (s := taken st q (.keyErase slot fp) rest s) hno]
    exact congrArg _ (failJob_taken rfl rfl)
  case noGrant =>
    have hmiss : (k.ownerHeld && !holdsGrant st (taken st q (.keyErase slot fp) rest s)) = true :=
      grantMissing_iff.2 fun h => h ho hg
    refine (whenOn_onStart h rfl).trans ?_
    simp only [startKeyErase, notedKey_some (s := taken st q (.keyErase slot fp) rest s) hk hf, hmiss, if_true]
    exact congrArg _ (failJob_taken rfl rfl)
  case erases =>
    have hheld : ¬(k.ownerHeld && !holdsGrant st (taken st q (.keyErase slot fp) rest s)) = true :=
      fun h => grantMissing_iff.1 h hg
    refine (whenOn_onStart h rfl).trans ?_
    simp only [startKeyErase, notedKey_some (s := taken st q (.keyErase slot fp) rest s) hk hf, if_neg hheld]
    exact congrArg _ (launch_taken_writes rfl)
  case ends =>
    refine ⟨_, exec_jobEnd_of hp hr rfl (finishSteps_keyRemove hr rfl) rfl
      (congrArg (endJob .ok []) (sweepKey_eq slot _)) rfl, ?_⟩
    rw [endJob_of (r := fresh (stationJob st q (.keyErase slot fp)) [] .blank []) (st := st) rfl rfl]
    refine ⟨rfl, rfl, rfl, rfl, fun i => ?_, rfl, fun h => if_pos h, fun h => if_neg h, rfl⟩
    show (s.targets.map _).get i = _
    rw [Tbl.get_map]
    exact congrArg (fun p => (s.targets.get i).filter p) (funext fun x => (decide_not ..).symm)

/-! ### O30: the extend job -/

/-- An extension for which the log has room. -/
theorem extendChain_room {c : ChainNo} {v m : Bytes 32} {tag : List Byte} {by_ : Option Station} (h : s.log.length < 128) :
    extendChain c v m tag by_ s
      = { s with
          chains := s.chains.set c { s.chains.get c with value := v, count := min ((s.chains.get c).count + 1) 65535 }
          log := s.log ++ [{ chain := c, measurement := m, tag, station := by_, uptime := s.time.uptime }] } := by
  have hroom : logRoom s = true := decide_eq_true h
  simp [extendChain, raiseIf, hroom]

/-- An extension for which the log has no room. -/
theorem extendChain_full {c : ChainNo} {v m : Bytes 32} {tag : List Byte} {by_ : Option Station} (h : 128 ≤ s.log.length) :
    extendChain c v m tag by_ s
      = { s with
          chains := s.chains.set c
            { s.chains.get c with value := v, count := min ((s.chains.get c).count + 1) 65535, logIncomplete := true }
          conditions := s.conditions.set 1 (some s.time.uptime) } := by
  have hroom : logRoom s = false := decide_eq_false (Nat.not_lt.2 h)
  simp [extendChain, raiseIf, hroom, Condition.index]

/-- Settles O30: the flag decides at start; the log's room decides at the end, unless a SoC reset has made the job
void. -/
theorem extendJobExtendsChain : Obligations.ExtendJobExtendsChain := by
  refine fun st q c m v tag rest s => ⟨fun h => ⟨fun hf => ?frozen, fun hf => ?starts⟩, fun hp hr => ?ends,
    fun d hp hr => ?void⟩
  case frozen => exact exec_jobStart h rfl (if_pos hf) (failJob_taken rfl rfl)
  case starts => exact exec_jobStart h rfl (if_neg (by simpa using hf)) (launch_taken _)
  case ends =>
    intro count
    have hend (after : State) (hafter : extendChain c v m tag (some st) s = after) (hrun : after.running = s.running) :
        exec .chainExtendJobEnd s = .next (ended st .ok .chainExtend (extendReply c s.log.length after) q after) :=
      exec_jobEnd_of hp hr rfl (finishSteps_done hr rfl) hr
        ((if_neg Bool.false_ne_true).trans (by rw [hafter, endJob_of (hrun.trans hr) rfl]; rfl)) rfl
    refine ⟨fun hlog => (hend _ (extendChain_room hlog) rfl).trans ?_,
      fun hlog => (hend _ (extendChain_full hlog) rfl).trans ?_⟩
    · simp [extendReply, count]
    · simp [extendReply, count]
  case void =>
    exact exec_jobEnd_of hp hr rfl (finishSteps_done hr rfl) hr
      (endJob_none hr (holder_crossed _ rfl)) rfl

end Sys2Proof.Machine
end

section
/-! PROOFS. A manifest's bytes and its fields (O32). -/

namespace Sys2Proof.Machine

open Sys2Proof

/-! ### Numbers and fields read back -/

theorem byte_toNat (n : Nat) : (byte n).toNat = n % 256 := by simp [byte]

theorem beNat_be16 {n : Nat} (h : n < 65536) : beNat (be16 n) = n := by
  simp only [beNat, be16, List.foldl, byte_toNat]
  omega

theorem beNat_be32 {n : Nat} (h : n < 4294967296) : beNat (be32 n) = n := by
  simp only [beNat, be32, List.foldl, byte_toNat]
  omega

@[simp] theorem Bank.ofByte_toByte (bank : Bank) : Bank.ofByte bank.toByte = some bank := by
  cases bank <;> decide

/-- The byte behind the fields before it. -/
theorem byteAt_behind {pre rest : List Byte} {x : Byte} {i : Nat} (h : pre.length = i) :
    byteAt (pre ++ x :: rest) i = x := by
  subst h
  simpa using byteAt_append pre (x :: rest) 0

theorem byteAt_append_left {x : List Byte} (y : List Byte) {i : Nat} (h : i < x.length) :
    byteAt (x ++ y) i = byteAt x i := by
  simp [byteAt, List.getD_eq_getElem?_getD, List.getElem?_append_left h]

/-! ### The actions of a manifest -/

/-- An action as the manifest's layout writes it. -/
def Action.bytes : Action → List Byte
  | .revoke slot => [1, byte slot]
  | .install slot key => [2, byte slot] ++ key.list

theorem readActions_revoke (n : Nat) (slot : Byte) (rest : List Byte) :
    readActions (n + 1) (1 :: slot :: rest)
      = (readActions n rest).map fun (actions, rest) => (.revoke slot.toNat :: actions, rest) := rfl

theorem readActions_install (n : Nat) (slot : Byte) {rest : List Byte} (h : 64 ≤ rest.length) :
    readActions (n + 1) (2 :: slot :: rest)
      = (readActions n (rest.drop 64)).map fun (actions, after) =>
          (.install slot.toNat (bytesAt 64 rest 0) :: actions, after) := if_neg (Nat.not_lt.2 h)

/-- Written actions are read back, with what stands behind them. -/
theorem readActions_bytes (rest : List Byte) : ∀ {actions : List Action}, (∀ a ∈ actions, a.slot < 256) →
    readActions actions.length (actions.flatMap Action.bytes ++ rest) = some (actions, rest)
  | [], _ => rfl
  | a :: actions, h => by
    obtain ⟨ha, htail⟩ := List.forall_mem_cons.1 h
    have hnext := readActions_bytes rest htail
    cases a with
    | revoke slot =>
      have hslot : (byte slot).toNat = slot := (byte_toNat slot).trans (Nat.mod_eq_of_lt ha)
      show readActions (actions.length + 1) (1 :: byte slot :: (actions.flatMap Action.bytes ++ rest)) = _
      rw [readActions_revoke, hnext, hslot]
      rfl
    | install slot key =>
      have hslot : (byte slot).toNat = slot := (byte_toNat slot).trans (Nat.mod_eq_of_lt ha)
      have hread := bytesAt_append [] (actions.flatMap Action.bytes ++ rest) key
      have hbehind : ((Action.install slot key :: actions).flatMap Action.bytes ++ rest)
          = 2 :: byte slot :: (key.list ++ (actions.flatMap Action.bytes ++ rest)) := by simp [Action.bytes]
      have hdrop := List.drop_left' (l₂ := actions.flatMap Action.bytes ++ rest) (Tbl.length_list key)
      rw [hbehind, List.length_cons, readActions_install _ _ (by simp), hdrop, hnext, hslot]
      exact congrArg (fun k => some (Action.install slot k :: actions, rest)) hread

/-- What stands behind the actions that are read has no part in reading them. -/
theorem readActions_append (y : List Byte) : ∀ {n : Nat} {x rest : List Byte} {actions : List Action},
    readActions n x = some (actions, rest) → readActions n (x ++ y) = some (actions, rest ++ y)
  | 0, x, rest, actions, h => by
    obtain ⟨rfl, rfl⟩ : [] = actions ∧ x = rest := by simpa [readActions] using h
    rfl
  | n + 1, x, rest, actions, h => by
    unfold readActions at h
    split at h
    · next slot x =>
      obtain ⟨⟨more, after⟩, hmore, heq⟩ := Option.map_eq_some_iff.1 h
      obtain ⟨rfl, rfl⟩ : Action.revoke slot.toNat :: more = actions ∧ after = rest := Prod.mk.inj heq
      show readActions (n + 1) (1 :: slot :: (x ++ y)) = _
      rw [readActions_revoke, readActions_append y hmore]
      rfl
    · next slot x =>
      split at h
      · exact absurd h (by simp)
      · next hlen =>
        obtain ⟨⟨more, after⟩, hmore, heq⟩ := Option.map_eq_some_iff.1 h
        obtain ⟨rfl, rfl⟩ : Action.install slot.toNat (bytesAt 64 x 0) :: more = actions ∧ after = rest :=
          Prod.mk.inj heq
        have hx : 64 ≤ x.length := Nat.not_lt.1 hlen
        have hkey : bytesAt 64 (x ++ y) 0 = bytesAt 64 x 0 := Tbl.ext_get fun i => by
          simp only [bytesAt, Tbl.get_ofFn]
          exact byteAt_append_left y (by omega)
        show readActions (n + 1) (2 :: slot :: (x ++ y)) = _
        rw [readActions_install _ _ (by rw [List.length_append]; omega), List.drop_append_of_le_length hx,
          readActions_append y hmore, hkey]
        rfl
    · exact absurd h (by simp)

/-! ### The form check -/

/-- A manifest that parses holds a count of actions behind its label, the actions, and 64 bytes behind them. -/
theorem parts_of_parse {raw : List Byte} {m : Manifest} (h : Manifest.parse raw = some m) :
    ∃ count rest actions signature, raw.drop (44 + (byteAt raw 43).toNat) = count :: rest
      ∧ readActions count.toNat rest = some (actions, signature) ∧ signature.length = 64 := by
  simp only [Manifest.parse] at h
  split at h
  · exact absurd h (by simp)
  · next count rest hrest =>
    split at h
    · next cls bank signer actions signature hc hb hs ha =>
      split at h
      · next hform =>
        simp only [Bool.and_eq_true, decide_eq_true_eq] at hform
        exact ⟨count, rest, actions, signature, hrest, ha, hform.2⟩
      · exact absurd h (by simp)
    · exact absurd h (by simp)

/-- Bytes that leave no signature of 64 bytes behind the actions do not parse. -/
theorem parse_eq_none {raw : List Byte} {count : Byte} {rest : List Byte} {actions : List Action} {signature : List Byte}
    (hrest : raw.drop (44 + (byteAt raw 43).toNat) = count :: rest)
    (ha : readActions count.toNat rest = some (actions, signature)) (hl : signature.length ≠ 64) :
    Manifest.parse raw = none := by
  refine Option.eq_none_iff_forall_ne_some.2 fun m h => ?_
  obtain ⟨count', rest', actions', signature', hrest', ha', hl'⟩ := parts_of_parse h
  obtain ⟨rfl, rfl⟩ := List.cons.inj (hrest.symm.trans hrest')
  obtain ⟨_, rfl⟩ := Prod.mk.inj (Option.some.inj (ha.symm.trans ha'))
  exact hl hl'

/-- No manifest is a manifest with bytes behind it. -/
theorem parse_append {raw y : List Byte} {m : Manifest} (h : Manifest.parse raw = some m) (hy : y ≠ []) :
    Manifest.parse (raw ++ y) = none := by
  obtain ⟨count, rest, actions, signature, hrest, ha, hl⟩ := parts_of_parse h
  have hlen : 44 + (byteAt raw 43).toNat < raw.length := by
    by_contra hshort
    simp [List.drop_eq_nil_of_le (Nat.not_lt.1 hshort)] at hrest
  have hn : byteAt (raw ++ y) 43 = byteAt raw 43 := byteAt_append_left y (by omega)
  refine parse_eq_none (count := count) (rest := rest ++ y) ?_ (readActions_append y ha) ?_
  · rw [hn, List.drop_append_of_le_length (by omega), hrest]
    rfl
  · have := List.length_pos_iff.2 hy
    rw [List.length_append]
    omega

/-- Bytes whose parts have the form of R67 parse to their fields. -/
theorem parse_of_parts {cls : ClassNo} {bank : Bank} {trial auto : Bool} {imageLength : Nat} {signer : Slot}
    {label : List Byte} {actions : List Action} {signature raw rest : List Byte} {count : Byte}
    (h0 : byteAt raw 0 = 1) (hc : byteAt raw 1 = byte cls) (hb : byteAt raw 2 = bank.toByte)
    (hf : byteAt raw 3 = byte (trial.toNat + 2 * auto.toNat)) (hi : nat32At raw 6 = imageLength)
    (h1 : 1 ≤ imageLength) (hmax : imageLength ≤ 67108864) (hs : byteAt raw 42 = byte signer)
    (hn : (byteAt raw 43).toNat = label.length) (hlabel : label.length ≤ 16)
    (hrest : raw.drop (44 + label.length) = count :: rest) (hcount : count.toNat ≤ 3)
    (ha : readActions count.toNat rest = some (actions, signature)) (hl : signature.length = 64) :
    Manifest.parse raw = some
      { raw, cls, bank, trial, autoPrepare := auto, version := nat16At raw 4, imageLength
        imageDigest := bytesAt 32 raw 10, signer, label := slice raw 44 label.length, actions
        signature := bytesAt 64 signature 0 } := by
  have hcls : fin? 4 (byte cls).toNat = some cls := fin?_byte (by decide) cls
  have hflags : (byte (trial.toNat + 2 * auto.toNat) &&& 0xFC == 0) = true
      ∧ hasBit (byte (trial.toNat + 2 * auto.toNat)) 0 = trial
      ∧ hasBit (byte (trial.toNat + 2 * auto.toNat)) 1 = auto := by
    cases trial <;> cases auto <;> decide
  obtain ⟨hreserved, htrial, hauto⟩ := hflags
  simp only [Manifest.parse, h0, hc, hb, hf, hi, hs, hn, hrest, ha, hcls, fin?_slot, Bank.ofByte_toByte, hreserved, htrial,
    hauto, h1, hmax, hlabel, hcount, hl, decide_true, Bool.and_self, BEq.rfl, if_true]

/-- Settles O32: the layout's fields are read back one by one; what is longer or shorter than a manifest is none. -/
theorem manifestLayoutParses : Obligations.ManifestLayoutParses := by
  intro cls bank trial auto version imageLength imageDigest signer label actions signature extra hv h1 hmax hlabel hacts
    hslots raw
  let head : List Byte :=
    [1, byte cls, bank.toByte, byte (trial.toNat + 2 * auto.toNat)] ++ be16 version ++ be32 imageLength
  let behind : List Byte := byte actions.length :: (actions.flatMap Action.bytes ++ signature.list)
  have hlayout : raw = head ++ imageDigest.list ++ [byte signer, byte label.length] ++ label ++ [byte actions.length]
      ++ actions.flatMap Action.bytes ++ signature.list :=
    congrArg (fun f => head ++ imageDigest.list ++ [byte signer, byte label.length] ++ label ++ [byte actions.length]
      ++ actions.flatMap f ++ signature.list) (funext fun a => by cases a <;> rfl)
  have hraw : raw = head ++ (imageDigest.list ++ byte signer :: byte label.length :: (label ++ behind)) := by
    rw [hlayout]
    simp only [behind, List.append_assoc, List.cons_append, List.nil_append]
  have hdigest : (head ++ imageDigest.list).length = 42 := by
    rw [List.length_append, Tbl.length_list]
    rfl
  have hn : (byte label.length).toNat = label.length := by
    rw [byte_toNat]
    omega
  let pre : List Byte := head ++ imageDigest.list ++ [byte signer, byte label.length]
  have hpre : pre.length = 44 := by
    simp only [pre, List.length_append, hdigest, List.length_cons, List.length_nil]
  have hfields : raw = pre ++ (label ++ behind) := by simp [hraw, pre]
  have hparse : Manifest.parse raw = some
      { raw, cls, bank, trial, autoPrepare := auto, version := nat16At raw 4, imageLength
        imageDigest := bytesAt 32 raw 10, signer, label := slice raw 44 label.length, actions
        signature := bytesAt 64 signature.list 0 } := by
    refine parse_of_parts (count := byte actions.length) (rest := actions.flatMap Action.bytes ++ signature.list)
      (by rw [hraw]; rfl) (by rw [hraw]; rfl) (by rw [hraw]; rfl) (by rw [hraw]; rfl) ?length h1 hmax ?signer ?n hlabel
      ?rest ?count ?actions (Tbl.length_list signature)
    case length =>
      rw [hraw]
      exact beNat_be32 (by omega)
    case signer =>
      rw [hraw, ← List.append_assoc]
      exact byteAt_behind hdigest
    case n =>
      have hlast : byteAt raw 43 = byte label.length := by
        rw [hraw, ← List.append_assoc, List.append_cons]
        exact byteAt_behind (by rw [List.length_append, hdigest]; rfl)
      rw [hlast, hn]
    case rest =>
      rw [hfields, ← List.append_assoc]
      exact List.drop_left' (by rw [List.length_append, hpre])
    case count =>
      rw [byte_toNat]
      omega
    case actions =>
      have hcount : (byte actions.length).toNat = actions.length := by
        rw [byte_toNat]
        omega
      rw [hcount]
      exact readActions_bytes _ hslots
  have hversion : nat16At raw 4 = version := by
    rw [hraw]
    exact beNat_be16 hv
  have himage : bytesAt 32 raw 10 = imageDigest := by
    rw [hraw]
    exact bytesAt_append head _ imageDigest
  have hread : slice raw 44 label.length = label := by
    rw [hfields, ← hpre]
    exact slice_append pre label behind
  rw [hversion, himage, hread, bytesAt_list] at hparse
  refine ⟨hparse, parse_append hparse, fun n hn => Option.eq_none_iff_forall_ne_some.2 fun m hm => ?_⟩
  have hcut := parse_append hm (y := raw.drop n) (by simpa using hn)
  rw [List.take_append_drop, hparse] at hcut
  exact absurd hcut (by simp)

end Sys2Proof.Machine
end

section
/-! PROOFS. The manifest job and the chunk job (O31, O33). -/

namespace Sys2Proof.Machine

open Sys2Proof

/-! ### A list of tests -/

section Tests

variable {α ε : Type} {f : α → Except ε Unit}

theorem forM_ok : ∀ {l : List α}, (∀ a ∈ l, f a = .ok ()) → l.forM f = .ok ()
  | [], _ => rfl
  | a :: l, h => by
    obtain ⟨ha, hl⟩ := List.forall_mem_cons.1 h
    show (f a >>= fun _ => l.forM f) = _
    rw [ha]
    exact forM_ok hl

/-- The first test that fails gives the result of a list of tests. -/
theorem forM_error {a : α} {after : List α} {e : ε} (ha : f a = .error e) :
    ∀ {before : List α}, (∀ b ∈ before, f b = .ok ()) → (before ++ a :: after).forM f = .error e
  | [], _ => by
    show (f a >>= fun _ => after.forM f) = _
    rw [ha]
    rfl
  | b :: before, h => by
    obtain ⟨hb, hbefore⟩ := List.forall_mem_cons.1 h
    show (f b >>= fun _ => (before ++ a :: after).forM f) = _
    rw [hb]
    exact forM_error ha hbefore

end Tests

variable {s : State} {m : Manifest}

/-! ### The check of a manifest's actions (R71) -/

/-- The slot that an action names is a vendor slot that no other action of the manifest names. -/
def Manifest.Alone (m : Manifest) (n : Nat) : Prop := n < 6 ∧ m.actions.countP (fun a => a.slot == n) = 1

/-- The slot numbered `n` is EMPTY. -/
def EmptySlot (n : Nat) (s : State) : Prop := ∃ slot : Slot, slot.val = n ∧ s.keys.get slot = .empty

/-- The tests of one action hold (R71). -/
def Manifest.Admits (m : Manifest) (s : State) : Action → Prop
  | .revoke n => m.Alone n ∧ ∃ (slot : Slot) (k : KeyRecord), slot.val = n ∧ s.keys.get slot = .active k ∧ slot ≠ m.signer
  | .install n key => m.Alone n ∧ EmptySlot n s ∧ digest key.list ∉ s.revoked
      ∧ (∀ (x : Slot) (k : KeyRecord), s.keys.get x = .active k → k.fingerprint ≠ digest key.list)
      ∧ m.actions.countP (Action.installs (digest key.list)) = 1

/-- An action whose only fault is a revoked key. -/
def Manifest.InstallsRevoked (m : Manifest) (s : State) (a : Action) : Prop :=
  ∃ n key, a = .install n key ∧ m.Alone n ∧ EmptySlot n s ∧ digest key.list ∈ s.revoked

/-- A predicate that one member of a list meets counts exactly once, or more than once. -/
theorem countP_eq_one_or {α : Type} {p : α → Bool} {l : List α} {a : α} (ha : a ∈ l) (hp : p a = true) :
    l.countP p = 1 ↔ ¬1 < l.countP p := by
  have : 0 < l.countP p := List.countP_pos_iff.2 ⟨a, ha, hp⟩
  omega

/-- An action that names no slot of its own. -/
theorem checkAction_notAlone {a : Action} (ha : a ∈ m.actions) (h : ¬m.Alone a.slot) :
    checkAction m s a = .error .badArgument := by
  unfold checkAction
  cases hf : fin? 64 a.slot with
  | none => rfl
  | some slot =>
    refine if_pos ?_
    rw [Manifest.Alone, countP_eq_one_or ha (BEq.rfl : (a.slot == a.slot) = true)] at h
    simp only [isVendor, Bool.or_eq_true, Bool.not_eq_true', decide_eq_false_iff_not, decide_eq_true_eq]
    tauto

/-- The test that an action names a vendor slot of its own passes. -/
theorem alone_passes {n : Nat} (h : m.Alone n) :
    (!isVendor n || decide (1 < m.actions.countP fun b => b.slot == n)) = false := by
  simp [isVendor, h.1, h.2]

/-- A REVOKE of a slot that it alone names goes on to the test of the slot. -/
theorem checkAction_revoke {n : Nat} {slot : Slot} (hslot : slot.val = n) (h : m.Alone n) :
    checkAction m s (.revoke n)
      = if (activeKey? slot s).isSome && slot != m.signer then .ok () else .error .badArgument := by
  subst hslot
  have hslot : fin? 64 (Action.revoke slot.val).slot = some slot := fin?_of_lt slot.isLt
  rw [checkAction, hslot]
  exact if_neg (Bool.eq_false_iff.1 (alone_passes h))

/-- An INSTALL_VENDOR_KEY of a slot that it alone names goes on to the tests of the slot and the key. -/
theorem checkAction_install {n : Nat} {slot : Slot} {key : Bytes 64} (hslot : slot.val = n) (h : m.Alone n) :
    checkAction m s (.install n key)
      = if s.keys.get slot != .empty then .error .badArgument
        else if s.revoked.contains (digest key.list) then .error .revoked
        else if holdsFingerprint (digest key.list) s
            || decide (1 < m.actions.countP (Action.installs (digest key.list))) then .error .badArgument
        else .ok () := by
  subst hslot
  have hslot : fin? 64 (Action.install slot.val key).slot = some slot := fin?_of_lt slot.isLt
  rw [checkAction, hslot]
  exact if_neg (Bool.eq_false_iff.1 (alone_passes h))

theorem emptySlot_iff {slot : Slot} : EmptySlot slot.val s ↔ s.keys.get slot = .empty :=
  ⟨fun ⟨_, hx, he⟩ => Fin.ext hx ▸ he, fun he => ⟨slot, rfl, he⟩⟩

/-- What the check of a REVOKE answers. -/
theorem checkAction_revoke_eq {n : Nat} (ha : Action.revoke n ∈ m.actions) :
    (m.Admits s (.revoke n) → checkAction m s (.revoke n) = .ok ())
      ∧ (¬m.Admits s (.revoke n) → checkAction m s (.revoke n) = .error .badArgument) := by
  by_cases halone : m.Alone n
  · have hlt : n < 64 := Nat.lt_trans halone.1 (by decide)
    have hadmits : m.Admits s (.revoke n) ↔ ((activeKey? ⟨n, hlt⟩ s).isSome && (⟨n, hlt⟩ : Slot) != m.signer) = true := by
      rw [Bool.and_eq_true, Option.isSome_iff_exists, bne_iff_ne]
      constructor
      · rintro ⟨-, slot, k, rfl, hk, hne⟩
        exact ⟨⟨k, activeKey?_eq_some.2 hk⟩, hne⟩
      · rintro ⟨⟨k, hk⟩, hne⟩
        exact ⟨halone, ⟨n, hlt⟩, k, rfl, activeKey?_eq_some.1 hk, hne⟩
    rw [checkAction_revoke (slot := ⟨n, hlt⟩) rfl halone, hadmits]
    exact ⟨fun h => if_pos h, fun h => if_neg h⟩
  · exact ⟨fun h => absurd h.1 halone, fun _ => checkAction_notAlone ha halone⟩

/-- What the check of an INSTALL_VENDOR_KEY answers. -/
theorem checkAction_install_eq {n : Nat} {key : Bytes 64} (ha : Action.install n key ∈ m.actions) :
    (m.Admits s (.install n key) → checkAction m s (.install n key) = .ok ())
      ∧ (m.InstallsRevoked s (.install n key) → checkAction m s (.install n key) = .error .revoked)
      ∧ (¬m.Admits s (.install n key) → ¬m.InstallsRevoked s (.install n key) →
        checkAction m s (.install n key) = .error .badArgument) := by
  by_cases halone : m.Alone n
  · have hlt : n < 64 := Nat.lt_trans halone.1 (by decide)
    have hcheck := checkAction_install (s := s) (key := key) (slot := ⟨n, hlt⟩) rfl halone
    have hempty : EmptySlot n s ↔ s.keys.get ⟨n, hlt⟩ = .empty := emptySlot_iff (slot := ⟨n, hlt⟩)
    have hfree : (holdsFingerprint (digest key.list) s
          || decide (1 < m.actions.countP (Action.installs (digest key.list)))) = false
        ↔ (∀ (x : Slot) (k : KeyRecord), s.keys.get x = .active k → k.fingerprint ≠ digest key.list)
          ∧ m.actions.countP (Action.installs (digest key.list)) = 1 := by
      rw [countP_eq_one_or ha (BEq.rfl : (digest key.list == digest key.list) = true), Bool.or_eq_false_iff,
        decide_eq_false_iff_not, ← Bool.not_eq_true, holdsFingerprint_iff]
      simp only [not_exists, not_and, ne_eq]
    by_cases he : s.keys.get ⟨n, hlt⟩ = .empty
    · have hoccupied : ¬(s.keys.get ⟨n, hlt⟩ != .empty) = true := by simp [he]
      rw [if_neg hoccupied] at hcheck
      by_cases hrev : digest key.list ∈ s.revoked
      · rw [if_pos (by simpa using hrev)] at hcheck
        exact ⟨fun h => absurd hrev h.2.2.1, fun _ => hcheck, fun _ h => absurd ⟨n, key, rfl, halone, hempty.2 he, hrev⟩ h⟩
      · rw [if_neg (by simpa using hrev)] at hcheck
        refine ⟨fun ⟨_, _, _, hdiffers, hone⟩ => ?_, ?_, fun h _ => ?_⟩
        · rw [hcheck, hfree.2 ⟨hdiffers, hone⟩]
          rfl
        · rintro ⟨n', key', heq, -, -, hmem⟩
          obtain ⟨-, rfl⟩ := Action.install.inj heq
          exact absurd hmem hrev
        · rw [hcheck, if_pos]
          by_contra hno
          exact h ⟨halone, hempty.2 he, hrev, hfree.1 (Bool.eq_false_iff.2 hno)⟩
    · rw [if_pos (by simpa using he)] at hcheck
      refine ⟨fun h => absurd (hempty.1 h.2.1) he, ?_, fun _ _ => hcheck⟩
      rintro ⟨n', key', heq, -, hem, -⟩
      obtain ⟨rfl, -⟩ := Action.install.inj heq
      exact absurd (hempty.1 hem) he
  · refine ⟨fun h => absurd h.1 halone, ?_, fun _ _ => checkAction_notAlone ha halone⟩
    rintro ⟨n', key', heq, h, -, -⟩
    obtain ⟨rfl, -⟩ := Action.install.inj heq
    exact absurd h halone

/-- What the check of one action answers. -/
theorem checkAction_eq {a : Action} (ha : a ∈ m.actions) :
    (m.Admits s a → checkAction m s a = .ok ())
      ∧ (m.InstallsRevoked s a → checkAction m s a = .error .revoked)
      ∧ (¬m.Admits s a → ¬m.InstallsRevoked s a → checkAction m s a = .error .badArgument) := by
  cases a with
  | revoke n =>
    refine ⟨(checkAction_revoke_eq ha).1, ?_, fun h _ => (checkAction_revoke_eq ha).2 h⟩
    rintro ⟨_, _, heq, -⟩
    cases heq
  | install n key => exact checkAction_install_eq ha

/-- A vendor update key survives the actions (R71). -/
def Survives (actions : List Action) (s : State) : Prop :=
  (∃ n key, Action.install n key ∈ actions)
    ∨ ∃ (x : Slot) (k : KeyRecord), x.val < 6 ∧ s.keys.get x = .active k ∧ hasBit k.usage 3 = true
        ∧ Action.revoke x.val ∉ actions

theorem vendorSurvives_iff {except : Slot → Bool} :
    vendorSurvives except s = true
      ↔ ∃ (x : Slot) (k : KeyRecord), x.val < 6 ∧ s.keys.get x = .active k ∧ hasBit k.usage 3 = true ∧ except x = false := by
  simp only [vendorSurvives, List.any_eq_true, List.mem_finRange, true_and, isVendor, Bool.and_eq_true,
    Bool.not_eq_true', decide_eq_true_eq]
  refine exists_congr fun x => ?_
  cases s.keys.get x with
  | active k => simp only [KeySlot.active.injEq, exists_and_left, exists_eq_left']; tauto
  | _ => simp

theorem survivesActions_iff {actions : List Action} : survivesActions actions s = true ↔ Survives actions s := by
  have hinstall : actions.any (fun a => !a.isRevoke) = true ↔ ∃ n key, Action.install n key ∈ actions := by
    rw [List.any_eq_true]
    constructor
    · rintro ⟨_ | ⟨n, key⟩, hmem, hno⟩
      · cases hno
      · exact ⟨n, key, hmem⟩
    · rintro ⟨n, key, hmem⟩
      exact ⟨_, hmem, rfl⟩
  have hspared (x : Slot) : (actions.any fun a => a.isRevoke && a.slot == x.val) = false ↔ Action.revoke x.val ∉ actions := by
    rw [← Bool.not_eq_true, List.any_eq_true]
    refine not_congr ⟨?_, fun h => ⟨_, h, by simp [Action.isRevoke, Action.slot]⟩⟩
    rintro ⟨n | ⟨n, key⟩, hmem, hb⟩
    · obtain rfl : n = x.val := by simpa [Action.isRevoke, Action.slot] using hb
      exact hmem
    · simp [Action.isRevoke] at hb
  rw [survivesActions, Bool.or_eq_true, hinstall, vendorSurvives_iff]
  simp only [hspared]
  rfl

/-- The check of a vendor-signed manifest's actions, when each passes its own tests. -/
theorem checkActions_of_admitted (hne : m.actions ≠ []) (h : ∀ a ∈ m.actions, m.Admits s a) :
    checkActions true m s
      = if !survivesActions m.actions s then .error .badArgument
        else if Config.revocationCap < s.revoked.length + m.actions.countP Action.isRevoke then .error .tableFull
        else .ok () := by
  have hall := forM_ok (f := checkAction m s) fun a ha => (checkAction_eq ha).1 (h a ha)
  have hsome : m.actions.isEmpty = false := by simpa using hne
  simp only [checkActions, hsome, hall]
  rfl

/-- The check of a vendor-signed manifest's actions, when one of them is the first to fail. -/
theorem checkActions_of_failed {before after : List Action} {a : Action} {r : Result} (heq : m.actions = before ++ a :: after)
    (hbefore : ∀ b ∈ before, m.Admits s b) (ha : checkAction m s a = .error r) :
    checkActions true m s = .error r := by
  have hmem : ∀ b ∈ before, b ∈ m.actions := fun b hb => heq ▸ List.mem_append_left _ hb
  have hall := forM_error (after := after) ha fun b hb => (checkAction_eq (hmem b hb)).1 (hbefore b hb)
  have hsome : m.actions.isEmpty = false := by simp [heq]
  rw [← heq] at hall
  simp only [checkActions, hsome, hall]
  rfl

/-! ### The manifest check (R69 to R71) -/

theorem raw_of_parse {raw : List Byte} (h : Manifest.parse raw = some m) : m.raw = raw := by
  simp only [Manifest.parse] at h
  split at h
  · exact absurd h (by simp)
  · split at h
    · split at h
      · exact (Option.some.inj h) ▸ rfl
      · exact absurd h (by simp)
    · exact absurd h (by simp)

theorem signsClass_iff {k : KeyRecord} {c : ClassNo} :
    signsClass k c = true ↔ hasBit k.usage 3 = true ∨ c = 3 ∧ hasBit k.usage 4 = true := by
  simp [signsClass]

/-- A manifest that no key that may sign its class has signed. -/
theorem checkManifest_unsigned {raw : List Byte} (hm : Manifest.parse raw = some m)
    (h : ∀ k, s.keys.get m.signer = .active k → hasBit k.usage 3 = false ∧ (m.cls = 3 → hasBit k.usage 4 = false)) :
    checkManifest raw s = .error .keyUsage := by
  have hnone : (activeKey? m.signer s).filter (fun k => signsClass k m.cls) = none := by
    cases hk : activeKey? m.signer s with
    | none => rfl
    | some k =>
      obtain ⟨h3, h4⟩ := h k (activeKey?_eq_some.1 hk)
      have hno : signsClass k m.cls = false := by
        rw [← Bool.not_eq_true, signsClass_iff]
        rintro (h | ⟨hc, h⟩)
        · exact absurd h (by simp [h3])
        · exact absurd h (by simp [h4 hc])
      simp [Option.filter, hno]
  simp only [checkManifest, hm, hnone]

/-- The checks of a manifest behind its signer's, in their order. -/
theorem checkManifest_signed {raw : List Byte} {k : KeyRecord} {pub : Bytes 64} {r : ClassRecord}
    (hm : Manifest.parse raw = some m) (hk : s.keys.get m.signer = .active k) (hpub : k.material = .verifying pub)
    (hsign : hasBit k.usage 3 = true ∨ m.cls = 3 ∧ hasBit k.usage 4 = true) (hr : s.classes.get m.cls = some r) :
    checkManifest raw s =
      if Config.signatureValid pub (digest (raw.take (raw.length - 64))) m.signature = false then .error .signatureInvalid
      else if m.version < r.floor then .error .rollback
      else if m.cls = 2 ∧ (m.bank = .b ∨ m.trial = true) then .error .badArgument
      else (checkActions (hasBit k.usage 3) m s).map fun _ => m := by
  have hsome : (activeKey? m.signer s).filter (fun k => signsClass k m.cls) = some k := by
    simp [activeKey?_of_active hk, Option.filter, signsClass_iff.2 hsign]
  have hsigned : m.signed = raw.take (raw.length - 64) := by rw [Manifest.signed, raw_of_parse hm]
  simp only [checkManifest, hm, hsome, hpub, Material.publicKey?, hsigned, floorOf_of_class hr]
  congr 1
  · simp
  · congr 1
    congr 1
    simp

/-- What the check of the actions makes of a manifest that either kind of key signed. -/
theorem checkActions_map (b : Bool) (m : Manifest) (s : State) :
    (checkActions b m s).map (fun _ => m)
      = if m.actions = [] then .ok m else if b = false then .error .badArgument
        else (checkActions true m s).map fun _ => m := by
  by_cases h : m.actions = []
  · simp only [checkActions, h, List.isEmpty_nil, if_true]
    rfl
  · rw [if_neg h]
    cases b with
    | true => rfl
    | false =>
      have hsome : m.actions.isEmpty = false := by simpa using h
      simp only [checkActions, hsome]
      rfl

theorem startUpdateOpen_ok {raw : List Byte} {limit : Nat} (hs : s.stream = .checking raw limit)
    (hm : checkManifest raw s = .ok m) : startUpdateOpen s = launch (.manifestOk m) [] s := by
  simp only [startUpdateOpen, hs, hm]

theorem startUpdateOpen_bad {raw : List Byte} {limit : Nat} {r : Result} (hs : s.stream = .checking raw limit)
    (hm : checkManifest raw s = .error r) : startUpdateOpen s = launch (.manifestBad r) [] s := by
  simp only [startUpdateOpen, hs, hm]

theorem endUpdateOpen_ok {q : Bool} {raw : List Byte} {limit : Nat} (hs : s.stream = .checking raw limit) :
    endUpdateOpen (fresh (stationJob 2 q .updateOpen) [] (.manifestOk m) []) s
      = endJob .ok (openReply m limit) { s with stream := .receiving m limit 0 [] (idleDeadline s) } := by
  simp [endUpdateOpen, hs]

theorem endUpdateOpen_bad {q : Bool} {raw : List Byte} {limit : Nat} {r : Result} (hs : s.stream = .checking raw limit) :
    endUpdateOpen (fresh (stationJob 2 q .updateOpen) [] (.manifestBad r) []) s
      = endJob r [5, r.toByte]
          { s with stream := .failed raw limit 0 r, conditions := s.conditions.set 2 (some s.time.uptime) } := by
  simp [endUpdateOpen, hs, failStream, raiseCond, Condition.index, streamReason, Stream.toByte]

/-- Settles O31: the stream's state and the data decide at the end; the checks go by their order. -/
theorem manifestJobMovesStream : Obligations.ManifestJobMovesStream := by
  refine ⟨fun q raw limit m r rest s => ⟨fun h hs => ?start, fun hp hs => ⟨fun hr => ?passes, fun hr => ?fails⟩,
      fun d hp => ⟨fun hr => ?dropped, fun dropped hr => ?crossed⟩⟩,
    fun raw m s hm => ⟨checkManifest_unsigned hm, fun k pub r hk hpub hsign hr => ?checks⟩,
    fun raw s hm => by simp only [checkManifest, hm],
    fun raw m k pub r s hm hk hpub hvendor hr hfloor hclass => ?actions⟩
  case start =>
    cases hx : checkManifest raw s with
    | ok x => exact exec_jobStart h rfl (startUpdateOpen_ok (s := taken 2 q .updateOpen rest s) hs hx) rfl
    | error e => exact exec_jobStart h rfl (startUpdateOpen_bad (s := taken 2 q .updateOpen rest s) hs hx) rfl
  case passes =>
    exact exec_jobEnd_of hp hr rfl (finishSteps_done hr rfl) hr
      ((endUpdateOpen_ok hs).trans (endJob_of (s := { s with stream := .receiving m limit 0 [] _ }) hr rfl)) rfl
  case fails =>
    exact exec_jobEnd_of hp hr rfl (finishSteps_done hr rfl) hr
      ((endUpdateOpen_bad hs).trans (endJob_of (s := { s with stream := .failed raw limit 0 r, conditions := _ }) hr rfl)) rfl
  case dropped =>
    exact exec_jobEnd_of hp hr rfl (finishSteps_done hr rfl) hr ((if_pos rfl).trans (endJob_of hr rfl)) rfl
  case crossed =>
    exact exec_jobEnd_of hp hr rfl (finishSteps_done hr rfl) hr
      ((if_pos (by simp)).trans (endJob_none hr (holder_crossed _ rfl))) rfl
  case checks => rw [checkManifest_signed hm hk hpub hsign hr, checkActions_map]
  case actions =>
    intro answers alone empty installs good survives revokes
    have hinstalls : ∀ key, installs key = Action.installs (digest key.list) := fun key => by
      funext a
      cases a <;> rfl
    have hgood (a : Action) : good a ↔ m.Admits s a := by
      cases a with
      | revoke n => exact Iff.rfl
      | install n key =>
        simp only [good, hinstalls]
        exact Iff.rfl
    have hrevokes : revokes = m.actions.countP Action.isRevoke :=
      congrArg (fun p => m.actions.countP p) (funext fun a => by cases a <;> rfl)
    have hanswers (x : Except Result Manifest) (hx : (checkActions true m s).map (fun _ => m) = x) : answers x := by
      have hbank : ¬(m.cls = 2 ∧ (m.bank = .b ∨ m.trial = true)) := by
        rintro ⟨hc, hb⟩
        obtain ⟨hA, hT⟩ := hclass hc
        rcases hb with hb | hb
        · exact absurd (hA.symm.trans hb) (by decide)
        · exact absurd (hT.symm.trans hb) (by decide)
      show checkManifest raw s = _
      rw [checkManifest_signed hm hk hpub (.inl hvendor) hr, if_neg (Nat.not_lt.2 hfloor), if_neg hbank, hvendor, hx]
    refine ⟨fun hall hne => ?_, fun before after a heq hbefore hbad => ?_⟩
    · have hchecked := checkActions_of_admitted hne fun a ha => (hgood a).1 (hall a ha)
      refine ⟨fun hno => hanswers _ ?_, fun hyes hfull => hanswers _ ?_, fun hyes hroom => hanswers _ ?_⟩
      · rw [hchecked, if_pos (by simpa using fun h => hno (survivesActions_iff.1 h))]
        rfl
      all_goals rw [hchecked, if_neg (by simpa using survivesActions_iff.2 hyes)]
      · rw [if_pos (hrevokes ▸ hfull)]
        rfl
      · rw [if_neg (Nat.not_lt.2 (hrevokes ▸ hroom))]
        rfl
    · have hmem : a ∈ m.actions := heq ▸ List.mem_append_right _ List.mem_cons_self
      have hadmits : ∀ b ∈ before, m.Admits s b := fun b hb => (hgood b).1 (hbefore b hb)
      refine ⟨fun hrev => hanswers _ ?_, fun hrev => hanswers _ ?_⟩
      · rw [checkActions_of_failed heq hadmits ((checkAction_eq hmem).2.1 hrev)]
        rfl
      · rw [checkActions_of_failed heq hadmits ((checkAction_eq hmem).2.2 (fun h => hbad ((hgood a).2 h)) hrev)]
        rfl

/-! ### The chunk job (O33) -/

section Chunk

variable {q : Bool} {chunk absorbed : List Byte} {limit n : Nat} {rest : List Job}

theorem startUpdateData_failed {raw : List Byte} {r : Result} (hs : s.stream = .failed raw limit n r) :
    startUpdateData s = failJob .streamState [5, r.toByte] s := by
  simp [startUpdateData, hs, streamReason, Stream.toByte]

theorem startUpdateData_absorbing (hs : s.stream = .absorbing m limit n absorbed) :
    startUpdateData s = launch .blank [] s := by
  simp [startUpdateData, hs]

variable {run : Running} (hc : run.crossed = false) (hd : run.dropped = false)
  (hs : s.stream = .absorbing m limit n absorbed)
include hc hd hs

theorem endUpdateData_more (h : n + chunk.length < m.imageLength) :
    endUpdateData chunk run s
      = endJob .ok (2 :: be32 (n + chunk.length))
          { s with stream := .receiving m limit (n + chunk.length) (absorbed ++ chunk) (idleDeadline s) } := by
  simp [endUpdateData, hc, hd, hs, h]

theorem endUpdateData_match (h : m.imageLength ≤ n + chunk.length) (himage : digest (absorbed ++ chunk) = m.imageDigest) :
    endUpdateData chunk run s = endVerified m limit (n + chunk.length) s := by
  simp [endUpdateData, hc, hd, hs, Nat.not_lt.2 h, himage]

theorem endUpdateData_mismatch (h : m.imageLength ≤ n + chunk.length)
    (himage : digest (absorbed ++ chunk) ≠ m.imageDigest) :
    endUpdateData chunk run s
      = endJob .digestMismatch [5, 66]
          { s with stream := .failed m.raw limit (n + chunk.length) .digestMismatch
                   conditions := s.conditions.set 2 (some s.time.uptime) } := by
  simp [endUpdateData, hc, hd, hs, Nat.not_lt.2 h, himage, failStream, raiseCond, Condition.index, streamReason,
    Stream.toByte, Result.toByte]

end Chunk

/-- Settles O33: the image's length and digest decide at the end, and for AUTO_PREPARE the checks of a prepare. -/
theorem chunkJobAbsorbs : Obligations.ChunkJobAbsorbs := by
  refine ⟨fun q chunk absorbed m limit n rest s => ⟨fun h => ⟨fun hs => ?start, fun raw r hs => ?swept⟩,
      fun hp hs hr => ?ends, fun d hp => ⟨fun hr => ?dropped, fun dropped hr => ?crossed⟩⟩,
    fun q chunk absorbed m limit n r s hp hs hauto hr hlen himage hclass => ?auto⟩
  case start => exact exec_jobStart h rfl (startUpdateData_absorbing hs) rfl
  case swept => exact exec_jobStart h rfl (startUpdateData_failed hs) (failJob_taken rfl rfl)
  case ends =>
    intro received image
    have hend {r : Result} {body : List Byte} {u : State} (hu : u.running = s.running)
        (h : endUpdateData chunk (fresh (stationJob 2 q (.updateData chunk)) [] .blank []) s = endJob r body u) :
        exec .updateDataJobEnd s = .next (ended 2 r .updateData body q u) :=
      exec_jobEnd_of hp hr rfl (finishSteps_done hr rfl) hr (h.trans (endJob_of (hu.trans hr) rfl)) rfl
    refine ⟨fun hmore => hend rfl (endUpdateData_more rfl rfl hs hmore), fun hdone hmatch hauto => hend rfl ?_,
      fun hdone hno => hend rfl (endUpdateData_mismatch rfl rfl hs hdone hno)⟩
    rw [endUpdateData_match rfl rfl hs hdone hmatch]
    simp [endVerified, hauto, received]
  case dropped =>
    exact exec_jobEnd_of hp hr rfl (finishSteps_done hr rfl) hr ((if_pos rfl).trans (endJob_of hr rfl)) rfl
  case crossed =>
    exact exec_jobEnd_of hp hr rfl (finishSteps_done hr rfl) hr
      ((if_pos (by simp)).trans (endJob_none hr (holder_crossed _ rfl))) rfl
  case auto =>
    intro refused placeable
    let verified : State := { s with stream := .verified m limit (n + chunk.length) }
    have hend {body : List Byte} {u : State} (hu : u.running = s.running)
        (h : endVerified m limit (n + chunk.length) s = endJob .ok body u) :
        exec .updateDataJobEnd s = .next (ended 2 .ok .updateData body q u) :=
      exec_jobEnd_of hp hr rfl (finishSteps_done hr rfl) hr
        ((endUpdateData_match rfl rfl hs hlen himage).trans (h.trans (endJob_of (hu.trans hr) rfl))) rfl
    have hrefused (x : Result) (h : checkPrepare verified = .error x) : refused x.toByte :=
      hend rfl (by simp only [endVerified, hauto, if_true]; rw [h])
    refine ⟨fun h => hrefused .rollback (checkPrepare_rollback rfl hclass h),
      fun hfloor hno => hrefused .revoked (checkPrepare_revoked rfl hclass hfloor hno), fun k hfloor hk =>
      ⟨fun hno => hrefused .badArgument ?bad, fun hplace hall => hrefused .targetFull ?full,
        fun hplace i hi hfirst => ?placed⟩⟩
    case bad =>
      obtain ⟨ht, hbank⟩ : m.trial = true ∧ (m.cls = 2 ∨ r.active = m.bank) := by
        by_contra hcon
        exact hno fun ht => ⟨fun h => hcon ⟨ht, .inl h⟩, fun h => hcon ⟨ht, .inr h⟩⟩
      exact checkPrepare_badArgument rfl hclass hfloor hk ht hbank
    case full =>
      rw [checkPrepare_entry (s := verified) rfl hclass hfloor hk hplace, firstEmptyTarget_of_full (s := verified) hall]
      rfl
    case placed =>
      have hcheck : checkPrepare verified = .ok (i, m.target) := by
        rw [checkPrepare_entry (s := verified) rfl hclass hfloor hk hplace, firstEmptyTarget_of_first (s := verified) hi hfirst]
        rfl
      exact hend rfl (by simp only [endVerified, hauto, if_true]; rw [hcheck]; rfl)

end Sys2Proof.Machine
end

section
/-! PROOFS. The boot directory's jobs: what each of their steps leaves, the checks of an activation, trial and permanent
activations, the confirm (O34 to O36). -/

namespace Sys2Proof.Machine

open Sys2Proof

variable {s t u : State}

/-! ### Class records -/

theorem ClassRecord.image_setImage (r : ClassRecord) (bank other : Bank) (i : Option ImageRecord) :
    (r.setImage bank i).image other = if other = bank then i else r.image other := by
  cases bank <;> cases other <;> rfl

@[simp] theorem ClassRecord.setImage_image (r : ClassRecord) (bank : Bank) : r.setImage bank (r.image bank) = r := by
  cases bank <;> rfl

/-- An image record marked stale when it falls below a floor (R91). -/
def ImageRecord.markBelow (floor : Nat) (i : ImageRecord) : ImageRecord :=
  { i with stale := i.stale || decide (i.version < floor) }

theorem ClassRecord.markBelow_eq (r : ClassRecord) (bank : Bank) :
    r.markBelow bank = r.setImage bank ((r.image bank).map (ImageRecord.markBelow r.floor)) := by
  cases hi : r.image bank with
  | none =>
    have hsame := r.setImage_image bank
    rw [hi] at hsame
    simp only [ClassRecord.markBelow, hi, Option.map_none, hsame]
  | some i =>
    by_cases hlt : i.version < r.floor
    · simp [ClassRecord.markBelow, hi, hlt, ImageRecord.markBelow]
    · have hsame := r.setImage_image bank
      rw [hi] at hsame
      simp [ClassRecord.markBelow, hi, hlt, ImageRecord.markBelow, hsame]

theorem Bank.eq_other {bank other : Bank} (h : other ≠ bank) : other = bank.other := by
  revert h
  cases bank <;> cases other <;> decide

/-- The fields of an activated class record (R95). -/
theorem ClassRecord.activated_fields (r : ClassRecord) (t : Target) :
    (r.activated t).active = t.bank ∧ (r.activated t).floor = max r.floor t.version ∧ (r.activated t).state = r.state
      ∧ (r.activated t).deferred = t.actions ∧ (r.activated t).image t.bank = some t.image
      ∧ ∀ other, other ≠ t.bank →
        (r.activated t).image other = (r.image other).map (ImageRecord.markBelow (max r.floor t.version)) := by
  simp only [ClassRecord.activated, ClassRecord.markBelow_eq]
  refine ⟨?_, ?_, ?_, ?_, ?_, fun other h => ?_⟩
  · cases t.bank <;> rfl
  · cases t.bank <;> rfl
  · cases t.bank <;> rfl
  · cases t.bank <;> rfl
  · cases t.bank <;> rfl
  · obtain rfl := Bank.eq_other h
    cases t.bank <;> rfl

/-- The fields of a confirmed class record (R107). -/
theorem ClassRecord.confirmed_fields {r : ClassRecord} {bank : Bank} {n : Nat} {image : ImageRecord}
    (hs : r.state = .booting bank n) (hi : r.image bank = some image) :
    r.confirmed.active = bank ∧ r.confirmed.floor = max r.floor image.version ∧ r.confirmed.state = .steady
      ∧ r.confirmed.deferred = r.deferred
      ∧ r.confirmed.image bank = (if bank = r.active then some (image.markBelow (max r.floor image.version)) else some image)
      ∧ (bank ≠ r.active →
        r.confirmed.image r.active = (r.image r.active).map (ImageRecord.markBelow (max r.floor image.version))) := by
  have hbank : r.trialBank = some bank := by simp [ClassRecord.trialBank, hs]
  have hversion : r.trialVersion = image.version := by simp [ClassRecord.trialVersion, hbank, hi]
  simp only [ClassRecord.confirmed, hbank, hversion, ClassRecord.markBelow_eq]
  obtain ⟨floor, active, state, deferred, a, b⟩ := r
  cases active <;> cases bank <;> simp_all [ClassRecord.setImage, ClassRecord.image]

/-! ### What a step leaves when it is done to the end -/

/-- The class that a step writes, and what it makes of its record. -/
def JobStep.classWrite? : JobStep → Option (ClassNo × (ClassRecord → ClassRecord))
  | .activate t => some (t.cls, fun r => r.activated t)
  | .activateTrial t => some (t.cls, fun r => r.onTrial t)
  | .confirm c => some (c, ClassRecord.confirmed)
  | .clearDeferred c => some (c, fun r => { r with deferred := [] })
  | .account c => some (c, ClassRecord.counted)
  | .revert c => some (c, ClassRecord.reverted)
  | _ => none

theorem writes_of_classWrite {x : JobStep} {c : ClassNo} {f : ClassRecord → ClassRecord} {r : ClassRecord}
    (h : x.classWrite? = some (c, f)) (hr : s.classes.get c = some r) : x.writes s = true := by
  cases x with
  | activate t | activateTrial t | confirm c' | clearDeferred c' | account c' | revert c' =>
    obtain ⟨rfl, rfl⟩ := Prod.mk.inj (Option.some.inj h)
    simp [JobStep.writes, hr]
  | _ => cases h

/-- A step that writes a class record replaces it in the store and in working state. -/
theorem finish_classWrite {x : JobStep} {c : ClassNo} {f : ClassRecord → ClassRecord} {r : ClassRecord}
    (h : x.classWrite? = some (c, f)) (hr : s.classes.get c = some r) :
    x.finish s = { s with
      classes := s.classes.set c (some (f r)), store := { s.store with classes := s.store.classes.set c (f r) } } := by
  cases x with
  | activate t | activateTrial t | confirm c' | clearDeferred c' | account c' | revert c' =>
    obtain ⟨rfl, rfl⟩ := Prod.mk.inj (Option.some.inj h)
    simp [JobStep.finish, JobStep.follow, JobStep.complete, JobStep.writes, JobStep.land, JobStep.act, landClass, setClass,
      hr]
  | _ => cases h

/-- A step that makes no store write and brings no other with it is what it does to working state. -/
theorem finish_free {x : JobStep} (hw : x.writes s = false) (hf : x.follow s = []) :
    x.finish s = { x.act s with store := s.store } := by
  simp [JobStep.finish, hf, complete_free hw]

/-- The steps of a job before its last ones. -/
def finishAll (steps : List JobStep) (s : State) : State := steps.foldl (fun s x => x.finish s) s

@[simp] theorem finishAll_nil (s : State) : finishAll [] s = s := rfl

@[simp] theorem finishAll_cons (x : JobStep) (steps : List JobStep) (s : State) :
    finishAll (x :: steps) s = finishAll steps (x.finish s) := rfl

theorem finishAll_append (x y : List JobStep) (s : State) : finishAll (x ++ y) s = finishAll y (finishAll x s) :=
  List.foldl_append

theorem finishSteps_eq {r : Running} (hr : s.running = some r) : finishSteps s = setTodo [] (finishAll r.todo s) := by
  simp only [finishSteps, hr, finishAll]

/-! ### Extensions by the part -/

theorem partExtended_partExtend (m : Marker) (s : State) :
    PartExtended m.kind.chain (markerBytes m) s (partExtend m s) := by
  refine ⟨?_, fun x hx => ?_, extendChain_log _ _ _ _ _⟩
  · simp only [partExtend, extendChain_get, if_true, logRoom, extendedValue]
    have hroom : (!decide (s.log.length < Config.logCap)) = decide (128 ≤ s.log.length) := by
      rw [← decide_not]
      exact decide_eq_decide.2 Nat.not_lt
    rw [hroom]
  · simp only [partExtend, extendChain_get, if_neg hx]

/-- The conditions after an extension: LOG_INCOMPLETE is raised when the log is full. -/
def extendedConditions (s : State) : Tbl (Option Count) 11 :=
  if 128 ≤ s.log.length then s.conditions.set 1 (some s.time.uptime) else s.conditions

theorem partExtend_eq (m : Marker) (s : State) :
    partExtend m s = { s with
      chains := (partExtend m s).chains, log := (partExtend m s).log, conditions := extendedConditions s } := by
  by_cases h : 128 ≤ s.log.length
  · simp only [partExtend, extendChain_full h, extendedConditions, if_pos h]
  · simp only [partExtend, extendChain_room (Nat.lt_of_not_le h), extendedConditions, if_neg h]

/-! ### The checks of an activation (R94) -/

theorem steady_iff {c : ClassNo} {r : ClassRecord} (hr : s.classes.get c = some r) :
    steady c s = true ↔ r.state = .steady := by
  simp [steady, hr]

section Checks

variable {i : TargetNo} {x : Target} {r : ClassRecord}

/-- No trial stands in the way of an activation: of a trial's, every class is STEADY, of another one's its own. -/
def MayActivate (x : Target) (r : ClassRecord) (s : State) : Prop :=
  r.state = .steady ∧ (x.trial = true → ∀ c : ClassNo, ∃ y, s.classes.get c = some y ∧ y.state = .steady)

theorem mayActivate_iff (hr : s.classes.get x.cls = some r) :
    (if x.trial then (List.finRange 4).all fun c => steady c s else steady x.cls s) = true ↔ MayActivate x r s := by
  cases ht : x.trial with
  | false => simp [MayActivate, ht, steady_iff hr]
  | true =>
    simp only [if_true, List.all_eq_true, List.mem_finRange, true_implies, MayActivate, ht]
    constructor
    · refine fun h => ⟨(steady_iff hr).1 (h x.cls), fun c => ?_⟩
      have hc : ((s.classes.get c).map ClassRecord.state) = some .steady := beq_iff_eq.1 (h c)
      exact Option.map_eq_some_iff.1 hc
    · intro h c
      obtain ⟨y, hy, hsteady⟩ := h.2 c
      exact (steady_iff hy).2 hsteady

theorem checkActivate_empty (h : s.targets.get i = none) : checkActivate i s = .error .targetEmpty := by
  simp only [checkActivate, h]

variable (hx : s.targets.get i = some x) (hr : s.classes.get x.cls = some r)
include hx hr

theorem checkActivate_busy (h : ¬MayActivate x r s) : checkActivate i s = .error .trialBusy := by
  have hno := mt (mayActivate_iff hr).1 h
  simp only [checkActivate, hx]
  exact if_pos (by rw [Bool.not_eq_true', Bool.eq_false_iff]; exact hno)

/-- Past the states of the classes, version and signer decide. -/
theorem checkActivate_free (h : MayActivate x r s) :
    checkActivate i s = if x.version < r.floor then .error .rollback
      else if (activeKey? x.signer s).isNone then .error .revoked else .ok x := by
  have hyes := (mayActivate_iff hr).2 h
  simp only [checkActivate, hx, floorOf_of_class hr]
  exact if_neg (by rw [hyes]; decide)

theorem checkActivate_ok {k : KeyRecord} (h : MayActivate x r s) (hfloor : r.floor ≤ x.version)
    (hk : s.keys.get x.signer = .active k) : checkActivate i s = .ok x := by
  rw [checkActivate_free hx hr h, if_neg (Nat.not_lt.2 hfloor), activeKey?_of_active hk]
  rfl

end Checks

/-- The steps of a permanent activation write its class record first. -/
theorem permanentSteps_eq {i : TargetNo} {x : Target} {r : ClassRecord} (hr : s.classes.get x.cls = some r) :
    permanentSteps i x s = .activate x :: x.actions.map (fun a => .action x.cls a)
      ++ [.clearDeferred x.cls, .sweepClass x.cls (decide (r.active ≠ x.bank)),
          .marker { kind := .activate, cls := x.cls, version := x.version }, .emptyTarget i] := by
  have hb : activeBank x.cls s = some r.active := by simp [activeBank, hr]
  have hd : (some r.active != some x.bank) = decide (r.active ≠ x.bank) := by
    by_cases h : r.active = x.bank <;> simp [h]
  rw [permanentSteps, hb, hd]

/-- The steps of an activation of a target, over a class record. -/
def activationSteps (i : TargetNo) (x : Target) (r : ClassRecord) : List JobStep :=
  if x.trial then [.activateTrial x, .emptyTarget i]
  else .activate x :: x.actions.map (fun a => .action x.cls a)
    ++ [.clearDeferred x.cls, .sweepClass x.cls (decide (r.active ≠ x.bank)),
        .marker { kind := .activate, cls := x.cls, version := x.version }, .emptyTarget i]

section Activation

variable {q : Bool} {i : TargetNo} {x : Target} {r : ClassRecord} {k : KeyRecord} {rest : List Job}
variable (h : MayStart (stationJob 2 q (.targetActivate i)) rest s) (hx : s.targets.get i = some x)
  (hr : s.classes.get x.cls = some r)

include h in
/-- An activation whose checks fail is turned down. -/
theorem exec_activate_refused {e : Result} (he : checkActivate i s = .error e) :
    exec .targetActivateJobStart s = .next (turnedDown 2 e .targetActivate [] q rest s) := by
  have hcheck : checkActivate i (taken 2 q (.targetActivate i) rest s) = .error e := he
  exact exec_jobStart h rfl (u := failJob e [] (taken 2 q (.targetActivate i) rest s))
    (by simp only [startTargetActivate, hcheck]) (failJob_taken rfl rfl)

include h hx hr

/-- An activation that passes its checks begins its steps. -/
theorem exec_activate_started (hfree : MayActivate x r s) (hfloor : r.floor ≤ x.version)
    (hk : s.keys.get x.signer = .active k) :
    exec .targetActivateJobStart s
      = .next (started (stationJob 2 q (.targetActivate i)) rest (activationSteps i x r) (.image x) s) := by
  have hcheck : checkActivate i (taken 2 q (.targetActivate i) rest s) = .ok x := checkActivate_ok hx hr hfree hfloor hk
  have hsteps : (if x.trial then trialSteps i x else permanentSteps i x (taken 2 q (.targetActivate i) rest s))
      = activationSteps i x r := by
    rw [activationSteps, permanentSteps_eq (s := taken 2 q (.targetActivate i) rest s) hr]
    rfl
  have hwrites (x' : JobStep) (f : ClassRecord → ClassRecord) (hx' : x'.classWrite? = some (x.cls, f)) :
      x'.writes (setData (.image x) (taken 2 q (.targetActivate i) rest s)) = true := writes_of_classWrite hx' hr
  refine exec_jobStart h rfl (u := launch (.image x) (activationSteps i x r) (taken 2 q (.targetActivate i) rest s)) ?_ ?_
  · simp only [startTargetActivate, hcheck, hsteps]
  · rw [activationSteps]
    split
    · exact launch_taken_writes (hwrites _ _ rfl)
    · exact launch_taken_writes (hwrites _ _ rfl)

/-- An activation from its start to its end: its steps are done, and the reply goes to station 2. -/
theorem execAll_activate {run : Running} {after : State} (hfree : MayActivate x r s) (hfloor : r.floor ≤ x.version)
    (hk : s.keys.get x.signer = .active k)
    (hafter : finishAll (activationSteps i x r)
      (started (stationJob 2 q (.targetActivate i)) rest (activationSteps i x r) (.image x) s) = after)
    (hrun : after.running = some run) (hjob : run.holder = some 2 ∧ run.job = stationJob 2 q (.targetActivate i)
      ∧ run.data = .image x) :
    execAll [.targetActivateJobStart, .targetActivateJobEnd] s
      = .next (ended 2 .ok .targetActivate (activateReply x run.outcomes after) q after) := by
  obtain ⟨hholder, hjob, hdata⟩ := hjob
  have hend : exec .targetActivateJobEnd
      (started (stationJob 2 q (.targetActivate i)) rest (activationSteps i x r) (.image x) s)
      = .next (ended 2 .ok .targetActivate (activateReply x run.outcomes after) q after) := by
    refine exec_jobEnd_of (done := { run with todo := [] }) h.1 rfl rfl
      ((finishSteps_eq rfl).trans (congrArg (setTodo []) hafter)) (by simp [setTodo, hrun])
      (v := placeReply 2 .ok (52 : Byte) (activateReply x run.outcomes after) q { after with running := none }) ?_ rfl
    simp only [hdata]
    rw [endJob_of (r := { run with todo := [] }) (st := 2) (by simp [setTodo, hrun]) hholder]
    simp only [hjob]
    rfl
  simp only [execAll, exec_activate_started h hx hr hfree hfloor hk, hend]

end Activation

/-- Settles O34: the checks in their order; a trial activation is two steps, its class record and its target. -/
theorem activateJobChecksAndTrials : Obligations.ActivateJobChecksAndTrials := by
  refine ⟨fun q i rest s h => ?checks, fun q i t k rest r s h ht htrial hall hr hfloor hk => ?trial⟩
  case checks =>
    intro refused
    refine ⟨fun ht => exec_activate_refused h (checkActivate_empty ht), fun t r ht hr => ?_⟩
    intro free
    have hrefused {e : Result} (hfree : free) (he : (if t.version < r.floor then Except.error Result.rollback
        else if (activeKey? t.signer s).isNone then .error .revoked else .ok t) = .error e) : refused e :=
      exec_activate_refused h ((checkActivate_free ht hr hfree).trans he)
    refine ⟨fun hbusy => exec_activate_refused h (checkActivate_busy ht hr hbusy),
      fun hfree hlow => hrefused hfree (if_pos hlow), fun hfree hfloor hno => hrefused hfree ?_,
      fun k hfree hfloor hk => exec_activate_started h ht hr hfree hfloor hk⟩
    rw [if_neg (Nat.not_lt.2 hfloor), activeKey?_of_not_active hno]
    rfl
  case trial =>
    intro image record
    have hsteady : r.state = .steady := by
      obtain ⟨y, hy, hsteady⟩ := hall t.cls
      exact (Option.some.inj (hr.symm.trans hy)) ▸ hsteady
    have hrecord : r.onTrial t = record := by
      simp only [ClassRecord.onTrial, record, image]
      cases hb : t.bank <;> simp [ClassRecord.setImage, Target.image]
    have hsteps : activationSteps i t r = [.activateTrial t, .emptyTarget i] := if_pos htrial
    let begun : State := started (stationJob 2 q (.targetActivate i)) rest (activationSteps i t r) (.image t) s
    have hafter : finishAll (activationSteps i t r) begun
        = { begun with
            classes := s.classes.set t.cls (some record), targets := s.targets.set i none
            store := { s.store with classes := s.store.classes.set t.cls record } } := by
      rw [hsteps, finishAll_cons, finish_classWrite (s := begun) (c := t.cls) (r := r) rfl hr, hrecord]
      rfl
    refine (execAll_activate h ht hr ⟨hsteady, fun _ => hall⟩ hfloor hk hafter rfl ⟨rfl, rfl, rfl⟩).trans ?_
    have hreply (os : List ActionOutcome) (u : State) :
        activateReply t os u = [byte t.cls, t.bank.toByte] ++ be16 t.version ++ [1] := if_pos htrial
    rw [hreply]
    rfl

/-! ### Permanent activations and confirms (R95, R107) -/

/-- The rest of a change of a class's record: its deferred actions are cleared, the sweep goes over targets and stream,
and the part extends chain 10. -/
def changeTail (c : ClassNo) (changed : Bool) (m : Marker) : List JobStep := [.clearDeferred c, .sweepClass c changed, .marker m]

/-- The targets that the sweep for a class leaves. -/
def sweptTargets (c : ClassNo) (changed : Bool) (record : ClassRecord) (x : Option Target) : Option Target :=
  x.filter fun x => !(x.cls == c
    && (decide (x.version < record.floor) || (changed && x.trial && some record.active == some x.bank)))

theorem finish_sweepClass {c : ClassNo} {changed : Bool} {r : ClassRecord} (hr : s.classes.get c = some r) :
    (JobStep.sweepClass c changed).finish s
      = { s with
          targets := s.targets.map (sweptTargets c changed r), stream := s.stream.afterFloor c r.floor
          conditions := sweptConditions (s.stream.afterFloor c r.floor) s } := by
  rw [finish_free rfl rfl]
  show { sweepClassFloor c changed s with store := s.store } = _
  rw [sweepClassFloor_eq, floorOf_of_class hr, hr]
  rfl

theorem finish_marker (m : Marker) (s : State) :
    (JobStep.marker m).finish s
      = { s with chains := (partExtend m s).chains, log := (partExtend m s).log, conditions := extendedConditions s } := by
  rw [finish_free rfl rfl]
  show { partExtend m s with store := s.store } = _
  rw [partExtend_eq]

/-- What the rest of a change of a class's record leaves. -/
theorem finishAll_changeTail {c : ClassNo} {changed : Bool} {m : Marker} {r : ClassRecord} (hr : s.classes.get c = some r) :
    let record : ClassRecord := { r with deferred := [] }
    let stream : Stream := s.stream.afterFloor c r.floor
    let swept : State := { s with conditions := sweptConditions stream s }
    finishAll (changeTail c changed m) s
      = { s with
          classes := s.classes.set c (some record)
          store := { s.store with classes := s.store.classes.set c record }
          targets := s.targets.map (sweptTargets c changed record)
          stream
          conditions := extendedConditions swept
          chains := (partExtend m s).chains
          log := (partExtend m s).log } := by
  intro record stream swept
  let cleared : State := { s with
    classes := s.classes.set c (some record), store := { s.store with classes := s.store.classes.set c record } }
  have hget : cleared.classes.get c = some record := Tbl.get_set_self _ _ _
  rw [changeTail, finishAll_cons, finish_classWrite (c := c) (r := r) rfl hr]
  show finishAll [.sweepClass c changed, .marker m] cleared = _
  rw [finishAll_cons, finish_sweepClass hget, finishAll_cons, finish_marker]
  rfl

theorem extendedConditions_get (s : State) (k : Fin 11) :
    (extendedConditions s).get k
      = if k = 1 ∧ 128 ≤ s.log.length then some s.time.uptime else s.conditions.get k := by
  by_cases h : 128 ≤ s.log.length
  · rw [extendedConditions, if_pos h, Tbl.get_set]
    simp only [h, and_true]
  · rw [extendedConditions, if_neg h, if_neg fun hk => h hk.2]

theorem sweptConditions_get (stream : Stream) (s : State) (k : Fin 11) :
    (sweptConditions stream s).get k
      = if k = 2 ∧ stream ≠ s.stream then some s.time.uptime else s.conditions.get k := by
  by_cases h : stream = s.stream
  · simp [sweptConditions, h]
  · rw [sweptConditions, if_neg h, Tbl.get_set]
    simp only [ne_eq, h, not_false_eq_true, and_true]

/-- The conditions after the rest of a change: the stream that the sweep failed, and the log that was full. -/
theorem changeConditions_get (stream : Stream) (s : State) (k : Fin 11) :
    (extendedConditions { s with conditions := sweptConditions stream s }).get k
      = if k = 2 ∧ stream ≠ s.stream ∨ k = 1 ∧ 128 ≤ s.log.length then some s.time.uptime else s.conditions.get k := by
  rw [extendedConditions_get, sweptConditions_get]
  by_cases hs : k = 2 ∧ stream ≠ s.stream
  · simp only [if_pos hs, if_pos (Or.inl hs), ite_self]
  · simp only [if_neg hs, or_iff_right hs]

/-- The state after an activation's or a confirm's first steps and what is left of it. -/
def changed (c : ClassNo) (swept : Bool) (m : Marker) (r : ClassRecord) (s : State) : State :=
  { s with
    classes := s.classes.set c (some { r with deferred := [] })
    store := { s.store with classes := s.store.classes.set c { r with deferred := [] } }
    targets := s.targets.map (sweptTargets c swept { r with deferred := [] })
    stream := s.stream.afterFloor c r.floor
    conditions := extendedConditions { s with conditions := sweptConditions (s.stream.afterFloor c r.floor) s }
    chains := (partExtend m s).chains
    log := (partExtend m s).log }

/-- A class's record replaced in working state and in the store. -/
def recorded (c : ClassNo) (r : ClassRecord) (s : State) : State :=
  { s with classes := s.classes.set c (some r), store := { s.store with classes := s.store.classes.set c r } }

/-- The steps of a permanent activation: the record, the actions, and the rest of the change. -/
theorem finishAll_permanent {i : TargetNo} {x : Target} {r : ClassRecord} (hp : x.trial = false)
    (hr : s.classes.get x.cls = some r)
    (hacts : finishAll (x.actions.map fun a => .action x.cls a) (recorded x.cls (r.activated x) s) = t)
    (ht : t.classes.get x.cls = some (r.activated x)) :
    finishAll (activationSteps i x r) s
      = { changed x.cls (decide (r.active ≠ x.bank)) { kind := .activate, cls := x.cls, version := x.version }
            (r.activated x) t with
          targets := (t.targets.map
            (sweptTargets x.cls (decide (r.active ≠ x.bank)) { r.activated x with deferred := [] })).set i none } := by
  have hsteps : activationSteps i x r = .activate x :: (x.actions.map (fun a => JobStep.action x.cls a)
      ++ (changeTail x.cls (decide (r.active ≠ x.bank)) { kind := .activate, cls := x.cls, version := x.version }
        ++ [.emptyTarget i])) := by
    simp [activationSteps, hp, changeTail]
  rw [hsteps, finishAll_cons, finish_classWrite (c := x.cls) (r := r) rfl hr]
  show finishAll _ (recorded x.cls (r.activated x) s) = _
  rw [finishAll_append, hacts, finishAll_append, finishAll_changeTail ht]
  rfl

theorem sweptTargets_none {c : ClassNo} {swept : Bool} {r : ClassRecord} {x : Target} (hc : x.cls = c)
    (h : x.version < r.floor ∨ swept = true ∧ x.trial = true ∧ x.bank = r.active) :
    sweptTargets c swept r (some x) = none := by
  rcases h with h | ⟨hs, ht, hb⟩
  · simp [sweptTargets, hc, h]
  · simp [sweptTargets, hc, hs, ht, hb]

theorem sweptTargets_some {c : ClassNo} {swept : Bool} {r : ClassRecord} {x : Target}
    (h : x.cls ≠ c ∨ r.floor ≤ x.version ∧ (swept = false ∨ x.trial = false ∨ x.bank ≠ r.active)) :
    sweptTargets c swept r (some x) = some x := by
  rcases h with h | ⟨hv, hs | ht | hb⟩
  · simp [sweptTargets, h]
  · simp [sweptTargets, Nat.not_lt.2 hv, hs]
  · simp [sweptTargets, Nat.not_lt.2 hv, ht]
  · simp [sweptTargets, Nat.not_lt.2 hv, Ne.symm hb]

theorem activateReply_permanent {x : Target} {r : ClassRecord} (hp : x.trial = false) (hr : s.classes.get x.cls = some r)
    (os : List ActionOutcome) :
    activateReply x os s
      = [byte x.cls, x.bank.toByte] ++ be16 x.version ++ be16 r.floor ++ os.map ActionOutcome.toByte := by
  rw [activateReply, if_neg (by simp [hp]), floorOf_of_class hr]
  rfl

/-- Settles O35: the class record, then the rest of the change, then the target. -/
theorem permanentActivationRaisesFloor : Obligations.PermanentActivationRaisesFloor := by
  intro q i t r k rest s h ht hperm hacts hr hsteady hfloor hk
  obtain ⟨hactive, hrfloor, hstate, -, himage, hother⟩ := r.activated_fields t
  have hmax : max r.floor t.version = t.version := Nat.max_eq_right hfloor
  rw [hmax] at hrfloor
  rw [hmax] at hother
  let begun : State := started (stationJob 2 q (.targetActivate i)) rest (activationSteps i t r) (.image t) s
  let m : Marker := { kind := .activate, cls := t.cls, version := t.version }
  let record : ClassRecord := { r.activated t with deferred := [] }
  have hrecorded : (recorded t.cls (r.activated t) begun).classes.get t.cls = some (r.activated t) := Tbl.get_set_self _ _ _
  have hnone : finishAll (t.actions.map fun a => JobStep.action t.cls a) (recorded t.cls (r.activated t) begun)
      = recorded t.cls (r.activated t) begun := by rw [hacts]; rfl
  have hfinish := finishAll_permanent (i := i) (s := begun) hperm hr hnone hrecorded
  have hexec := execAll_activate h ht hr ⟨hsteady, fun hp => absurd (hperm.symm.trans hp) (by decide)⟩ hfloor hk hfinish rfl
    ⟨rfl, rfl, rfl⟩
  have htargets (j : TargetNo) (hj : j ≠ i) :
      ((s.targets.map (sweptTargets t.cls (decide (r.active ≠ t.bank)) record)).set i none).get j
        = sweptTargets t.cls (decide (r.active ≠ t.bank)) record (s.targets.get j) := by
    rw [Tbl.get_set_ne _ _ hj, Tbl.get_map]
  refine ⟨_, record, hexec, ?classes, ?stored, hactive, hrfloor, hstate.trans hsteady, rfl, himage, hother, ?others, ?target,
    ?gone, ?kept, ?absent, ?stream, ?conditions, ?extended, ?stations, ?frame⟩
  case classes => exact Tbl.get_set_self _ _ _
  case stored => exact Tbl.get_set_self _ _ _
  case others =>
    intro c hc
    exact ⟨(Tbl.get_set_ne _ _ hc).trans (Tbl.get_set_ne _ _ hc), (Tbl.get_set_ne _ _ hc).trans (Tbl.get_set_ne _ _ hc)⟩
  case target => exact Tbl.get_set_self _ _ _
  case gone =>
    intro j x hj hx hc hwhy
    refine (htargets j hj).trans ?_
    rw [hx]
    refine sweptTargets_none hc (hwhy.imp (fun hlt => ?_) fun ⟨hb, htr, hbank⟩ => ⟨decide_eq_true hb, htr, ?_⟩)
    · exact hrfloor ▸ hlt
    · exact hbank.trans hactive.symm
  case kept =>
    intro j x hj hx hwhy
    refine (htargets j hj).trans ?_
    rw [hx]
    refine sweptTargets_some (hwhy.imp id fun ⟨hv, hb⟩ => ⟨?_, hb.imp (fun hb => ?_) fun hb => hb.imp id fun hb => ?_⟩)
    · exact hrfloor ▸ hv
    · exact decide_eq_false (not_not.2 hb)
    · exact fun hcon => hb (hcon.trans hactive)
  case absent =>
    intro j hj
    by_cases hi : j = i
    · subst hi
      exact Tbl.get_set_self _ _ _
    · refine (htargets j hi).trans ?_
      rw [hj]
      rfl
  case stream => exact congrArg (s.stream.afterFloor t.cls) hrfloor
  case conditions => exact changeConditions_get _ _
  case extended => exact partExtended_partExtend m _
  case stations =>
    refine congrArg (fun body => s.stations.set 2 { s.stations.get 2 with
      slot := some { result := .ok, code := 52, notice := !q, body } }) ?_
    exact (activateReply_permanent hperm (r := record) (Tbl.get_set_self _ _ _) _).trans
      (by rw [show record.floor = t.version from hrfloor]; simp)
  case frame => rfl

/-! ### Confirms (R107) -/

/-- The confirm hold cleared, as R101 has it. -/
theorem clearHold_eq (s : State) :
    clearHold s = { s with
      hold := false
      timer := if s.timer.overdue then .expired else s.timer
      time := { s.time with
        pulse := if s.timer.overdue = true ∧ s.time.pulse = .idle then .driving 0 else s.time.pulse } } := by
  have hpulse : (if s.timer.overdue then s.time.pulse.request else s.time.pulse)
      = if s.timer.overdue = true ∧ s.time.pulse = .idle then .driving 0 else s.time.pulse := by
    cases s.timer.overdue with
    | false => simp
    | true => cases s.time.pulse <;> simp [Pulse.request]
  rw [clearHold, hpulse]

theorem sweptTargets_eq (c : ClassNo) (swept : Bool) (r : ClassRecord) (x : Option Target) :
    sweptTargets c swept r x = x.filter fun x => !(decide (x.cls = c)
      && (decide (x.version < r.floor) || swept && x.trial && decide (x.bank = r.active))) := by
  refine congrArg (fun p => x.filter p) (funext fun y => ?_)
  have hbank : (some r.active == some y.bank) = decide (y.bank = r.active) := by
    by_cases h : y.bank = r.active
    · simp [h]
    · simp [h, Ne.symm h]
  have hcls : (y.cls == c) = decide (y.cls = c) := by
    by_cases h : y.cls = c <;> simp [h]
  rw [hbank, hcls]

section Confirm

variable {q : Bool} {c : ClassNo} {r : ClassRecord} {rest : List Job} {bank : Bank} {n : Nat} {image : ImageRecord}

theorem trialBank_of_booting (hs : r.state = .booting bank n) : r.trialBank = some bank := by
  simp [ClassRecord.trialBank, hs]

/-- The steps of the confirm of a class in TRIAL_BOOTING. -/
theorem confirmSteps_eq (hs : r.state = .booting bank n) (hi : r.image bank = some image) :
    confirmSteps c r = .confirm c :: .stopTimer :: (r.deferred.map (fun a => JobStep.action c a)
      ++ changeTail c (decide (bank ≠ r.active)) { kind := .confirm, cls := c, version := image.version }) := by
  have hversion : r.trialVersion = image.version := by simp [ClassRecord.trialVersion, trialBank_of_booting hs, hi]
  have hb : (r.trialBank != some r.active) = decide (bank ≠ r.active) := by
    rw [trialBank_of_booting hs]
    by_cases h : bank = r.active <;> simp [h]
  rw [confirmSteps, hversion, hb]
  rfl

/-- The steps of a confirm: the record and the timer, the actions, and the rest of the change. -/
theorem finishAll_confirm (hs : r.state = .booting bank n) (hi : r.image bank = some image)
    (hr : s.classes.get c = some r)
    (hacts : finishAll (r.deferred.map fun a => .action c a) (stopTrialTimer (recorded c r.confirmed s)) = t)
    (ht : t.classes.get c = some r.confirmed) :
    finishAll (confirmSteps c r) s
      = changed c (decide (bank ≠ r.active)) { kind := .confirm, cls := c, version := image.version } r.confirmed t := by
  rw [confirmSteps_eq hs hi, finishAll_cons, finish_classWrite (c := c) (r := r) rfl hr, finishAll_cons,
    finish_free rfl rfl, finishAll_append]
  show finishAll _ (finishAll _ (stopTrialTimer (recorded c r.confirmed s))) = _
  rw [hacts, finishAll_changeTail ht]
  rfl

variable (h : MayStart (stationJob 2 q (.bootConfirm c)) rest s) (hr : s.classes.get c = some r)
include h hr

theorem exec_confirm_started (hs : r.state = .booting bank n) (hhold : s.hold = true) :
    exec .bootConfirmJobStart s
      = .next (started (stationJob 2 q (.bootConfirm c)) rest (confirmSteps c r) .blank s) := by
  have hbooting : trialBooting c s = true := trialBooting_of_booting hr hs
  have hstart : startBootConfirm c (taken 2 q (.bootConfirm c) rest s)
      = launch .blank (confirmSteps c r) (taken 2 q (.bootConfirm c) rest s) := by
    have hgo : (trialBooting c (taken 2 q (.bootConfirm c) rest s) && (taken 2 q (.bootConfirm c) rest s).hold) = true :=
      (Bool.and_eq_true _ _).mpr ⟨hbooting, hhold⟩
    simp only [startBootConfirm, hr]
    exact if_pos hgo
  exact exec_jobStart h rfl hstart (launch_taken_writes (writes_of_classWrite (c := c) rfl hr))

/-- A confirm from its start to its end: its steps are done, and the reply goes to station 2. -/
theorem execAll_confirm {run : Running} {after : State} (hs : r.state = .booting bank n) (hhold : s.hold = true)
    (hafter : finishAll (confirmSteps c r)
      (started (stationJob 2 q (.bootConfirm c)) rest (confirmSteps c r) .blank s) = after)
    (hrun : after.running = some run) (hjob : run.holder = some 2 ∧ run.job = stationJob 2 q (.bootConfirm c)) :
    execAll [.bootConfirmJobStart, .bootConfirmJobEnd] s
      = .next (ended 2 .ok .bootConfirm (confirmReply c run.outcomes after) q after) := by
  obtain ⟨hholder, hjob⟩ := hjob
  have hend : exec .bootConfirmJobEnd
      (started (stationJob 2 q (.bootConfirm c)) rest (confirmSteps c r) .blank s)
      = .next (ended 2 .ok .bootConfirm (confirmReply c run.outcomes after) q after) := by
    refine exec_jobEnd_of (done := { run with todo := [] }) h.1 rfl rfl
      ((finishSteps_eq rfl).trans (congrArg (setTodo []) hafter)) (by simp [setTodo, hrun])
      (v := placeReply 2 .ok (56 : Byte) (confirmReply c run.outcomes after) q { after with running := none }) ?_ rfl
    simp only [hjob]
    rw [endJob_of (r := { run with todo := [] }) (st := 2) (by simp [setTodo, hrun]) hholder]
    simp only [hjob]
    rfl
  simp only [execAll, exec_confirm_started h hr hs hhold, hend]

end Confirm

/-- The fields of a confirmed record that the reply carries. -/
theorem confirmReply_of {c : ClassNo} {r : ClassRecord} (hr : s.classes.get c = some r) {image : ImageRecord}
    (hi : r.image r.active = some image) (os : List ActionOutcome) :
    confirmReply c os s
      = [byte c, r.active.toByte] ++ be16 image.version ++ be16 r.floor ++ os.map ActionOutcome.toByte := by
  simp only [confirmReply, hr, hi]
  rfl

/-- The station whose slot holds the only change. -/
theorem stations_of_slot {before after : Tbl StationRec 4} {st : Station} {slot : Option Reply}
    (h : after = before.set st { before.get st with slot }) :
    after = before.set st { before.get st with slot := (after.get st).slot } ∧ (after.get st).slot = slot := by
  subst h
  rw [Tbl.get_set_self]
  exact ⟨rfl, rfl⟩

/-- Settles O36: without the hold or out of TRIAL_BOOTING the hold is cleared; else the record and the timer, and the
rest of the change. -/
theorem confirmMakesTrialPermanent : Obligations.ConfirmMakesTrialPermanent := by
  refine fun q c r rest s h hr => ⟨fun hno => ?refused, fun bank n image hs hhold hi hdeferred => ?confirmed⟩
  case refused =>
    intro overdue
    have hoverdue : s.timer.overdue = overdue := by
      simp only [overdue]
      cases s.timer <;> rfl
    have hstart : startBootConfirm c (taken 2 q (.bootConfirm c) rest s)
        = failJob .streamState [] (taken 2 q (.bootConfirm c) rest s) := by
      have hstop : ¬(trialBooting c (taken 2 q (.bootConfirm c) rest s)
          && (taken 2 q (.bootConfirm c) rest s).hold) = true := by
        rw [Bool.and_eq_true]
        rintro ⟨hb, hh⟩
        rcases hno with hno | hno
        · exact absurd (hno.symm.trans hh) (by decide)
        · have hout : trialBooting c (taken 2 q (.bootConfirm c) rest s) = false := trialBooting_of_not hr hno
          exact absurd (hout.symm.trans hb) (by decide)
      simp only [startBootConfirm, hr]
      exact if_neg hstop
    refine exec_jobStart h rfl hstart (failJob_taken rfl ?_)
    rw [← hoverdue]
    exact clearHold_eq _
  case confirmed =>
    obtain ⟨hactive, hfloor, hstate, -, himage, hother⟩ := ClassRecord.confirmed_fields hs hi
    let begun : State := started (stationJob 2 q (.bootConfirm c)) rest (confirmSteps c r) .blank s
    let m : Marker := { kind := .confirm, cls := c, version := image.version }
    let record : ClassRecord := { r.confirmed with deferred := [] }
    let stopped : State := stopTrialTimer (recorded c r.confirmed begun)
    have hnone : finishAll (r.deferred.map fun a => JobStep.action c a) stopped = stopped := by rw [hdeferred]; rfl
    have hfinish := finishAll_confirm (s := begun) hs hi hr hnone (Tbl.get_set_self _ _ _)
    have hexec := execAll_confirm h hr hs hhold hfinish rfl ⟨rfl, rfl⟩
    refine ⟨_, record, hexec, ?classes, ?stored, hactive, hfloor, hstate,
      rfl, fun hne => ⟨himage.trans (if_neg hne), hother hne⟩, ?others, rfl, rfl, ?time, ⟨?targets, ?stream⟩, ?conditions,
      ?extended, ?stations, ?reply, ?frame⟩
    case classes => exact Tbl.get_set_self _ _ _
    case stored => exact Tbl.get_set_self _ _ _
    case others =>
      intro x hx
      exact ⟨(Tbl.get_set_ne _ _ hx).trans (Tbl.get_set_ne _ _ hx), (Tbl.get_set_ne _ _ hx).trans (Tbl.get_set_ne _ _ hx)⟩
    case targets =>
      intro j
      refine (Tbl.get_map _ _ _).trans ((sweptTargets_eq _ _ _ _).trans ?_)
      rw [show ({ r.confirmed with deferred := [] } : ClassRecord).floor = max r.floor image.version from hfloor,
        show ({ r.confirmed with deferred := [] } : ClassRecord).active = bank from hactive]
      rfl
    case stream => exact congrArg (s.stream.afterFloor c) hfloor
    case conditions => exact changeConditions_get _ _
    case extended => exact partExtended_partExtend m _
    case time =>
      simp only [ended, placeReply, setStation, recomputeAttn, changed, stopped, stopTrialTimer, recorded, begun, started]
    case stations => exact (stations_of_slot rfl).1
    case reply =>
      intro hne
      refine (stations_of_slot (before := s.stations) (st := 2) rfl).2.trans ?_
      refine congrArg (fun body => some (Reply.mk .ok 56 body (!q))) ?_
      refine (confirmReply_of (r := record) (image := image) (Tbl.get_set_self _ _ _) ?_ _).trans ?_
      · rw [show record.active = bank from hactive]
        exact himage.trans (if_neg hne)
      · rw [show record.active = bank from hactive, show record.floor = max r.floor image.version from hfloor]
        exact List.append_nil _
    case frame =>
      simp only [ended, placeReply, setStation, recomputeAttn, changed, stopped, stopTrialTimer, recorded, begun, started]

end Sys2Proof.Machine
end

section
/-! PROOFS. Deferred actions: when one applies, and what it leaves (O37, its steps). -/

namespace Sys2Proof.Machine

open Sys2Proof

variable {s t u : State} {c : ClassNo} {slot signer : Slot} {a : Action}

/-! ### When an action applies (R98) -/

theorem activeSigner_of {r : ClassRecord} {i : ImageRecord} (hr : s.classes.get c = some r) (hi : r.image r.active = some i) :
    activeSigner c s = some i.signer := by
  simp [activeSigner, hr, hi]

theorem fin?_eq_some {n v : Nat} {i : Fin n} : fin? n v = some i ↔ i.val = v := by
  by_cases h : v < n
  · simp [fin?, h, Fin.ext_iff, eq_comm]
  · have hne : i.val ≠ v := fun he => h (he ▸ i.isLt)
    simp [fin?, h, hne]

/-- A REVOKE's slot: an ACTIVE vendor slot that did not sign the image, with room in the list and another vendor update
key (R98). -/
theorem actionTarget_revoke_iff {n : Nat} :
    actionTarget c (.revoke n) s = some slot
      ↔ slot.val = n ∧ n < 6 ∧ (∃ k, s.keys.get slot = .active k) ∧ activeSigner c s ≠ some slot ∧ s.revoked.length < 32
        ∧ ∃ (x : Slot) (j : KeyRecord), x ≠ slot ∧ x.val < 6 ∧ s.keys.get x = .active j ∧ hasBit j.usage 3 = true := by
  have hsurvives (y : Slot) : vendorSurvives (fun x => x == y) s = true
      ↔ ∃ (x : Slot) (j : KeyRecord), x ≠ y ∧ x.val < 6 ∧ s.keys.get x = .active j ∧ hasBit j.usage 3 = true := by
    rw [vendorSurvives_iff]
    simp only [beq_eq_false_iff_ne]
    exact exists_congr fun x => exists_congr fun j => ⟨fun ⟨h1, h2, h3, h4⟩ => ⟨h4, h1, h2, h3⟩,
      fun ⟨h4, h1, h2, h3⟩ => ⟨h1, h2, h3, h4⟩⟩
  simp only [actionTarget]
  cases hf : fin? 64 n with
  | none =>
    refine ⟨fun h => absurd h (by simp), ?_⟩
    rintro ⟨hn, -⟩
    exact absurd (fin?_eq_some.2 hn) (by simp [hf])
  | some y =>
    have hy : y.val = n := fin?_eq_some.1 hf
    have hone : slot.val = n ↔ y = slot := ⟨fun h => Fin.ext (hy.trans h.symm), fun h => h ▸ hy⟩
    show (if _ = true then some y else none) = some slot ↔ _
    rw [Option.ite_none_right_eq_some, Option.some.injEq, hone]
    simp only [Bool.and_eq_true, isVendor, decide_eq_true_eq, hsurvives, Option.isSome_iff_exists, activeKey?_eq_some,
      bne_iff_ne, ne_eq]
    constructor
    · rintro ⟨⟨⟨⟨⟨hv, hk⟩, hne⟩, hroom⟩, hsurv⟩, rfl⟩
      exact ⟨rfl, hv, hk, hne, hroom, hsurv⟩
    · rintro ⟨rfl, hv, hk, hne, hroom, hsurv⟩
      exact ⟨⟨⟨⟨⟨hv, hk⟩, hne⟩, hroom⟩, hsurv⟩, rfl⟩

/-- An INSTALL_VENDOR_KEY's slot: an EMPTY vendor slot, and a key neither revoked nor held (R98). -/
theorem actionTarget_install_iff {n : Nat} {key : Bytes 64} :
    actionTarget c (.install n key) s = some slot
      ↔ slot.val = n ∧ n < 6 ∧ s.keys.get slot = .empty ∧ digest key.list ∉ s.revoked
        ∧ ∀ (x : Slot) (j : KeyRecord), s.keys.get x = .active j → j.fingerprint ≠ digest key.list := by
  have hheld : holdsFingerprint (digest key.list) s = false
      ↔ ∀ (x : Slot) (j : KeyRecord), s.keys.get x = .active j → j.fingerprint ≠ digest key.list := by
    rw [← Bool.not_eq_true, holdsFingerprint_iff]
    simp only [not_exists, not_and, ne_eq]
  simp only [actionTarget]
  cases hf : fin? 64 n with
  | none =>
    refine ⟨fun h => absurd h (by simp), ?_⟩
    rintro ⟨hn, -⟩
    exact absurd (fin?_eq_some.2 hn) (by simp [hf])
  | some y =>
    have hy : y.val = n := fin?_eq_some.1 hf
    have hone : slot.val = n ↔ y = slot := ⟨fun h => Fin.ext (hy.trans h.symm), fun h => h ▸ hy⟩
    show (if _ = true then some y else none) = some slot ↔ _
    rw [Option.ite_none_right_eq_some, Option.some.injEq, hone]
    simp only [Bool.and_eq_true, Bool.not_eq_true', isVendor, decide_eq_true_eq, hheld, beq_iff_eq]
    constructor
    · rintro ⟨⟨⟨⟨hv, he⟩, hrev⟩, hfree⟩, rfl⟩
      exact ⟨rfl, hv, he, by simpa using hrev, hfree⟩
    · rintro ⟨rfl, hv, he, hrev, hfree⟩
      exact ⟨⟨⟨⟨hv, he⟩, by simpa using hrev⟩, hfree⟩, rfl⟩

theorem actionApplies_iff (hs : activeSigner c s = some signer) :
    ActionApplies a signer s ↔ ∃ slot, actionTarget c a s = some slot := by
  cases a with
  | revoke n =>
    have hne (slot : Slot) : activeSigner c s ≠ some slot ↔ slot ≠ signer := by
      rw [hs, ne_eq, Option.some.injEq, eq_comm]
    simp only [actionTarget_revoke_iff, ActionApplies, hne]
    constructor
    · rintro ⟨slot, k, rfl, hv, hk, hne, hroom, hsurv⟩
      exact ⟨slot, rfl, hv, ⟨k, hk⟩, hne, hroom, hsurv⟩
    · rintro ⟨slot, rfl, hv, ⟨k, hk⟩, hne, hroom, hsurv⟩
      exact ⟨slot, k, rfl, hv, hk, hne, hroom, hsurv⟩
  | install n key => simp only [actionTarget_install_iff, ActionApplies]

/-! ### What an action leaves (R8, R99) -/

/-- An action that does not apply is skipped. -/
theorem finish_skipped (h : actionTarget c a s = none) :
    (JobStep.action c a).finish s
      = noteOutcome .skipped { s with conditions := s.conditions.set 4 (some s.time.uptime) } := by
  have hw : (JobStep.action c a).writes s = false := by simp [JobStep.writes, h]
  have hf : (JobStep.action c a).follow s = [] := by
    cases a with
    | revoke n => simp [JobStep.follow, h]
    | install n key => rfl
  rw [finish_free hw hf]
  simp [JobStep.act, h, noteOutcome, raiseCond, Condition.index]

/-- The write of the revocation list: the fingerprint is in the list and the slot EMPTY. -/
theorem complete_revoke {n : Nat} {k : KeyRecord} (h : actionTarget c (.revoke n) s = some slot)
    (hk : s.keys.get slot = .active k) :
    (JobStep.action c (.revoke n)).complete s
      = noteOutcome .applied { s with
          revoked := s.revoked ++ [k.fingerprint], keys := s.keys.set slot .empty
          store := { s.store with revocation := s.revoked ++ [k.fingerprint] } } := by
  have hfp : fingerprintOf slot s = [k.fingerprint] := by simp [fingerprintOf, activeKey?_of_active hk]
  have hw : (JobStep.action c (.revoke n)).writes s = true := by simp [JobStep.writes, h]
  rw [complete_write hw]
  simp [JobStep.act, JobStep.land, h, hfp, noteOutcome, setKey]

/-- The write that removes a revoked slot's record; the slot is handed to the sweep. -/
theorem complete_revokeSlot (slot : Slot) (s : State) :
    (JobStep.revokeSlot slot).complete s
      = { s with
          store := { s.store with keys := s.store.keys.set slot none }
          targets := s.targets.map fun t => t.filter fun t => !(t.signer == slot)
          stream := s.stream.afterSlot slot
          conditions := sweptConditions (s.stream.afterSlot slot)
            { s with conditions := s.conditions.set 3 (some s.time.uptime) } } := by
  rw [complete_write rfl]
  show { sweepKey slot (raiseCond .keyRevoked s) with
    store := { s.store with keys := s.store.keys.set slot none } } = _
  rw [sweepKey_eq]
  rfl

/-- A REVOKE that applies. -/
theorem finish_revoke {n : Nat} {k : KeyRecord} (h : actionTarget c (.revoke n) s = some slot)
    (hk : s.keys.get slot = .active k) :
    (JobStep.action c (.revoke n)).finish s
      = noteOutcome .applied { s with
          revoked := s.revoked ++ [k.fingerprint]
          keys := s.keys.set slot .empty
          store := { s.store with revocation := s.revoked ++ [k.fingerprint], keys := s.store.keys.set slot none }
          targets := s.targets.map fun t => t.filter fun t => !(t.signer == slot)
          stream := s.stream.afterSlot slot
          conditions := sweptConditions (s.stream.afterSlot slot)
            { s with conditions := s.conditions.set 3 (some s.time.uptime) } } := by
  have hf : (JobStep.action c (.revoke n)).follow s = [.revokeSlot slot] := by simp [JobStep.follow, h]
  rw [JobStep.finish, hf, complete_revoke h hk]
  show (JobStep.revokeSlot slot).complete _ = _
  rw [complete_revokeSlot]
  rfl

/-- An INSTALL_VENDOR_KEY that applies. -/
theorem finish_install {n : Nat} {key : Bytes 64} (h : actionTarget c (.install n key) s = some slot) :
    (JobStep.action c (.install n key)).finish s
      = noteOutcome .applied { s with
          keys := s.keys.set slot (.active (vendorRecord key))
          store := { s.store with keys := s.store.keys.set slot (some (vendorRecord key)) } } := by
  have hw : (JobStep.action c (.install n key)).writes s = true := by simp [JobStep.writes, h]
  have hf : (JobStep.action c (.install n key)).follow s = [] := rfl
  rw [JobStep.finish, hf, List.foldl_nil, complete_write hw]
  simp [JobStep.act, JobStep.land, h, noteOutcome, setKey]

/-! ### What a list of actions leaves -/

/-- What a list of actions changes: key table, revocation list, stream, targets and conditions, and the outcomes. -/
structure ActionTrace where
  keys : Tbl KeySlot 64
  revoked : List (Bytes 32)
  stream : Stream
  targets : Tbl (Option Target) 8
  conditions : Tbl (Option Count) 11
  storedKeys : Tbl (Option KeyRecord) 64
  storedRevocation : List (Bytes 32)
  outcomes : List ActionOutcome

/-- The state after a list of actions. -/
def ActionTrace.on (x : ActionTrace) (s : State) : State :=
  { s with
    keys := x.keys, revoked := x.revoked, stream := x.stream, targets := x.targets, conditions := x.conditions
    store := { s.store with keys := x.storedKeys, revocation := x.storedRevocation }
    running := s.running.map fun r => { r with outcomes := r.outcomes ++ x.outcomes } }

/-- The conditions that no action touches. -/
abbrev Untouched (k : Fin 11) : Prop := k = 0 ∨ k = 1 ∨ 5 ≤ k.val

/-- What a trace says of the one action it is of: its outcome, and what it leaves, as the action applies or not. -/
def ActionTrace.Tells (x : ActionTrace) (c : ClassNo) (a : Action) (s : State) : Prop :=
  ∀ signer, activeSigner c s = some signer →
    (ActionApplies a signer s → x.outcomes = [.applied] ∧ ActionDone a s (x.on s))
      ∧ (¬ActionApplies a signer s → x.outcomes = [.skipped] ∧ ActionSkipped s (x.on s))

/-- What a trace is, for any list of actions of a length. -/
structure ActionTrace.Fits (x : ActionTrace) (n : Nat) (s : State) : Prop where
  length : x.outcomes.length = n
  conditions : ∀ k, Untouched k → x.conditions.get k = s.conditions.get k
  closed : s.stream = .closed → x.stream = .closed ∧ x.conditions.get 2 = s.conditions.get 2
  noTargets : (∀ i, s.targets.get i = none) → x.targets = s.targets

theorem finish_action (c : ClassNo) (a : Action) (s : State) :
    ∃ x : ActionTrace, (JobStep.action c a).finish s = x.on s ∧ x.Fits 1 s ∧ x.Tells c a s := by
  have hne {k i : Fin 11} (hk : Untouched k) (hi : i = 2 ∨ i = 3 ∨ i = 4) : k ≠ i := by
    rintro rfl
    revert hk hi
    revert k
    decide
  cases ht : actionTarget c a s with
  | none =>
    refine ⟨⟨s.keys, s.revoked, s.stream, s.targets, s.conditions.set 4 (some s.time.uptime), s.store.keys,
      s.store.revocation, [.skipped]⟩, finish_skipped ht, ⟨rfl, fun k hk => Tbl.get_set_ne _ _ (hne hk (by simp)),
        fun h => ⟨h, Tbl.get_set_ne _ _ (by decide)⟩, fun _ => rfl⟩,
      fun signer hs => ⟨fun h => ?_, fun _ => ⟨rfl, rfl, rfl, rfl, rfl, ?_, ?_⟩⟩⟩
    · obtain ⟨slot, hslot⟩ := (actionApplies_iff hs).1 h
      exact absurd (ht.symm.trans hslot) (by simp)
    · exact Tbl.get_set_ne _ _ (by decide)
    · exact Tbl.get_set_self _ _ _
  | some slot =>
    cases a with
    | install n key =>
      obtain ⟨hn, -⟩ := actionTarget_install_iff.1 ht
      refine ⟨⟨_, s.revoked, s.stream, s.targets, s.conditions, _, s.store.revocation, [.applied]⟩, finish_install ht,
        ⟨rfl, fun _ _ => rfl, fun h => ⟨h, rfl⟩, fun _ => rfl⟩, fun signer hs => ⟨fun _ => ⟨rfl, rfl, fun slot' hslot' => ?_⟩,
          fun h => absurd ((actionApplies_iff hs).2 ⟨slot, ht⟩) h⟩⟩
      obtain rfl : slot' = slot := Fin.ext (hslot'.trans hn.symm)
      exact ⟨rfl, rfl, rfl, rfl, rfl⟩
    | revoke n =>
      obtain ⟨hn, -, ⟨k, hk⟩, -⟩ := actionTarget_revoke_iff.1 ht
      refine ⟨⟨_, _, _, _, _, _, _, [.applied]⟩, finish_revoke ht hk, ⟨rfl, fun k hk => ?_, fun h => ?_, fun h => ?_⟩, fun signer hs =>
        ⟨fun _ => ⟨rfl, ?_, fun slot' k' hslot' hk' => ?_⟩, fun h => absurd ((actionApplies_iff hs).2 ⟨slot, ht⟩) h⟩⟩
      · refine (sweptConditions_get _ _ _).trans ((if_neg fun h => hne hk (.inl rfl) h.1).trans ?_)
        exact Tbl.get_set_ne _ _ (hne hk (by simp))
      · have hstream : s.stream.afterSlot slot = s.stream := by rw [h]; rfl
        refine ⟨hstream.trans h, (sweptConditions_get _ _ _).trans ((if_neg fun hc => hc.2 hstream).trans ?_)⟩
        exact Tbl.get_set_ne _ _ (by decide)
      · refine Tbl.ext_get fun i => ?_
        rw [Tbl.get_map, h i]
        rfl
      · refine (sweptConditions_get _ _ _).trans ((if_neg fun h => absurd h.1 (by decide)).trans ?_)
        exact Tbl.get_set_ne _ _ (by decide)
      · obtain rfl : slot' = slot := Fin.ext (hslot'.trans hn.symm)
        obtain rfl : k' = k := KeySlot.active.inj (hk'.symm.trans hk)
        refine ⟨rfl, rfl, rfl, rfl, ?_, fun i x hx => ?_⟩
        · refine (sweptConditions_get _ _ _).trans ((if_neg fun h => absurd h.1 (by decide)).trans ?_)
          exact Tbl.get_set_self _ _ _
        · have hx' : (s.targets.get i).filter (fun t => !(t.signer == slot')) = some x := (Tbl.get_map _ _ _).symm.trans hx
          simpa using (Option.filter_eq_some_iff.1 hx').2

theorem finishAll_anyActions (c : ClassNo) : ∀ (actions : List Action) (s : State),
    ∃ x : ActionTrace, finishAll (actions.map fun a => .action c a) s = x.on s ∧ x.Fits actions.length s
  | [], s => by
    refine ⟨⟨s.keys, s.revoked, s.stream, s.targets, s.conditions, s.store.keys, s.store.revocation, []⟩, ?_, rfl,
      fun _ _ => rfl, fun h => ⟨h, rfl⟩, fun _ => rfl⟩
    have hrun : (s.running.map fun r => { r with outcomes := r.outcomes ++ [] }) = s.running := by simp
    simp only [List.map_nil, finishAll_nil, ActionTrace.on, hrun]
  | a :: actions, s => by
    obtain ⟨x, hx, ⟨hlen, hcond, hclosed, htargets⟩, -⟩ := finish_action c a s
    obtain ⟨y, hy, hlen', hcond', hclosed', htargets'⟩ := finishAll_anyActions c actions (x.on s)
    refine ⟨{ y with outcomes := x.outcomes ++ y.outcomes }, ?_, ?_, fun k hk => (hcond' k hk).trans (hcond k hk),
      fun h => ⟨(hclosed' (hclosed h).1).1, (hclosed' (hclosed h).1).2.trans (hclosed h).2⟩,
      fun h => (htargets' fun i => (congrArg (fun t => t.get i) (htargets h)).trans (h i)).trans (htargets h)⟩
    · rw [List.map_cons, finishAll_cons, hx, hy]
      simp only [ActionTrace.on, Option.map_map, Function.comp_def, List.append_assoc]
    · rw [List.length_append, hlen, hlen', List.length_cons, Nat.add_comm]

/-- A list of actions leaves a trace, which tells of its action when there is one alone. -/
theorem finishAll_actions (c : ClassNo) (actions : List Action) (s : State) :
    ∃ x : ActionTrace, finishAll (actions.map fun a => .action c a) s = x.on s ∧ x.Fits actions.length s
      ∧ ∀ a, actions = [a] → x.Tells c a s := by
  by_cases hone : ∃ a, actions = [a]
  · obtain ⟨a, rfl⟩ := hone
    obtain ⟨x, hx, hfits, htells⟩ := finish_action c a s
    exact ⟨x, hx, hfits, fun b hb => (List.cons.inj hb).1 ▸ htells⟩
  · obtain ⟨x, hx, hfits⟩ := finishAll_anyActions c actions s
    exact ⟨x, hx, hfits, fun a ha => absurd ⟨a, ha⟩ hone⟩

/-- What an action has done stands in every later state that keeps the tables it has written. -/
theorem ActionDone.later (h : ActionDone a s t) (hk : u.keys = t.keys) (hsk : u.store.keys = t.store.keys)
    (hr : u.revoked = t.revoked) (hsr : u.store.revocation = t.store.revocation)
    (h3 : u.conditions.get 3 = t.conditions.get 3) (h4 : u.conditions.get 4 = t.conditions.get 4)
    (ht : ∀ i x, u.targets.get i = some x → t.targets.get i = some x) : ActionDone a s u := by
  cases a with
  | revoke n =>
    refine ⟨h4.trans h.1, fun slot k hn hslot => ?_⟩
    obtain ⟨hkeys, hstored, hrev, hsrev, hcond, htargets⟩ := h.2 slot k hn hslot
    exact ⟨hk.trans hkeys, hsk.trans hstored, hr.trans hrev, hsr.trans hsrev, h3.trans hcond,
      fun i x hx => htargets i x (ht i x hx)⟩
  | install n key =>
    refine ⟨h4.trans h.1, fun slot hn => ?_⟩
    obtain ⟨hkeys, hstored, hrev, hsrev, hcond⟩ := h.2 slot hn
    exact ⟨hk.trans hkeys, hsk.trans hstored, hr.trans hrev, hsr.trans hsrev, h3.trans hcond⟩

theorem ActionSkipped.later (h : ActionSkipped s t) (hk : u.keys = t.keys) (hsk : u.store.keys = t.store.keys)
    (hr : u.revoked = t.revoked) (hsr : u.store.revocation = t.store.revocation)
    (h3 : u.conditions.get 3 = t.conditions.get 3) (h4 : u.conditions.get 4 = t.conditions.get 4) : ActionSkipped s u := by
  obtain ⟨hkeys, hstored, hrev, hsrev, hcond3, hcond4⟩ := h
  exact ⟨hk.trans hkeys, hsk.trans hstored, hr.trans hrev, hsr.trans hsrev, h3.trans hcond3, h4.trans hcond4⟩

/-! ### Steps after a write -/

/-- Every condition stands as it was, or is raised now. -/
def OnlyRaises (s t : State) : Prop :=
  ∀ k, t.conditions.get k = s.conditions.get k ∨ t.conditions.get k = some s.time.uptime

theorem onlyRaises_of_eq (h : t.conditions = s.conditions) : OnlyRaises s t := fun _ => .inl (by rw [h])

theorem onlyRaises_set {k : Fin 11} (h : t.conditions = s.conditions.set k (some s.time.uptime)) : OnlyRaises s t := by
  intro i
  rw [h, Tbl.get_set]
  split
  · exact .inr rfl
  · exact .inl rfl

theorem onlyRaises_swept {stream : Stream} (h : t.conditions = sweptConditions stream s) : OnlyRaises s t := by
  intro i
  rw [h, sweptConditions_get]
  split
  · exact .inr rfl
  · exact .inl rfl

theorem onlyRaises_act (x : JobStep) (s : State) : OnlyRaises s (x.act s) := by
  cases x with
  | action c a =>
    simp only [JobStep.act]
    split
    · exact onlyRaises_of_eq rfl
    · exact onlyRaises_of_eq rfl
    · exact onlyRaises_set (k := 4) rfl
  | revokeSlot slot =>
    intro k
    simp only [JobStep.act, sweepKey_eq, sweptConditions_get, raiseCond, Tbl.get_set]
    split
    · exact .inr rfl
    · split
      · exact .inr rfl
      · exact .inl rfl
  | sweepClass c b =>
    exact onlyRaises_swept (stream := s.stream.afterFloor c (floorOf c s)) (by simp only [JobStep.act, sweepClassFloor_eq])
  | marker m =>
    intro k
    simp only [JobStep.act]
    rw [partExtend_eq, extendedConditions_get]
    split
    · exact .inr rfl
    · exact .inl rfl
  | raise k => exact onlyRaises_set rfl
  | charge id =>
    simp only [JobStep.act]
    split <;> exact onlyRaises_of_eq rfl
  | success id =>
    simp only [JobStep.act]
    split <;> exact onlyRaises_of_eq rfl
  | eraseCred id =>
    simp only [JobStep.act]
    split <;> exact onlyRaises_of_eq rfl
  | eraseKey slot =>
    simp only [JobStep.act]
    split
    · exact onlyRaises_swept (stream := s.stream.afterSlot slot) (by simp only [eraseAndSweep, sweepKey_eq]; rfl)
    · exact onlyRaises_of_eq rfl
  | _ => exact onlyRaises_of_eq rfl

/-- The steps that a job does on its way to its next store write leave the store, and raise conditions only. -/
theorem runFree_keeps : ∀ (steps : List JobStep) (s : State),
    (runFree steps s).store = s.store
      ∧ ∀ k, s.conditions.get k = some s.time.uptime → (runFree steps s).conditions.get k = some s.time.uptime
  | [], s => ⟨rfl, fun _ h => h⟩
  | x :: steps, s => by
    cases hw : x.writes s with
    | true => exact (runFree_write hw).symm ▸ ⟨rfl, fun _ h => h⟩
    | false =>
      obtain ⟨hstore, hcond⟩ := runFree_keeps steps (x.complete s)
      have htime : (x.complete s).time = s.time := (stepFrame_complete x s).time
      rw [runFree_free hw]
      refine ⟨hstore.trans (by rw [complete_free hw]), fun k hk => ?_⟩
      have hraised : (x.complete s).conditions.get k = some s.time.uptime :=
        (onlyRaises_act x s k).elim (fun h => h.trans hk) id
      rw [← htime] at hraised
      exact (hcond k hraised).trans (by rw [htime])

end Sys2Proof.Machine
end

section
/-! PROOFS. Start-up, step by step, and what can go wrong in it (O49). -/

namespace Sys2Proof.Machine

open Sys2Proof

variable {s t : State}

/-! ### Steps with nothing going wrong -/

/-- A start-up under way in which nothing has gone wrong. -/
abbrev smooth (s : State) (n : Nat) : StartingUp := { state := s, writes := n, stopped := false, dead := false }

theorem foldl_startUpStep_none (steps : List JobStep) : ∀ (s : State) (n : Nat),
    ∃ m, steps.foldl (startUpStep .none) (smooth s n) = smooth (steps.foldl (fun s x => x.complete s) s) m := by
  induction steps with
  | nil => exact fun s n => ⟨n, rfl⟩
  | cons x steps ih =>
    intro s n
    rw [List.foldl_cons, startUpStep_none]
    exact ih _ _

theorem startUpSteps_none (steps : List JobStep) : ∀ (s : State) (n : Nat),
    ∃ m, startUpSteps .none steps (smooth s n) = smooth (finishAll steps s) m := by
  induction steps with
  | nil => exact fun s n => ⟨n, rfl⟩
  | cons x steps ih =>
    intro s n
    obtain ⟨m, hm⟩ := foldl_startUpStep_none (x :: x.follow s) s n
    have hx : startUpSteps .none (x :: steps) (smooth s n)
        = startUpSteps .none steps ((x :: x.follow s).foldl (startUpStep .none) (smooth s n)) := rfl
    rw [hx, hm]
    exact ih _ _

/-! ### The loaded store (R203, step 2) -/

/-- The state that a part without power has loaded from its store. -/
def loaded (bad : List RecordId) (s : State) : State :=
  loadStore bad (State.blank s.pending (.startUp false) s.store s.entropy)

/-- Step 3 without its writes: the slots of revoked keys are EMPTY. -/
def withoutRevoked (s : State) : State := { s with keys := s.keys.map (KeySlot.unlessRevoked s.revoked) }

/-! ### The finishing work that has nothing to do -/

theorem mem_revokedSlots {slot : Slot} :
    slot ∈ revokedSlots s ↔ ∃ k, s.keys.get slot = .active k ∧ k.fingerprint ∈ s.revoked := by
  simp only [revokedSlots, List.mem_filter, List.mem_finRange, true_and, Option.any_eq_true, List.contains_iff_mem]
  simp only [activeKey?_eq_some]

theorem finishRevocations_nothing (trouble : StartUpTrouble) {n : Nat}
    (h : ∀ slot k, s.keys.get slot = .active k → k.fingerprint ∉ s.revoked) :
    finishRevocations trouble (smooth s n) = smooth (withoutRevoked s) n := by
  have hnone : revokedSlots s = [] := List.eq_nil_iff_forall_not_mem.2 fun slot hslot => by
    obtain ⟨k, hk, hrev⟩ := mem_revokedSlots.1 hslot
    exact h slot k hk hrev
  simp only [finishRevocations, hnone, List.map_nil, startUpSteps_nil]
  rfl

/-- Removals of revoked slots' records change the store's key records alone. -/
theorem finishAll_removeRevoked : ∀ (slots : List Slot) (s : State),
    finishAll (slots.map .removeRevoked) s
      = { s with store := { s.store with
          keys := .ofFn fun slot => if slot ∈ slots then none else s.store.keys.get slot } }
  | [], s => by
    have hsame : (Tbl.ofFn fun slot => if slot ∈ ([] : List Slot) then none else s.store.keys.get slot) = s.store.keys :=
      Tbl.ext_get fun slot => by simp
    rw [hsame]
    rfl
  | slot :: slots, s => by
    have hstep : (JobStep.removeRevoked slot).finish s
        = { s with store := { s.store with keys := s.store.keys.set slot none } } := rfl
    have hkeys : (Tbl.ofFn fun x => if x ∈ slots then none else (s.store.keys.set slot none).get x)
        = Tbl.ofFn fun x => if x ∈ slot :: slots then none else s.store.keys.get x := by
      refine Tbl.ext_get fun x => ?_
      rw [Tbl.get_ofFn, Tbl.get_ofFn, Tbl.get_set]
      by_cases hx : x = slot
      · simp [hx]
      · simp [hx]
    rw [List.map_cons, finishAll_cons, hstep, finishAll_removeRevoked slots]
    exact congrArg (fun keys => { s with store := { s.store with keys } }) hkeys

/-- Step 3 with nothing going wrong. -/
theorem finishRevocations_none (s : State) (n : Nat) :
    ∃ m, finishRevocations .none (smooth s n)
      = smooth { withoutRevoked s with store := { s.store with
          keys := .ofFn fun slot => if slot ∈ revokedSlots s then none else s.store.keys.get slot } } m := by
  obtain ⟨m, hm⟩ := startUpSteps_none ((revokedSlots s).map .removeRevoked) (withoutRevoked s) n
  exact ⟨m, hm.trans (by rw [finishAll_removeRevoked]; rfl)⟩

/-- Deferred actions of a class at rest, or without a record, are none. -/
theorem deferredSteps_nothing {c : ClassNo} (h : ∀ r, s.classes.get c = some r → r.AtRest) : deferredSteps c s = [] := by
  cases hc : s.classes.get c with
  | none => simp [deferredSteps, hc]
  | some r => exact deferredSteps_atRest hc (h r hc)

/-- The classes are gone through one by one; those at rest bring nothing. -/
theorem foldl_deferred_nothing (trouble : StartUpTrouble) {b : StartingUp} :
    ∀ {l : List ClassNo}, (∀ c ∈ l, ∀ r, b.state.classes.get c = some r → r.AtRest) →
      l.foldl (fun b c => startUpSteps trouble (deferredSteps c b.state) b) b = b
  | [], _ => rfl
  | c :: l, h => by
    obtain ⟨hc, hl⟩ := List.forall_mem_cons.1 h
    rw [List.foldl_cons, deferredSteps_nothing hc]
    exact foldl_deferred_nothing trouble hl

theorem finishDeferred_nothing (trouble : StartUpTrouble) {b : StartingUp}
    (h : ∀ c r, b.state.classes.get c = some r → r.AtRest) : finishDeferred trouble b = b :=
  foldl_deferred_nothing trouble fun c _ => h c

/-- With one class not at rest, its deferred actions are finished alone. -/
theorem finishDeferred_one (trouble : StartUpTrouble) {b b' : StartingUp} (c : ClassNo)
    (hbefore : ∀ x, x ≠ c → ∀ r, b.state.classes.get x = some r → r.AtRest)
    (hb : startUpSteps trouble (deferredSteps c b.state) b = b')
    (hafter : ∀ x, x ≠ c → ∀ r, b'.state.classes.get x = some r → r.AtRest) : finishDeferred trouble b = b' := by
  obtain ⟨before, after, hsplit⟩ := List.append_of_mem (List.mem_finRange c)
  have hnodup := List.nodup_finRange 4
  rw [hsplit, List.nodup_append] at hnodup
  obtain ⟨-, htail, hdisjoint⟩ := hnodup
  have hne {x : ClassNo} (hx : x ∈ before) : x ≠ c := hdisjoint x hx c List.mem_cons_self
  have hne' {x : ClassNo} (hx : x ∈ after) : x ≠ c := fun he => (List.nodup_cons.1 htail).1 (he ▸ hx)
  rw [finishDeferred, hsplit, List.foldl_append, foldl_deferred_nothing trouble fun x hx => hbefore x (hne hx),
    List.foldl_cons, hb]
  exact foldl_deferred_nothing trouble fun x hx => hafter x (hne' hx)

theorem accountTrial_nothing (trouble : StartUpTrouble) {b : StartingUp}
    (h : ∀ c r, b.state.classes.get c = some r → r.state = .steady) : accountTrial trouble b = (b, false) := by
  simp only [accountTrial, trialClass_none h]

/-! ### Counting the start (R52) -/

theorem countTheStart_none (good : Bool) (s : State) (n : Nat) :
    ∃ m, countTheStart good .none (smooth s n)
      = smooth (if good && decide (s.partResets < 4294967295) then
          { s with partResets := s.partResets + 1, store := { s.store with partResets := s.partResets + 1 } }
        else s) m := by
  rw [countTheStart]
  split
  · obtain ⟨m, hm⟩ := startUpSteps_none [.countStart] s n
    exact ⟨m, hm⟩
  · exact ⟨n, rfl⟩

/-- The write of the count fails: the count is raised, its record not (R52). -/
theorem countTheStart_fails (landed : Bool) {s : State} {n : Nat} (h : s.partResets < 4294967295) :
    countTheStart true (.writeFails n landed) (smooth s n)
      = { state := { s with
            partResets := s.partResets + 1, conditions := s.conditions.set 9 (some s.time.uptime) }
          writes := n, stopped := true, dead := false } := by
  have hcount : decide (s.partResets < Config.resetCap) = true := decide_eq_true h
  simp [countTheStart, hcount, startUpSteps, JobStep.follow, startUpStep, JobStep.writes, JobStep.fail, JobStep.lose,
    JobStep.mayLand, raiseCond, Condition.index]

/-- Power is lost in the write of the count. -/
theorem countTheStart_lost (landed : Bool) {s : State} {n : Nat} (h : s.partResets < 4294967295) :
    countTheStart true (.powerLost n landed) (smooth s n)
      = { state := { s with store := if landed then { s.store with partResets := s.partResets + 1 } else s.store }
          writes := n, stopped := false, dead := true } := by
  have hcount : decide (s.partResets < Config.resetCap) = true := decide_eq_true h
  simp [countTheStart, hcount, startUpSteps, JobStep.follow, startUpStep, JobStep.writes, JobStep.land]

/-! ### Start-up without a standing mark and with every class at rest -/

/-- The classes that the store gives are at rest. -/
theorem atRest_loaded {bad : List RecordId} (h : ∀ c, .classRecord c ∉ bad → (s.store.classes.get c).AtRest) (c : ClassNo)
    (r : ClassRecord) (hr : (loaded bad s).classes.get c = some r) : r.AtRest := by
  have hget : (if bad.contains (.classRecord c) then none else some (s.store.classes.get c)) = some r :=
    (Tbl.get_ofFn _ _).symm.trans hr
  split at hget
  · exact absurd hget (by simp)
  · next hc =>
    obtain rfl := Option.some.inj hget
    exact h c (by simpa using hc)

/-- The lockouts and the power that the end of start-up's work leaves. -/
def upped (due : Bool) (s : State) : State := { reimposeLockouts s with power := .startUp due }

/-- Steps 3 to 7 of start-up, and whether the trial timer is to be started. -/
def finishingWork (marked good : Bool) (trouble : StartUpTrouble) (b : StartingUp) : StartingUp × Bool :=
  accountTrial trouble (finishDeferred trouble (countTheStart good trouble
    (finishOwnerReset marked trouble (finishRevocations trouble b))))

/-- What a start-up comes to: no power when it was lost, else the part before the end of start-up. -/
def cameTo (pending : List Instr) (entropy : Nat) (r : StartingUp × Bool) : State :=
  if r.1.dead then State.blank pending .off r.1.state.store entropy else upped r.2 r.1.state

theorem startUp_works (bad : List RecordId) (trouble : StartUpTrouble) (s : State) :
    startUp bad trouble s
      = cameTo s.pending s.entropy (finishingWork (s.store.resetMark && !bad.contains .ownerResetMark)
          (!bad.contains .partResetCount) trouble (smooth (loadStore bad s) 0)) := by
  unfold startUp finishingWork
  dsimp only
  generalize accountTrial trouble _ = r
  rfl

/-- A part reset of a part without power: its finishing work, on the loaded store. -/
theorem exec_partReset_off {input : StartUpInput} (h : s.power = .off) :
    exec (.partReset input) s
      = .next (cameTo s.pending s.entropy (finishingWork (s.store.resetMark && !input.bad.contains .ownerResetMark)
          (!input.bad.contains .partResetCount) input.trouble (smooth (loaded input.bad s) 0))) := by
  rw [partReset_off h, startUp_works]
  rfl

/-- Start-up when no mark is to be finished and every class is at rest: revocations and the count are its work. -/
theorem finishingWork_quiet (good : Bool) {trouble : StartUpTrouble} {b b' : StartingUp}
    (hb : countTheStart good trouble (finishRevocations trouble b) = b')
    (hrest : ∀ c r, b'.state.classes.get c = some r → r.AtRest) :
    finishingWork false good trouble b = (b', false) := by
  rw [finishingWork, finishOwnerReset, if_neg Bool.false_ne_true, hb, finishDeferred_nothing trouble hrest,
    accountTrial_nothing trouble fun c r hr => (hrest c r hr).1]

theorem mark_absent {bad : List RecordId} (h : s.store.resetMark = false ∨ .ownerResetMark ∈ bad) :
    (s.store.resetMark && !bad.contains .ownerResetMark) = false := by
  rcases h with h | h <;> simp [h]

/-- The revocation list that start-up has loaded. -/
def loadedList (bad : List RecordId) (s : State) : List (Bytes 32) :=
  if .revocationList ∈ bad then [] else s.store.revocation

theorem loaded_revoked (bad : List RecordId) (s : State) : (loaded bad s).revoked = loadedList bad s := by
  simp only [loaded, loadStore, raiseIf, loadedList, List.contains_eq_mem, decide_eq_true_eq]
  rfl

theorem loaded_key (bad : List RecordId) (s : State) (slot : Slot) :
    (loaded bad s).keys.get slot = if .keySlot slot ∈ bad then .empty else loadKey (s.store.keys.get slot) := by
  simp only [loaded, loadStore, raiseIf, Tbl.get_ofFn, List.contains_eq_mem, decide_eq_true_eq]
  rfl

/-- The slots whose keys start-up finds revoked. -/
theorem mem_revokedSlots_loaded {bad : List RecordId} {slot : Slot} :
    slot ∈ revokedSlots (loaded bad s)
      ↔ .keySlot slot ∉ bad ∧ ∃ k, s.store.keys.get slot = some k ∧ k.fingerprint ∈ loadedList bad s := by
  rw [mem_revokedSlots, loaded_revoked, loaded_key]
  by_cases hbad : RecordId.keySlot slot ∈ bad
  · simp [hbad]
  · cases hk : s.store.keys.get slot with
    | none => simp [hbad, loadKey]
    | some k => simp [hbad, loadKey]

/-- The state behind the count of a start-up in which nothing has gone wrong. -/
def countedUp (bad : List RecordId) (s : State) : State :=
  let cleared : State := { withoutRevoked (loaded bad s) with store := { s.store with
    keys := .ofFn fun slot => if slot ∈ revokedSlots (loaded bad s) then none else s.store.keys.get slot } }
  if !bad.contains .partResetCount && decide ((loaded bad s).partResets < 4294967295) then
    { cleared with
      partResets := cleared.partResets + 1, store := { cleared.store with partResets := cleared.partResets + 1 } }
  else cleared

theorem works_countedUp (bad : List RecordId) (s : State) :
    ∃ m, countTheStart (!bad.contains .partResetCount) .none (finishRevocations .none (smooth (loaded bad s) 0))
      = smooth (countedUp bad s) m := by
  obtain ⟨n, hn⟩ := finishRevocations_none (loaded bad s) 0
  rw [hn]
  exact countTheStart_none _ _ n

theorem countedUp_classes (bad : List RecordId) (s : State) : (countedUp bad s).classes = (loaded bad s).classes := by
  unfold countedUp
  dsimp only
  split <;> rfl

/-! ### The loaded fields -/

theorem upped_loaded (bad : List RecordId) (s : State) (stored : Store) (p : Nat) (conditions : Tbl (Option Count) 11) :
    upped false { withoutRevoked (loaded bad s) with store := stored, partResets := p, conditions }
      = { State.blank s.pending (.startUp false) stored s.entropy with
          keys := (loaded bad s).keys.map (KeySlot.unlessRevoked (loaded bad s).revoked)
          revoked := (loaded bad s).revoked
          creds := (loaded bad s).creds.map Credential.reimpose
          classes := (loaded bad s).classes
          partResets := p
          certificate := (loaded bad s).certificate
          settings := (loaded bad s).settings
          conditions } := rfl

/-- The record of a slot that start-up keeps, as O49 says it. -/
def keptOf (revoked : List (Bytes 32)) (k : Option KeyRecord) : Option KeyRecord :=
  k.filter fun k => decide (k.fingerprint ∉ revoked)

theorem loaded_keptKeys (bad : List RecordId) (s : State) :
    (loaded bad s).keys.map (KeySlot.unlessRevoked (loaded bad s).revoked)
      = .ofFn fun slot => if .keySlot slot ∈ bad then .empty
          else (keptOf (loadedList bad s) (s.store.keys.get slot)).elim .empty .active := by
  refine Tbl.ext_get fun slot => ?_
  rw [Tbl.get_map, loaded_revoked, loaded_key, Tbl.get_ofFn]
  by_cases hbad : RecordId.keySlot slot ∈ bad
  · simp only [hbad, if_true]
    rfl
  · simp only [hbad, if_false]
    cases s.store.keys.get slot with
    | none => rfl
    | some k =>
      by_cases hk : k.fingerprint ∈ loadedList bad s <;>
        simp [loadKey, KeySlot.unlessRevoked, keptOf, Option.filter, hk]

theorem loaded_storedKeys (bad : List RecordId) (s : State) :
    (Tbl.ofFn fun slot => if slot ∈ revokedSlots (loaded bad s) then none else s.store.keys.get slot)
      = .ofFn fun slot => if .keySlot slot ∈ bad then s.store.keys.get slot
          else keptOf (loadedList bad s) (s.store.keys.get slot) := by
  refine Tbl.ext_get fun slot => ?_
  rw [Tbl.get_ofFn, Tbl.get_ofFn]
  by_cases hbad : RecordId.keySlot slot ∈ bad
  · rw [if_neg fun h => (mem_revokedSlots_loaded.1 h).1 hbad, if_pos hbad]
  · rw [if_neg hbad]
    cases hk : s.store.keys.get slot with
    | none => simp [keptOf]
    | some k =>
      by_cases hrev : k.fingerprint ∈ loadedList bad s <;>
        simp [mem_revokedSlots_loaded, hbad, hk, hrev, keptOf, Option.filter]

/-- The credential that start-up makes of a stored one, its lockout imposed again (R134, R147). -/
def upCredential (c : Option StoredCred) : Credential := (loadCredential c).reimpose

theorem loaded_creds (bad : List RecordId) (s : State) :
    (loaded bad s).creds.map Credential.reimpose
      = .ofFn fun id => if .credential id ∈ bad then .empty else upCredential (s.store.creds.get id) := by
  refine Tbl.ext_get fun id => ?_
  have hget : (loaded bad s).creds.get id
      = if bad.contains (.credential id) then .empty else loadCredential (s.store.creds.get id) := Tbl.get_ofFn _ _
  rw [Tbl.get_map, hget, Tbl.get_ofFn]
  by_cases hbad : RecordId.credential id ∈ bad
  · simp only [List.contains_eq_mem, hbad, decide_true, if_true]
    rfl
  · simp only [List.contains_eq_mem, hbad, decide_false, Bool.false_eq_true, if_false]
    rfl

theorem loaded_classes (bad : List RecordId) (s : State) :
    (loaded bad s).classes = .ofFn fun c => if .classRecord c ∈ bad then none else some (s.store.classes.get c) := by
  simp only [loaded, loadStore, raiseIf, List.contains_eq_mem, decide_eq_true_eq]
  rfl

theorem loaded_conditions (bad : List RecordId) (s : State) :
    (loaded bad s).conditions = .ofFn fun k => if k = 10 ∧ bad.any s.store.has = true then some 0 else none := by
  refine Tbl.ext_get fun k => ?_
  have hcond : (loaded bad s).conditions
      = if bad.any s.store.has then (Tbl.replicate 11 none).set 10 (some 0) else Tbl.replicate 11 none := rfl
  rw [hcond, Tbl.get_ofFn]
  cases bad.any s.store.has with
  | true =>
    rw [if_pos rfl, Tbl.get_set, Tbl.get_replicate]
    simp only [and_true]
  | false => simp

theorem loaded_numbers (bad : List RecordId) (s : State) :
    (loaded bad s).partResets = (if .partResetCount ∈ bad then 0 else s.store.partResets)
      ∧ (loaded bad s).certificate = (if .certificate ∈ bad then none else some s.store.certificate)
      ∧ (loaded bad s).settings = (if .settings ∈ bad then .default else s.store.settings) := by
  simp only [loaded, loadStore, raiseIf, List.contains_eq_mem, decide_eq_true_eq]
  exact ⟨rfl, rfl, rfl⟩

/-! ### A part reset that has no job to finish -/

/-- The part-reset count after a start that is counted (R52). -/
def upCount (s : State) : Nat := if s.store.partResets < 4294967295 then s.store.partResets + 1 else s.store.partResets

/-- What start-up leaves before its end when it has no job to finish. -/
def upOf (bad : List RecordId) (s : State) : State :=
  { State.blank s.pending (.startUp false)
      { s.store with
        partResets := if .partResetCount ∈ bad then s.store.partResets else upCount s
        keys := .ofFn fun slot => if .keySlot slot ∈ bad then s.store.keys.get slot
          else keptOf (loadedList bad s) (s.store.keys.get slot) }
      s.entropy with
    keys := .ofFn fun slot =>
      if .keySlot slot ∈ bad then .empty else (keptOf (loadedList bad s) (s.store.keys.get slot)).elim .empty .active
    revoked := loadedList bad s
    creds := .ofFn fun id => if .credential id ∈ bad then .empty else upCredential (s.store.creds.get id)
    classes := .ofFn fun c => if .classRecord c ∈ bad then none else some (s.store.classes.get c)
    partResets := if .partResetCount ∈ bad then 0 else upCount s
    certificate := if .certificate ∈ bad then none else some s.store.certificate
    settings := if .settings ∈ bad then .default else s.store.settings
    conditions := .ofFn fun k => if k = 10 ∧ bad.any s.store.has = true then some 0 else none }

/-- The fields that start-up has loaded, with the store and the count that its work has left. -/
theorem upped_upOf {bad : List RecordId} {p : Nat} (hp : p = (upOf bad s).partResets) (stored : Store)
    (conditions : Tbl (Option Count) 11) :
    upped false { withoutRevoked (loaded bad s) with store := stored, partResets := p, conditions }
      = { upOf bad s with store := stored, conditions } := by
  obtain ⟨-, hcert, hset⟩ := loaded_numbers bad s
  rw [upped_loaded, loaded_keptKeys, loaded_creds, loaded_classes, loaded_revoked, hcert, hset, hp]
  rfl

theorem upped_eq_upOf {bad : List RecordId} {p : Nat} {stored : Store} (hp : p = (upOf bad s).partResets)
    (hstored : stored = (upOf bad s).store) :
    upped false { withoutRevoked (loaded bad s) with store := stored, partResets := p } = upOf bad s :=
  (upped_upOf hp stored (loaded bad s).conditions).trans (by rw [loaded_conditions, hstored]; rfl)

theorem upOf_store {bad : List RecordId} {p : Nat} (h : (upOf bad s).store.partResets = p) :
    (upOf bad s).store = { s.store with
      partResets := p
      keys := .ofFn fun slot => if .keySlot slot ∈ bad then s.store.keys.get slot
        else keptOf (loadedList bad s) (s.store.keys.get slot) } := by
  subst h
  rfl

theorem loaded_counts {bad : List RecordId} :
    (!bad.contains .partResetCount && decide ((loaded bad s).partResets < 4294967295)) = true
      ↔ .partResetCount ∉ bad ∧ s.store.partResets < 4294967295 := by
  rw [(loaded_numbers bad s).1]
  by_cases h : RecordId.partResetCount ∈ bad <;> simp [h]

/-- With the lockouts imposed again the counted state is what start-up leaves when it has no job to finish. -/
theorem upped_countedUp (bad : List RecordId) (s : State) : upped false (countedUp bad s) = upOf bad s := by
  have hloaded := (loaded_numbers bad s).1
  rw [countedUp, loaded_storedKeys]
  by_cases hcounts : RecordId.partResetCount ∉ bad ∧ s.store.partResets < 4294967295
  · obtain ⟨hgood, hlt⟩ := hcounts
    have hcount : (loaded bad s).partResets + 1 = (upOf bad s).partResets := by
      rw [hloaded, if_neg hgood]
      exact ((if_neg hgood).trans (if_pos hlt)).symm
    rw [if_pos (loaded_counts.2 ⟨hgood, hlt⟩)]
    refine upped_eq_upOf (s := s) hcount (upOf_store (s := s) ?_).symm
    exact ((if_neg hgood).trans (if_neg hgood).symm).trans hcount.symm
  · have hcount : (loaded bad s).partResets = (upOf bad s).partResets := by
      rw [hloaded]
      by_cases hbad : RecordId.partResetCount ∈ bad
      · rw [if_pos hbad]
        exact (if_pos hbad).symm
      · rw [if_neg hbad]
        exact ((if_neg hbad).trans (if_neg fun h => hcounts ⟨hbad, h⟩)).symm
    have hsame : (upOf bad s).store.partResets = s.store.partResets := by
      by_cases hbad : RecordId.partResetCount ∈ bad
      · exact if_pos hbad
      · exact (if_neg hbad).trans (if_neg fun h => hcounts ⟨hbad, h⟩)
    rw [if_neg (mt loaded_counts.1 hcounts)]
    exact upped_eq_upOf (s := s) (p := (loaded bad s).partResets) hcount (upOf_store hsame).symm

theorem exec_partReset_upOf {landed : Bool} {bad : List RecordId} (hp : s.power = .off)
    (hm : s.store.resetMark = false ∨ .ownerResetMark ∈ bad)
    (hrest : ∀ c, .classRecord c ∉ bad → (s.store.classes.get c).AtRest) :
    exec (.partReset { landed, bad, trouble := .none }) s = .next (upOf bad s) := by
  obtain ⟨m, hm'⟩ := works_countedUp bad s
  have hwork := finishingWork_quiet (!bad.contains .partResetCount) hm' fun c r hr =>
    atRest_loaded hrest c r (countedUp_classes bad s ▸ hr)
  rw [exec_partReset_off hp, mark_absent hm, hwork, ← upped_countedUp]
  rfl

/-- No stored key that start-up loads is revoked. -/
def NoneRevoked (bad : List RecordId) (s : State) : Prop :=
  ∀ slot k, .keySlot slot ∉ bad → s.store.keys.get slot = some k → k.fingerprint ∉ loadedList bad s

theorem finishRevocations_loaded {bad : List RecordId} (trouble : StartUpTrouble) (n : Nat) (h : NoneRevoked bad s) :
    finishRevocations trouble (smooth (loaded bad s) n) = smooth (withoutRevoked (loaded bad s)) n := by
  refine finishRevocations_nothing trouble fun slot k hk => ?_
  have hno : slot ∉ revokedSlots (loaded bad s) := by
    rw [mem_revokedSlots_loaded]
    rintro ⟨hbad, k', hk', hrev⟩
    exact h slot k' hbad hk' hrev
  exact fun hrev => hno (mem_revokedSlots.2 ⟨k, hk, hrev⟩)

section Trouble

variable {landed new : Bool} {bad : List RecordId} (hp : s.power = .off)
  (hm : s.store.resetMark = false ∨ .ownerResetMark ∈ bad)
  (hrest : ∀ c, .classRecord c ∉ bad → (s.store.classes.get c).AtRest) (hnone : NoneRevoked bad s)
  (hgood : .partResetCount ∉ bad) (hlt : s.store.partResets < 4294967295)
include hp hm hrest hnone hgood hlt

/-- The first write of a start-up, that of the count, fails (R52, R204). -/
theorem exec_partReset_countFails :
    exec (.partReset { landed, bad, trouble := .writeFails 0 new }) s
      = .next { upOf bad s with store := s.store, conditions := (upOf bad s).conditions.set 9 (some 0) } := by
  have hcontains : (!bad.contains .partResetCount) = true := by simpa using hgood
  have hloaded : (loaded bad s).partResets = s.store.partResets := (loaded_numbers bad s).1.trans (if_neg hgood)
  have hcount : (loaded bad s).partResets + 1 = (upOf bad s).partResets := by
    rw [hloaded]
    exact ((if_neg hgood).trans (if_pos hlt)).symm
  have hfails := countTheStart_fails new (s := withoutRevoked (loaded bad s)) (n := 0) (hloaded ▸ hlt)
  rw [exec_partReset_off hp, mark_absent hm, hcontains,
    finishingWork_quiet true (by rw [finishRevocations_loaded _ _ hnone, hfails]) fun c r hr => atRest_loaded hrest c r hr]
  refine congrArg _ ((upped_upOf hcount s.store _).trans ?_)
  rw [show (withoutRevoked (loaded bad s)).conditions = (upOf bad s).conditions from loaded_conditions bad s]
  rfl

/-- Power is lost in the first write of a start-up, that of the count (R204). -/
theorem exec_partReset_countLost :
    exec (.partReset { landed, bad, trouble := .powerLost 0 new }) s
      = .next (State.blank s.pending .off (if new then (upOf bad s).store else s.store) s.entropy) := by
  have hcontains : (!bad.contains .partResetCount) = true := by simpa using hgood
  have hloaded : (loaded bad s).partResets = s.store.partResets := (loaded_numbers bad s).1.trans (if_neg hgood)
  have hkeys : (Tbl.ofFn fun slot => if .keySlot slot ∈ bad then s.store.keys.get slot
      else keptOf (loadedList bad s) (s.store.keys.get slot)) = s.store.keys := by
    refine Tbl.ext_get fun slot => ?_
    rw [Tbl.get_ofFn]
    split
    · rfl
    · next hbad =>
      cases hk : s.store.keys.get slot with
      | none => rfl
      | some k => simp [keptOf, Option.filter, hnone slot k hbad hk]
  have hstore : (upOf bad s).store = { s.store with partResets := s.store.partResets + 1 } :=
    (upOf_store ((if_neg hgood).trans (if_pos hlt))).trans (by rw [hkeys])
  have hlost := countTheStart_lost new (s := withoutRevoked (loaded bad s)) (n := 0) (hloaded ▸ hlt)
  rw [exec_partReset_off hp, mark_absent hm, hcontains,
    finishingWork_quiet true (by rw [finishRevocations_loaded _ _ hnone, hlost]) fun c r hr => atRest_loaded hrest c r hr,
    hstore, ← hloaded]
  rfl

end Trouble

/-! ### The first store write of a finishing owner reset fails (R200, R204) -/

/-- The steps that remove a record or write the default settings. -/
def JobStep.erases : JobStep → Bool
  | .removeRevoked _ => true
  | .eraseCred _ => true
  | .eraseKey _ => true
  | .defaultSettings _ => true
  | _ => false

theorem follow_of_erases {x : JobStep} (h : x.erases = true) (s : State) : x.follow s = [] := by
  cases x with
  | action c a => cases h
  | _ => rfl

/-- The parts of the state that no erasure touches. -/
structure UnErased (s t : State) : Prop where
  log : t.log = s.log
  time : t.time = s.time
  done : t.conditions.get 8 = s.conditions.get 8
  failed : t.conditions.get 9 = s.conditions.get 9
  mark : t.store.resetMark = s.store.resetMark
  count : t.store.partResets = s.store.partResets

theorem unErased_eraseAndSweep (slot : Slot) (s : State) : UnErased s (eraseAndSweep slot s) := by
  rw [eraseAndSweep, sweepKey_eq]
  refine ⟨rfl, rfl, ?_, ?_, rfl, rfl⟩
  · exact (sweptConditions_get _ _ _).trans (if_neg fun h => absurd h.1 (by decide))
  · exact (sweptConditions_get _ _ _).trans (if_neg fun h => absurd h.1 (by decide))

theorem unErased_act {x : JobStep} (h : x.erases = true) (s : State) : UnErased s (x.act s) := by
  have hid : UnErased s s := ⟨rfl, rfl, rfl, rfl, rfl, rfl⟩
  cases x with
  | removeRevoked slot => exact hid
  | eraseCred id =>
    simp only [JobStep.act]
    split
    · exact ⟨rfl, rfl, rfl, rfl, rfl, rfl⟩
    · exact hid
  | eraseKey slot =>
    simp only [JobStep.act]
    split
    · obtain ⟨h1, h2, h3, h4, h5, h6⟩ := unErased_eraseAndSweep slot s
      exact ⟨h1, h2, h3, h4, h5, h6⟩
    · exact hid
  | defaultSettings b => exact ⟨rfl, rfl, rfl, rfl, rfl, rfl⟩
  | _ => cases h

theorem unErased_fail {x : JobStep} (h : x.erases = true) (landed : Bool) (s : State) : UnErased s (x.fail landed s) := by
  have hstore : ∀ store : Store, store.resetMark = s.store.resetMark → store.partResets = s.store.partResets →
      ∀ b : Bool, (if b then store else s.store).resetMark = s.store.resetMark
        ∧ (if b then store else s.store).partResets = s.store.partResets := fun store h1 h2 b => by
    cases b
    · exact ⟨rfl, rfl⟩
    · exact ⟨h1, h2⟩
  cases x with
  | removeRevoked slot =>
    obtain ⟨h1, h2⟩ := hstore ((JobStep.removeRevoked slot).land s) rfl rfl (landed && true)
    exact ⟨rfl, rfl, rfl, rfl, h1, h2⟩
  | eraseCred id =>
    obtain ⟨h1, h2⟩ := hstore ((JobStep.eraseCred id).land s) rfl rfl (landed && true)
    exact ⟨rfl, rfl, rfl, rfl, h1, h2⟩
  | eraseKey slot =>
    obtain ⟨h1, h2⟩ := hstore ((JobStep.eraseKey slot).land s) rfl rfl (landed && true)
    obtain ⟨g1, g2, g3, g4, -, -⟩ := unErased_eraseAndSweep slot s
    exact ⟨g1, g2, g3, g4, h1, h2⟩
  | defaultSettings b =>
    obtain ⟨h1, h2⟩ := hstore ((JobStep.defaultSettings b).land s) rfl rfl (landed && true)
    exact ⟨rfl, rfl, rfl, rfl, h1, h2⟩
  | _ => cases h

/-- A start-up of which the first write is to fail, on its way through erasures: it has made no write, or it has
stopped with NV_WRITE_FAILED raised. -/
structure Halting (s : State) (b : StartingUp) : Prop where
  alive : b.dead = false
  log : b.state.log = s.log
  time : b.state.time = s.time
  done : b.state.conditions.get 8 = s.conditions.get 8
  mark : b.state.store.resetMark = s.store.resetMark
  count : b.state.store.partResets = s.store.partResets
  fresh : b.stopped = false → b.writes = 0
  failed : b.stopped = true → b.state.conditions.get 9 = some s.time.uptime

theorem Halting.step {b : StartingUp} {x : JobStep} (new : Bool) (h : Halting s b) (hx : x.erases = true) :
    Halting s (startUpStep (.writeFails 0 new) b x)
      ∧ (b.stopped = true ∨ x.writes b.state = true → (startUpStep (.writeFails 0 new) b x).stopped = true) := by
  obtain ⟨halive, hlog, htime, hdone, hmark, hcount, hfresh, hfailed⟩ := h
  cases hstop : b.stopped with
  | true =>
    rw [startUpStep_stopped _ _ (.inl hstop)]
    exact ⟨⟨halive, hlog, htime, hdone, hmark, hcount, hfresh, hfailed⟩, fun _ => hstop⟩
  | false =>
    have hgo : ¬(b.dead || b.stopped) = true := by simp [halive, hstop]
    have hzero : b.writes = 0 := hfresh hstop
    cases hw : x.writes b.state with
    | false =>
      obtain ⟨g1, g2, g3, -, g5, g6⟩ := unErased_act hx b.state
      have hstep : startUpStep (.writeFails 0 new) b x = { b with state := x.complete b.state } := by
        simp [startUpStep, hgo, hw]
      rw [hstep, complete_free hw]
      refine ⟨⟨halive, g1.trans hlog, g2.trans htime, g3.trans hdone, hmark, hcount, hfresh, fun hs => ?_⟩, ?_⟩
      · exact absurd (hstop.symm.trans hs) (by decide)
      · rintro (hs | hs)
        · exact absurd hs (by decide)
        · exact absurd hs (by decide)
    | true =>
      obtain ⟨g1, g2, g3, -, g5, g6⟩ := unErased_fail hx new b.state
      have hstep : startUpStep (.writeFails 0 new) b x
          = { b with state := raiseCond .nvWriteFailed (x.fail new b.state), stopped := true } := by
        simp [startUpStep, hgo, hw, hzero]
      rw [hstep]
      refine ⟨⟨halive, g1.trans hlog, g2.trans htime, ?_, g5.trans hmark, g6.trans hcount, fun hs => ?_, fun _ => ?_⟩,
        fun _ => rfl⟩
      · exact (Tbl.get_set_ne _ _ (by decide)).trans (g3.trans hdone)
      · exact absurd (show true = false from hs) (by decide)
      · refine (Tbl.get_set_self _ _ _).trans (congrArg some ?_)
        rw [g2, htime]

theorem Halting.steps (new : Bool) : ∀ {steps : List JobStep} {b : StartingUp}, (∀ x ∈ steps, x.erases = true) →
    Halting s b → Halting s (startUpSteps (.writeFails 0 new) steps b)
  | [], _, _, h => h
  | x :: steps, b, hall, h => by
    obtain ⟨hx, hsteps⟩ := List.forall_mem_cons.1 hall
    rw [startUpSteps_cons _ _ _ _ (follow_of_erases hx _)]
    exact Halting.steps new hsteps (h.step new hx).1

theorem startUpSteps_append (trouble : StartUpTrouble) (x y : List JobStep) (b : StartingUp) :
    startUpSteps trouble (x ++ y) b = startUpSteps trouble y (startUpSteps trouble x b) := List.foldl_append

/-- Once start-up has stopped, the work behind the owner reset is not made. -/
theorem finishingWork_stopped {marked good : Bool} {trouble : StartUpTrouble} {b b' : StartingUp}
    (hb : finishOwnerReset marked trouble (finishRevocations trouble b) = b') (hstop : b'.stopped = true) :
    ∃ due, finishingWork marked good trouble b = (b', due) := by
  have hsteps (l : List JobStep) : startUpSteps trouble l b' = b' := startUpSteps_stopped trouble l (.inl hstop)
  have hcount : countTheStart good trouble b' = b' := by
    rw [countTheStart]
    split
    · exact hsteps _
    · rfl
  have hdeferred : finishDeferred trouble b' = b' :=
    List.foldlRecOn (motive := fun b => b = b') _ _ rfl fun b hb c _ => by rw [hb]; exact hsteps _
  rw [finishingWork, hb, hcount, hdeferred, accountTrial]
  split
  · exact ⟨_, rfl⟩
  · exact ⟨_, by dsimp only; rw [hsteps]⟩

/-- A standing mark goes on standing when the first write of start-up fails (R200, R204). -/
theorem exec_partReset_markFails {landed new : Bool} (hp : s.power = .off) (hm : s.store.resetMark = true) :
    ∃ t, exec (.partReset { landed, bad := [], trouble := .writeFails 0 new }) s = .next t
      ∧ t.store.resetMark = true ∧ t.store.partResets = s.store.partResets ∧ t.log = []
      ∧ t.conditions.get 8 = none ∧ t.conditions.get 9 = some 0 := by
  let u : State := withoutRevoked (loaded [] s)
  have hstart : Halting u (smooth u 0) :=
    ⟨rfl, rfl, rfl, rfl, rfl, rfl, fun _ => rfl, fun h => absurd (show false = true from h) (by decide)⟩
  have hrevoked : Halting u (finishRevocations (.writeFails 0 new) (smooth (loaded [] s) 0)) :=
    Halting.steps new (fun x hx => by obtain ⟨slot, -, rfl⟩ := List.mem_map.1 hx; rfl) hstart
  let erasures : List JobStep := (List.finRange 16).map .eraseCred ++ (List.finRange 64).map .eraseKey
  have herasures : ∀ x ∈ erasures, x.erases = true := fun x hx => by
    rcases List.mem_append.1 hx with hx | hx
    · obtain ⟨id, -, rfl⟩ := List.mem_map.1 hx
      rfl
    · obtain ⟨slot, -, rfl⟩ := List.mem_map.1 hx
      rfl
  let rest : List JobStep := [.markRemove, .marker { kind := .ownerReset, cls := 0, version := 0 }, .raise .ownerResetDone]
  have hsplit : eraseSteps true = erasures ++ .defaultSettings true :: rest := rfl
  obtain ⟨b, hb, hhalted, hstopped⟩ : ∃ b, finishOwnerReset true (.writeFails 0 new)
      (finishRevocations (.writeFails 0 new) (smooth (loaded [] s) 0)) = b ∧ Halting u b ∧ b.stopped = true := by
    obtain ⟨hhalted, hstops⟩ := (Halting.steps new herasures hrevoked).step new (x := .defaultSettings true) rfl
    refine ⟨_, ?_, hhalted, hstops (.inr rfl)⟩
    rw [finishOwnerReset, if_pos rfl, hsplit, startUpSteps_append, startUpSteps_cons _ _ _ _ rfl]
    exact startUpSteps_stopped _ _ (.inl (hstops (.inr rfl)))
  obtain ⟨due, hwork⟩ := finishingWork_stopped (good := !([] : List RecordId).contains .partResetCount) hb hstopped
  have hmark : (s.store.resetMark && !([] : List RecordId).contains .ownerResetMark) = true := by simp [hm]
  have hcame : cameTo s.pending s.entropy (b, due) = upped due b.state := by simp [cameTo, hhalted.alive]
  have hmarked : u.store.resetMark = true := hm
  have hdone : u.conditions.get 8 = none := by
    rw [show u.conditions = _ from loaded_conditions [] s, Tbl.get_ofFn,
      if_neg fun h => absurd h.1 (show (8 : Fin 11) ≠ 10 by decide)]
  refine ⟨upped due b.state, by rw [exec_partReset_off hp, hmark, hwork, hcame], hhalted.mark.trans hmarked, hhalted.count,
    hhalted.log, hhalted.done.trans hdone, hhalted.failed hstopped⟩

/-! ### A record that fails its check (R203, R204) -/

/-- NV_INTEGRITY, once raised, stays raised through every step of start-up. -/
theorem startUpKeeps_integrity : StartUpKeeps fun t => t.conditions.get 10 ≠ none where
  complete x s h := by
    have hact : (x.act s).conditions.get 10 ≠ none := (onlyRaises_act x s 10).elim (fun he => he ▸ h) fun he => by simp [he]
    exact hact
  fail x landed s h := by
    have hlose : (x.lose s).conditions.get 10 ≠ none := by
      have hsweep (slot : Slot) : (eraseAndSweep slot s).conditions.get 10 = s.conditions.get 10 := by
        rw [eraseAndSweep, sweepKey_eq]
        exact (sweptConditions_get _ _ _).trans (if_neg fun h => absurd h.1 (show (10 : Fin 11) ≠ 2 by decide))
      cases x with
      | keyRemove slot | eraseKey slot => exact (hsweep slot).symm ▸ h
      | _ => exact h
    have hset : ((x.lose s).conditions.set 9 (some (x.lose s).time.uptime)).get 10 = (x.lose s).conditions.get 10 :=
      Tbl.get_set_ne _ _ (by decide)
    exact fun hnone => hlose (hset.symm.trans hnone)
  cut _ _ h _ := h

theorem finishingWork_none (marked good : Bool) (s : State) (n : Nat) :
    ∃ u m due, finishingWork marked good .none (smooth s n) = (smooth u m, due) := by
  have hsteps (l : List JobStep) : ∀ b : StartingUp, (∃ u m, b = smooth u m) → ∃ u m, startUpSteps .none l b = smooth u m := by
    rintro _ ⟨u, m, rfl⟩
    obtain ⟨m', h⟩ := startUpSteps_none l u m
    exact ⟨_, m', h⟩
  have hrevoked : ∃ u m, finishRevocations .none (smooth s n) = smooth u m := hsteps _ _ ⟨_, n, rfl⟩
  have howner : ∃ u m, finishOwnerReset marked .none (finishRevocations .none (smooth s n)) = smooth u m := by
    rw [finishOwnerReset]
    split
    · exact hsteps _ _ hrevoked
    · exact hrevoked
  have hcount : ∃ u m, countTheStart good .none (finishOwnerReset marked .none (finishRevocations .none (smooth s n)))
      = smooth u m := by
    rw [countTheStart]
    split
    · exact hsteps _ _ howner
    · exact howner
  have hdeferred : ∃ u m, finishDeferred .none (countTheStart good .none
      (finishOwnerReset marked .none (finishRevocations .none (smooth s n)))) = smooth u m :=
    List.foldlRecOn (motive := fun b => ∃ u m, b = smooth u m) _ _ hcount fun b hb c _ => hsteps _ b hb
  rw [finishingWork, accountTrial]
  obtain ⟨u, m, hu⟩ := hdeferred
  rw [hu]
  split
  · exact ⟨u, m, _, rfl⟩
  · obtain ⟨m', hm'⟩ := startUpSteps_none _ u m
    exact ⟨_, m', _, by dsimp only; rw [hm']⟩

/-- A failed record leaves NV_INTEGRITY raised, and the part in FAULT mode when its start-up has ended. -/
theorem execAll_badRecord {landed : Bool} {bad : List RecordId} {id : RecordId} (hp : s.power = .off) (hid : id ∈ bad)
    (hhas : s.store.has id = true) :
    ∃ t, execAll [.partReset { landed, bad, trouble := .none }, .startUpEnd false] s = .next t ∧ t.fault = true
      ∧ t.conditions.get 10 ≠ none := by
  obtain ⟨u, m, due, hwork⟩ := finishingWork_none (s.store.resetMark && !bad.contains .ownerResetMark)
    (!bad.contains .partResetCount) (loaded bad s) 0
  have hraised : (loaded bad s).conditions.get 10 ≠ none := by
    have hany : bad.any s.store.has = true := List.any_eq_true.2 ⟨id, hid, hhas⟩
    rw [loaded_conditions, Tbl.get_ofFn, if_pos ⟨rfl, hany⟩]
    exact Option.some_ne_none _
  have hreset : exec (.partReset { landed, bad, trouble := .none }) s = .next (upped due u) := by
    rw [exec_partReset_off hp, hwork]
    rfl
  have hkept : (upped due u).conditions.get 10 ≠ none := by
    obtain ⟨t, due', ht, hstart⟩ := startUpKeeps_integrity.startUp bad .none
      (State.blank s.pending (.startUp false) s.store s.entropy) hraised
    have hsame : upped due u = startUp bad .none (State.blank s.pending (.startUp false) s.store s.entropy) :=
      Host.Outcome.next.inj (hreset.symm.trans (partReset_off hp))
    rw [hsame]
    rcases hstart with hstart | hstart
    · have hpower := congrArg State.power (hsame.trans hstart)
      exact absurd hpower (by simp [upped, State.blank])
    · rw [hstart]
      exact ht
  have hend : exec (.startUpEnd false) (upped due u) = .next (recomputeAttn (startIf due (openPart false (upped due u)))) :=
    rfl
  refine ⟨recomputeAttn (startIf due (openPart false (upped due u))), by simp only [execAll, hreset, hend], ?_, ?_⟩
  · have hfault : (openPart false (upped due u)).fault = true :=
      (Bool.or_eq_true _ _).mpr (.inr (Option.isSome_iff_ne_none.2 hkept))
    cases due <;> exact hfault
  · cases due <;> exact hkept

/-! ### O49 -/

/-- The part opened at the end of start-up. -/
theorem exec_startUpEnd {low due : Bool} (hp : s.power = .startUp due) :
    exec (.startUpEnd low) s = .next (recomputeAttn (startIf due (openPart low s))) := by
  show execStartUpEnd low s = _
  rw [execStartUpEnd, hp]

/-- Settles O49: start-up's work on the loaded store, with its failures; its end opens station 0. -/
theorem partResetRebuildsFromStore : Obligations.PartResetRebuildsFromStore := by
  refine ⟨fun landed s => ⟨storeAfterLoss landed s, rfl, ?lost⟩, fun landed bad s hp hm hrest => ?quiet,
    fun landed new s hp hm => exec_partReset_markFails hp hm, fun input s hp => ?powered,
    fun senseLow due s hp => ?opened, fun landed bad id s hp hid hhas => execAll_badRecord hp hid hhas⟩
  case lost =>
    rw [storeAfterLoss]
    cases hw : underWay s with
    | none => exact .inl rfl
    | some write =>
      cases landed with
      | false => exact .inl rfl
      | true => exact .inr ⟨write, rfl, rfl⟩
  case quiet =>
    intro revoked kept count up starts
    have hkept (slot : Slot) : kept slot = keptOf revoked (s.store.keys.get slot) := by
      simp only [kept]
      cases s.store.keys.get slot with
      | none => rfl
      | some k =>
        by_cases hk : k.fingerprint ∈ revoked <;> simp [keptOf, Option.filter, hk]
    have hup : up = upOf bad s := by
      have hkeys : up.keys = (upOf bad s).keys := Tbl.ext_get fun slot => by
        simp only [up, upOf, Tbl.get_ofFn, hkept]
        split
        · rfl
        · show _ = (keptOf revoked (s.store.keys.get slot)).elim KeySlot.empty KeySlot.active
          cases keptOf revoked (s.store.keys.get slot) <;> rfl
      have hstored : up.store.keys = (upOf bad s).store.keys := Tbl.ext_get fun slot => by
        show (Tbl.ofFn _).get slot = (Tbl.ofFn _).get slot
        rw [Tbl.get_ofFn, Tbl.get_ofFn, hkept]
        rfl
      have hcreds : up.creds = (upOf bad s).creds := Tbl.ext_get fun id => by
        simp only [up, upOf, Tbl.get_ofFn]
        cases s.store.creds.get id <;> rfl
      calc up = { upOf bad s with
            keys := up.keys, creds := up.creds, store := { (upOf bad s).store with keys := up.store.keys } } := rfl
        _ = upOf bad s := by rw [hkeys, hstored, hcreds]
    rw [hup]
    refine ⟨exec_partReset_upOf hp hm hrest, fun hnone hgood hlt new =>
      ⟨exec_partReset_countFails hp hm hrest hnone hgood hlt, exec_partReset_countLost hp hm hrest hnone hgood hlt⟩⟩
  case powered =>
    have hlost : exec (.powerLost input.landed) s
        = .next (State.blank s.pending .off (storeAfterLoss input.landed s) s.entropy) := by
      show Host.Outcome.next (if s.power = .off then s else losePower input.landed s) = _
      rw [if_neg hp]
      rfl
    simp only [execAll, hlost]
    show Host.Outcome.next (partReset input s) = Host.Outcome.next (partReset input _)
    rw [partReset, if_neg hp]
    rfl
  case opened =>
    refine ⟨_, exec_startUpEnd hp, ?_⟩
    have hfault : (openPart senseLow s).fault = true ↔ s.conditions.get 9 ≠ none ∨ s.conditions.get 10 ≠ none :=
      (Bool.or_eq_true _ _).to_iff.trans (or_congr Option.isSome_iff_ne_none Option.isSome_iff_ne_none)
    have hstation (st : Station) : (openPart senseLow s).stations.get st
        = { state := if st = 0 then .opened else .waiting, slot := none, masked := false, grant := none } := by
      refine (Tbl.get_ofFn _ _).trans ?_
      have hzero : st.val = 0 ↔ st = 0 := (Fin.ext_iff (a := st) (b := 0)).symm
      simp only [StationRec.atBoot, StationRec.waiting, hzero]
    cases due with
    | true => exact ⟨rfl, hstation, hfault, fun _ => ⟨rfl, rfl⟩, fun h => absurd h (by decide), rfl, rfl⟩
    | false => exact ⟨rfl, hstation, hfault, fun h => absurd h (by decide), fun _ => ⟨rfl, rfl⟩, rfl, rfl⟩

end Sys2Proof.Machine
end

section
/-! PROOFS. Deferred actions in an activation, a confirm and start-up (O37). -/

namespace Sys2Proof.Machine

open Sys2Proof

variable {s t u : State} {c : ClassNo} {slot : Slot}

/-! ### One store write of a running job completes -/

theorem writeCompletes_of {run : Running} {step : JobStep} {rest : List JobStep} (hr : s.running = some run)
    (ht : run.todo = step :: rest) (hw : step.writes s = true) :
    writeCompletes s = runFree (step.follow s ++ rest) (step.complete s) := by
  obtain ⟨job, crossed, dropped, todo, data, outcomes⟩ := run
  subst ht
  simp only [writeCompletes, hr, hw, if_true]

theorem exec_storeWriteComplete {run : Running} {step : JobStep} {rest : List JobStep} (hp : s.power = .on)
    (hr : s.running = some run) (ht : run.todo = step :: rest) (hw : step.writes s = true) :
    exec .storeWriteComplete s = .next (recomputeAttn (runFree (step.follow s ++ rest) (step.complete s))) := by
  show whenOn writeCompletes s = _
  rw [whenOn_on hp, writeCompletes_of hr ht hw]

/-! ### The conditions and targets behind a change -/

theorem conditions_behind_change {stream : Stream} {k : Fin 11} (h1 : k ≠ 1) (h2 : k ≠ 2) :
    (extendedConditions { s with conditions := sweptConditions stream s }).get k = s.conditions.get k :=
  (changeConditions_get _ _ _).trans (if_neg fun h => h.elim (fun h => h2 h.1) fun h => h1 h.1)

theorem target_of_swept {swept : Bool} {r : ClassRecord} {i : TargetNo} {x : Target}
    (h : (s.targets.map (sweptTargets c swept r)).get i = some x) : s.targets.get i = some x := by
  rw [Tbl.get_map] at h
  exact (Option.filter_eq_some_iff.1 h).1

theorem target_of_swept_set {swept : Bool} {r : ClassRecord} {i j : TargetNo} {x : Target}
    (h : ((s.targets.map (sweptTargets c swept r)).set j none).get i = some x) : s.targets.get i = some x := by
  rw [Tbl.get_set] at h
  split at h
  · cases h
  · exact target_of_swept h

theorem outcomeBytes (os : List ActionOutcome) : ∀ o ∈ os.map ActionOutcome.toByte, o = 1 ∨ o = 2 := by
  intro o ho
  obtain ⟨x, -, rfl⟩ := List.mem_map.1 ho
  cases x
  · exact .inl rfl
  · exact .inr rfl

/-- The record that an activation or a confirm leaves names its class's signer in its active bank. -/
theorem activeSigner_recorded {r : ClassRecord} {i : ImageRecord} (hi : r.image r.active = some i) :
    activeSigner c (recorded c r s) = some i.signer := activeSigner_of (Tbl.get_set_self _ _ _) hi

/-- Actions in an activation: what the part's tables hold behind it. -/
theorem actions_in_activation (q : Bool) (index : TargetNo) (x : Target) (k : KeyRecord) (r : ClassRecord) (rest : List Job)
    (s : State) (h : MayStart (stationJob 2 q (.targetActivate index)) rest s) (hx : s.targets.get index = some x)
    (hperm : x.trial = false) (hr : s.classes.get x.cls = some r) (hsteady : r.state = .steady)
    (hfloor : r.floor ≤ x.version) (hk : s.keys.get x.signer = .active k) :
    ∃ u outcomes, execAll [.targetActivateJobStart, .targetActivateJobEnd] s = .next u
      ∧ u.stations = s.stations.set 2
          { s.stations.get 2 with
            slot := some { result := .ok, code := 52, notice := !q,
                           body := [byte x.cls, x.bank.toByte] ++ be16 x.version ++ be16 x.version ++ outcomes } }
      ∧ PartExtended 10 ([1, byte x.cls] ++ be16 x.version) s u
      ∧ outcomes.length = x.actions.length ∧ (∀ o ∈ outcomes, o = 1 ∨ o = 2) ∧ u.running = none
      ∧ (∃ record, u.classes.get x.cls = some record ∧ record.deferred = [] ∧ u.store.classes.get x.cls = record)
      ∧ (∀ c, c ≠ x.cls → u.classes.get c = s.classes.get c ∧ u.store.classes.get c = s.store.classes.get c)
      ∧ (∀ k, k = 0 ∨ 5 ≤ k.val → u.conditions.get k = s.conditions.get k)
      ∧ u = { s with
              queue := rest, running := none, stations := u.stations, keys := u.keys, revoked := u.revoked
              chains := u.chains, log := u.log, stream := u.stream, targets := u.targets, classes := u.classes
              conditions := u.conditions, attn := u.attn
              store := { s.store with revocation := u.store.revocation, keys := u.store.keys,
                                      classes := u.store.classes } }
      ∧ ∀ a, x.actions = [a] →
        (ActionApplies a x.signer s → outcomes = [1] ∧ ActionDone a s u)
          ∧ (¬ActionApplies a x.signer s → outcomes = [2] ∧ ActionSkipped s u) := by
  obtain ⟨hactive, hrfloor, -, -, himage, -⟩ := r.activated_fields x
  rw [Nat.max_eq_right hfloor] at hrfloor
  let begun : State := started (stationJob 2 q (.targetActivate index)) rest (activationSteps index x r) (.image x) s
  let m : Marker := { kind := .activate, cls := x.cls, version := x.version }
  let noted : State := recorded x.cls (r.activated x) begun
  obtain ⟨y, hy, hfits, htells⟩ := finishAll_actions x.cls x.actions noted
  have hfinish := finishAll_permanent (i := index) (s := begun) hperm hr hy (Tbl.get_set_self _ _ _)
  have hexec := execAll_activate h hx hr ⟨hsteady, fun hp => absurd (hperm.symm.trans hp) (by decide)⟩ hfloor hk hfinish rfl
    ⟨rfl, rfl, rfl⟩
  have hsigner : activeSigner x.cls noted = some x.signer := activeSigner_recorded (i := x.image) (by rw [hactive, himage])
  refine ⟨_, y.outcomes.map ActionOutcome.toByte, hexec, ?stations, partExtended_partExtend m _,
    (List.length_map _).trans hfits.length, outcomeBytes _, rfl, ⟨_, Tbl.get_set_self _ _ _, rfl, Tbl.get_set_self _ _ _⟩,
    ?others, ?conditions, ?frame, fun a ha => ?single⟩
  case stations =>
    refine congrArg (fun body => s.stations.set 2 { s.stations.get 2 with
      slot := some { result := .ok, code := 52, notice := !q, body } }) ?_
    refine (activateReply_permanent hperm (Tbl.get_set_self _ _ _) _).trans ?_
    rw [show ({ r.activated x with deferred := [] } : ClassRecord).floor = x.version from hrfloor]
    rfl
  case others =>
    intro c hc
    exact ⟨(Tbl.get_set_ne _ _ hc).trans (Tbl.get_set_ne _ _ hc), (Tbl.get_set_ne _ _ hc).trans (Tbl.get_set_ne _ _ hc)⟩
  case conditions =>
    intro k hk
    have hne : k ≠ 1 ∧ k ≠ 2 := by
      revert hk
      revert k
      decide
    exact (conditions_behind_change hne.1 hne.2).trans (hfits.conditions k (hk.imp_right .inr))
  case frame =>
    simp only [ended, placeReply, setStation, recomputeAttn, changed, ActionTrace.on, noted, recorded, begun, started]
  case single =>
    obtain ⟨happlies, hskips⟩ := htells a ha x.signer hsigner
    refine ⟨fun hap => ?_, fun hap => ?_⟩
    · obtain ⟨hos, hdone⟩ := happlies hap
      exact ⟨by rw [hos]; rfl, ActionDone.later (t := y.on noted) hdone rfl rfl rfl rfl
        (conditions_behind_change (by decide) (by decide)) (conditions_behind_change (by decide) (by decide))
        fun i z hz => target_of_swept_set hz⟩
    · obtain ⟨hos, hskipped⟩ := hskips hap
      exact ⟨by rw [hos]; rfl, ActionSkipped.later (t := y.on noted) hskipped rfl rfl rfl rfl
        (conditions_behind_change (by decide) (by decide)) (conditions_behind_change (by decide) (by decide))⟩

/-- Actions in a confirm: what the part's tables hold behind it. -/
theorem actions_in_confirm (q : Bool) (bank : Bank) (n : Nat) (image : ImageRecord) (r : ClassRecord) (rest : List Job)
    (s : State) (h : MayStart (stationJob 2 q (.bootConfirm c)) rest s) (hr : s.classes.get c = some r)
    (hs : r.state = .booting bank n) (hhold : s.hold = true) (hi : r.image bank = some image) (hne : bank ≠ r.active) :
    ∃ u outcomes, execAll [.bootConfirmJobStart, .bootConfirmJobEnd] s = .next u
      ∧ u.stations = s.stations.set 2
          { s.stations.get 2 with
            slot := some { result := .ok, code := 56, notice := !q,
                           body := [byte c, bank.toByte] ++ be16 image.version
                             ++ be16 (max r.floor image.version) ++ outcomes } }
      ∧ PartExtended 10 ([2, byte c] ++ be16 image.version) s u
      ∧ outcomes.length = r.deferred.length ∧ (∀ o ∈ outcomes, o = 1 ∨ o = 2) ∧ u.running = none
      ∧ (∃ record, u.classes.get c = some record ∧ record.deferred = [] ∧ u.store.classes.get c = record)
      ∧ (∀ x, x ≠ c → u.classes.get x = s.classes.get x ∧ u.store.classes.get x = s.store.classes.get x)
      ∧ (∀ k, k = 0 ∨ 5 ≤ k.val → u.conditions.get k = s.conditions.get k)
      ∧ u = { s with
              queue := rest, running := none, stations := u.stations, keys := u.keys, revoked := u.revoked
              chains := u.chains, log := u.log, stream := u.stream, targets := u.targets, classes := u.classes
              conditions := u.conditions, attn := u.attn, timer := .stopped, hold := false
              store := { s.store with revocation := u.store.revocation, keys := u.store.keys,
                                      classes := u.store.classes } }
      ∧ ∀ a, r.deferred = [a] →
        (ActionApplies a image.signer s → outcomes = [1] ∧ ActionDone a s u)
          ∧ (¬ActionApplies a image.signer s → outcomes = [2] ∧ ActionSkipped s u) := by
  obtain ⟨hactive, hfloor, -, hdeferred, himage, -⟩ := ClassRecord.confirmed_fields hs hi
  rw [if_neg hne] at himage
  let begun : State := started (stationJob 2 q (.bootConfirm c)) rest (confirmSteps c r) .blank s
  let m : Marker := { kind := .confirm, cls := c, version := image.version }
  let noted : State := stopTrialTimer (recorded c r.confirmed begun)
  obtain ⟨y, hy, hfits, htells⟩ := finishAll_actions c r.deferred noted
  have hfinish := finishAll_confirm (s := begun) hs hi hr hy (Tbl.get_set_self _ _ _)
  have hexec := execAll_confirm h hr hs hhold hfinish rfl ⟨rfl, rfl⟩
  have hsigner : activeSigner c noted = some image.signer :=
    activeSigner_of (Tbl.get_set_self _ _ _) (by rw [hactive, himage])
  refine ⟨_, y.outcomes.map ActionOutcome.toByte, hexec, ?stations, partExtended_partExtend m _,
    (List.length_map _).trans hfits.length, outcomeBytes _, rfl, ⟨_, Tbl.get_set_self _ _ _, rfl, Tbl.get_set_self _ _ _⟩,
    ?others, ?conditions, ?frame, fun a ha => ?single⟩
  case stations =>
    refine congrArg (fun body => s.stations.set 2 { s.stations.get 2 with
      slot := some { result := .ok, code := 56, notice := !q, body } }) ?_
    refine (confirmReply_of (r := { r.confirmed with deferred := [] }) (image := image) (Tbl.get_set_self _ _ _) ?_ _).trans ?_
    · rw [show ({ r.confirmed with deferred := [] } : ClassRecord).active = bank from hactive]
      exact himage
    · rw [show ({ r.confirmed with deferred := [] } : ClassRecord).active = bank from hactive,
        show ({ r.confirmed with deferred := [] } : ClassRecord).floor = max r.floor image.version from hfloor]
      rfl
  case others =>
    intro x hx
    exact ⟨(Tbl.get_set_ne _ _ hx).trans (Tbl.get_set_ne _ _ hx), (Tbl.get_set_ne _ _ hx).trans (Tbl.get_set_ne _ _ hx)⟩
  case conditions =>
    intro k hk
    have hne : k ≠ 1 ∧ k ≠ 2 := by
      revert hk
      revert k
      decide
    exact (conditions_behind_change hne.1 hne.2).trans (hfits.conditions k (hk.imp_right .inr))
  case frame =>
    simp only [ended, placeReply, setStation, recomputeAttn, changed, ActionTrace.on, noted, stopTrialTimer, recorded, begun,
      started]
  case single =>
    obtain ⟨happlies, hskips⟩ := htells a ha image.signer hsigner
    refine ⟨fun hap => ?_, fun hap => ?_⟩
    · obtain ⟨hos, hdone⟩ := happlies hap
      exact ⟨by rw [hos]; rfl, ActionDone.later (t := y.on noted) hdone rfl rfl rfl rfl
        (conditions_behind_change (by decide) (by decide)) (conditions_behind_change (by decide) (by decide))
        fun i z hz => target_of_swept hz⟩
    · obtain ⟨hos, hskipped⟩ := hskips hap
      exact ⟨by rw [hos]; rfl, ActionSkipped.later (t := y.on noted) hskipped rfl rfl rfl rfl
        (conditions_behind_change (by decide) (by decide)) (conditions_behind_change (by decide) (by decide))⟩

/-! ### An action that start-up finishes (R97) -/

theorem upOf_smooth {x : State} (h : MayStartUp x) : upOf [] x = upFrom x := by
  have hcount : upCount x = x.store.partResets + 1 := if_pos h.2
  have hcreds : (upOf [] x).creds = (upFrom x).creds := by
    refine Tbl.ext_get fun id => (Tbl.get_ofFn _ _).trans (((if_neg List.not_mem_nil).trans ?_).trans (Tbl.get_ofFn _ _).symm)
    cases x.store.creds.get id <;> rfl
  have hconditions : (upOf [] x).conditions = (upFrom x).conditions :=
    Tbl.ext_get fun k => (Tbl.get_ofFn _ _).trans ((if_neg fun h => Bool.false_ne_true h.2).trans (Tbl.get_replicate _ _).symm)
  have hkept (slot : Slot) : keptOf (loadedList [] x) (x.store.keys.get slot) = keptKey slot x :=
    congrArg (fun kept => (x.store.keys.get slot).filter kept)
      (funext fun k => by simp only [loadedList, List.not_mem_nil, if_false, decide_not, List.contains_eq_mem])
  calc upOf [] x = { upFrom x with creds := (upOf [] x).creds, conditions := (upOf [] x).conditions } := by
        simp only [upOf, upFrom, List.not_mem_nil, if_false, hcount, hkept]
        rfl
    _ = upFrom x := by rw [hcreds, hconditions]

/-- Start-up with one class that has actions to finish: they are carried out on the counted state. -/
theorem exec_partReset_deferred {landed : Bool} {x u : State} {r : ClassRecord} (h : MayStartUp x)
    (hmark : x.store.resetMark = false) (hr : x.store.classes.get c = r) (hsteady : r.state = .steady)
    (hdeferred : r.deferred ≠ []) (hrest : ∀ other, other ≠ c → (x.store.classes.get other).AtRest)
    (hacts : finishAll (r.deferred.map fun a => .action c a) (countedUp [] x) = u)
    (hclasses : u.classes = (countedUp [] x).classes) :
    exec (.partReset { landed, bad := [], trouble := .none }) x
      = .next (upped false (recorded c { r with deferred := [] } u)) := by
  have hget (other : ClassNo) : (countedUp [] x).classes.get other = some (x.store.classes.get other) := by
    rw [countedUp_classes, loaded_classes, Tbl.get_ofFn, if_neg List.not_mem_nil]
  have hc : u.classes.get c = some r := by rw [hclasses, hget, hr]
  obtain ⟨m, hm⟩ := works_countedUp [] x
  have hsteps : deferredSteps c (countedUp [] x) = r.deferred.map (fun a => .action c a) ++ [.clearDeferred c] := by
    simp only [deferredSteps, hget, hr, hsteady, hdeferred, ne_eq, not_false_eq_true, and_self, if_true]
  have hfinish : finishAll (deferredSteps c (countedUp [] x)) (countedUp [] x) = recorded c { r with deferred := [] } u := by
    rw [hsteps, finishAll_append, hacts, finishAll_cons, finish_classWrite (c := c) (r := r) rfl hc]
    rfl
  obtain ⟨m', hm'⟩ := startUpSteps_none (deferredSteps c (countedUp [] x)) (countedUp [] x) m
  rw [hfinish] at hm'
  have hafter (other : ClassNo) (hne : other ≠ c) (record : ClassRecord)
      (hrec : (recorded c { r with deferred := [] } u).classes.get other = some record) : record.AtRest := by
    have hsame : some record = some (x.store.classes.get other) := by
      rw [← hrec, ← hget, ← hclasses]
      exact Tbl.get_set_ne _ _ hne
    exact Option.some.inj hsame ▸ hrest other hne
  have hdone : finishDeferred .none (smooth (countedUp [] x) m)
      = smooth (recorded c { r with deferred := [] } u) m' :=
    finishDeferred_one .none c (fun other hne record hrec => Option.some.inj ((hget other).symm.trans hrec) ▸ hrest other hne)
      hm' hafter
  have hnoTrial : accountTrial .none (smooth (recorded c { r with deferred := [] } u) m')
      = (smooth (recorded c { r with deferred := [] } u) m', false) := by
    refine accountTrial_nothing .none fun other record hrec => ?_
    by_cases hne : other = c
    · subst hne
      exact Option.some.inj ((Tbl.get_set_self _ _ _).symm.trans hrec) ▸ hsteady
    · exact (hafter other hne record hrec).1
  rw [exec_partReset_off h.1, mark_absent (.inl hmark), finishingWork, finishOwnerReset, if_neg Bool.false_ne_true, hm, hdone,
    hnoTrial]
  rfl

theorem action_in_startUp {landed : Bool} {a : Action} {x : State} {r : ClassRecord} {i : ImageRecord} (h : MayStartUp x)
    (hmark : x.store.resetMark = false) (hr : x.store.classes.get c = r) (hi : r.image r.active = some i)
    (hsteady : r.state = .steady) (hdeferred : r.deferred = [a])
    (hrest : ∀ other, other ≠ c → (x.store.classes.get other).AtRest) :
    ∃ t, exec (.partReset { landed, bad := [], trouble := .none }) x = .next t
      ∧ (ActionApplies a i.signer (upFrom x) → ActionDone a (upFrom x) t)
      ∧ (¬ActionApplies a i.signer (upFrom x) → ActionSkipped (upFrom x) t)
      ∧ t.classes.get c = some { r with deferred := [] } ∧ t.store.classes.get c = { r with deferred := [] }
      ∧ (∀ other, other ≠ c →
          t.classes.get other = some (x.store.classes.get other)
          ∧ t.store.classes.get other = x.store.classes.get other)
      ∧ (∀ k, k ≠ 3 → k ≠ 4 → t.conditions.get k = none)
      ∧ t = { upFrom x with
              keys := t.keys, revoked := t.revoked, classes := t.classes, conditions := t.conditions
              store := { (upFrom x).store with keys := t.store.keys, revocation := t.store.revocation,
                                               classes := t.store.classes } } := by
  have hup : upFrom x = upped false (countedUp [] x) := (upped_countedUp [] x ▸ upOf_smooth h).symm
  have hcounted : (countedUp [] x).classes = (upFrom x).classes := by rw [hup]; rfl
  have hstored : (countedUp [] x).store.classes = x.store.classes := (show _ = (upFrom x).store.classes by rw [hup]; rfl)
  have hclear (k : Fin 11) : (countedUp [] x).conditions.get k = none :=
    (show (countedUp [] x).conditions = (upFrom x).conditions by rw [hup]; rfl) ▸ Tbl.get_replicate _ _
  have hclosed : (countedUp [] x).stream = .closed := (show _ = (upFrom x).stream by rw [hup]; rfl)
  have htargets (j : TargetNo) : (countedUp [] x).targets.get j = none :=
    (show (countedUp [] x).targets = (upFrom x).targets by rw [hup]; rfl) ▸ Tbl.get_replicate _ _
  have hget (other : ClassNo) : (countedUp [] x).classes.get other = some (x.store.classes.get other) := by
    rw [hcounted]
    exact Tbl.get_ofFn _ _
  obtain ⟨y, hy, hfits, htells⟩ := finishAll_actions c [a] (countedUp [] x)
  obtain ⟨happlies, hskips⟩ := htells a rfl i.signer (activeSigner_of (hr ▸ hget c) hi)
  obtain ⟨hstream, hcond2⟩ := hfits.closed hclosed
  have htgt := hfits.noTargets htargets
  have hexec := exec_partReset_deferred (landed := landed) (u := y.on (countedUp [] x)) h hmark hr hsteady (by simp [hdeferred]) hrest
    ((congrArg (fun l => finishAll (l.map fun a => .action c a) (countedUp [] x)) hdeferred).trans hy) rfl
  refine ⟨_, hexec, ?applies, ?skips, Tbl.get_set_self _ _ _, Tbl.get_set_self _ _ _, ?others, ?conditions, ?frame⟩
  case applies =>
    rw [hup]
    intro hap
    exact ActionDone.later (t := y.on (countedUp [] x)) (happlies hap).2 rfl rfl rfl rfl rfl rfl fun _ _ hx => hx
  case skips =>
    rw [hup]
    intro hap
    exact ActionSkipped.later (t := y.on (countedUp [] x)) (hskips hap).2 rfl rfl rfl rfl rfl rfl
  case others =>
    intro other hne
    exact ⟨(Tbl.get_set_ne _ _ hne).trans (hget other), (Tbl.get_set_ne _ _ hne).trans (congrArg (Tbl.get · other) hstored)⟩
  case conditions =>
    intro k h3 h4
    show y.conditions.get k = none
    by_cases hk : k = 2
    · rw [hk, hcond2, hclear]
    · have huntouched : Untouched k := by
        revert h3 h4 hk
        revert k
        decide
      rw [hfits.conditions k huntouched, hclear]
  case frame =>
    have hrun : (countedUp [] x).running = none := (show _ = (upFrom x).running by rw [hup]; rfl)
    rw [hup]
    simp only [upped, reimposeLockouts, recorded, ActionTrace.on, hrun, hstream, htgt, hclosed, Option.map_none]

/-! ### One action, as a step and as store writes -/

/-- Behind the removal of a revoked slot's record, up to the job's next write. -/
theorem runFree_revokeSlot (steps : List JobStep) (slot : Slot) (s : State) :
    (runFree steps ((JobStep.revokeSlot slot).complete s)).store = { s.store with keys := s.store.keys.set slot none }
      ∧ (runFree steps ((JobStep.revokeSlot slot).complete s)).conditions.get 3 = some s.time.uptime := by
  obtain ⟨hstore, hcond⟩ := runFree_keeps steps ((JobStep.revokeSlot slot).complete s)
  rw [complete_revokeSlot] at hstore hcond ⊢
  refine ⟨hstore, hcond 3 ?_⟩
  refine (sweptConditions_get _ _ _).trans ((if_neg fun h => absurd h.1 (by decide)).trans ?_)
  exact Tbl.get_set_self _ _ _

/-- The two store writes of a REVOKE that applies: the list first, then the removal of the slot's record. -/
theorem revoke_writes {n : Nat} {k : KeyRecord} {x : Running} {todo : List JobStep}
    (h : actionTarget c (.revoke n) s = some slot) (hk : s.keys.get slot = .active k) (hp : s.power = .on)
    (hrun : s.running = some x) (htodo : x.todo = .action c (.revoke n) :: todo) :
    ∃ t u, exec .storeWriteComplete s = .next t
      ∧ t = { s with
              store := { s.store with revocation := s.revoked ++ [k.fingerprint] }
              revoked := s.revoked ++ [k.fingerprint], keys := s.keys.set slot .empty, attn := t.attn
              running := some { x with todo := .revokeSlot slot :: todo, outcomes := x.outcomes ++ [.applied] } }
      ∧ exec .storeWriteComplete t = .next u
      ∧ u.store = { t.store with keys := s.store.keys.set slot none }
      ∧ u.conditions.get 3 = some s.time.uptime := by
  have hw : (JobStep.action c (.revoke n)).writes s = true := by simp [JobStep.writes, h]
  have hf : (JobStep.action c (.revoke n)).follow s = [.revokeSlot slot] := by simp [JobStep.follow, h]
  have hlist := exec_storeWriteComplete hp hrun htodo hw
  rw [hf, complete_revoke h hk, List.singleton_append, runFree_write rfl] at hlist
  refine ⟨_, _, hlist, ?_, exec_storeWriteComplete (step := .revokeSlot slot) (rest := todo)
    (run := { x with todo := .revokeSlot slot :: todo, outcomes := x.outcomes ++ [.applied] }) hp
    (by simp only [recomputeAttn, setTodo, noteOutcome, hrun, Option.map_some]) rfl rfl, (runFree_revokeSlot _ slot _).1, (runFree_revokeSlot _ slot _).2⟩
  simp only [recomputeAttn, setTodo, noteOutcome, hrun, Option.map_some]

theorem finish_skipped_keeps {a : Action} (h : actionTarget c a s = none) :
    ((JobStep.action c a).finish s).keys = s.keys ∧ ((JobStep.action c a).finish s).revoked = s.revoked
      ∧ ((JobStep.action c a).finish s).store = s.store
      ∧ ((JobStep.action c a).finish s).conditions.get 4 = some s.time.uptime := by
  rw [finish_skipped h]
  exact ⟨rfl, rfl, rfl, Tbl.get_set_self _ _ _⟩

/-- An action that no slot meets is not for any slot. -/
theorem actionTarget_none {n : Nat} {a : Action}
    (h : ∀ y : Slot, actionTarget c a s = some y → y.val = n) (hslot : slot.val = n) (hne : actionTarget c a s ≠ some slot) :
    actionTarget c a s = none := by
  cases ht : actionTarget c a s with
  | none => rfl
  | some y => exact absurd (ht.trans (congrArg some (Fin.ext ((h y ht).trans hslot.symm)))) hne

/-- Settles O37: the two actions as steps, by the slot that each is for; lists of actions in an activation and a confirm;
and one that start-up finishes. -/
theorem deferredActionsApplyOrSkip : Obligations.DeferredActionsApplyOrSkip := by
  intro c slot key r i s hr hi survives revoke install fp held vendor
  have hsigner : activeSigner c s = some i.signer := activeSigner_of hr hi
  have hfree : (∀ (x : Slot) (j : KeyRecord), s.keys.get x = .active j → j.fingerprint ≠ fp) ↔ ¬held :=
    ⟨fun h ⟨x, j, hj, hfp⟩ => h x j hj hfp, fun h x j hj hfp => h ⟨x, j, hj, hfp⟩⟩
  refine ⟨fun k hv hk hne hroom hsurv => ?revoke, fun hno => ?revokeSkipped, fun hv he hrev hheld => ?install,
    fun hno => ?installSkipped, fun q index t k rest h ht hperm hc hsteady hfloor hkey => ?activation,
    fun q bank n image rest h hs hhold himage hne =>
      actions_in_confirm q bank n image r rest s h hr hs hhold himage hne,
    fun landed a x h hmark hrec hsteady hdeferred hrest =>
      action_in_startUp h hmark hrec hi hsteady hdeferred hrest⟩
  case revoke =>
    have ht : actionTarget c (.revoke slot) s = some slot :=
      actionTarget_revoke_iff.2 ⟨rfl, hv, ⟨k, hk⟩, by simpa [hsigner] using hne, hroom, hsurv⟩
    rw [finish_revoke ht hk]
    refine ⟨rfl, rfl, rfl, rfl, ?_, fun j => ?_, rfl, ?_, fun x todo hp hrun htodo => revoke_writes ht hk hp hrun htodo⟩
    · refine (sweptConditions_get _ _ _).trans ((if_neg fun h => absurd h.1 (by decide)).trans ?_)
      exact Tbl.get_set_self _ _ _
    · refine (Tbl.get_map _ _ _).trans (congrArg (fun kept => (s.targets.get j).filter kept) (funext fun x => ?_))
      by_cases hx : x.signer = slot <;> simp [hx]
    · refine (sweptConditions_get _ _ _).trans (ite_congr (propext ⟨fun h => h.2, fun h => ⟨rfl, h⟩⟩) (fun _ => rfl) fun _ => ?_)
      exact Tbl.get_set_ne _ _ (by decide)
  case revokeSkipped =>
    refine finish_skipped_keeps (actionTarget_none (fun y hy => (actionTarget_revoke_iff.1 hy).1) rfl fun ht => ?_)
    obtain ⟨-, hv, ⟨k, hk⟩, hne, hroom, hsurv⟩ := actionTarget_revoke_iff.1 ht
    rcases hno with h | h | h | h | h
    · exact absurd hv (Nat.not_lt.2 h)
    · exact h k hk
    · exact hne (h ▸ hsigner)
    · exact absurd hroom (Nat.not_lt.2 h)
    · exact h hsurv
  case install =>
    have ht : actionTarget c (.install slot key) s = some slot :=
      actionTarget_install_iff.2 ⟨rfl, hv, he, hrev, hfree.2 hheld⟩
    rw [finish_install ht]
    exact ⟨rfl, rfl, rfl⟩
  case installSkipped =>
    refine finish_skipped_keeps (actionTarget_none (fun y hy => (actionTarget_install_iff.1 hy).1) rfl fun ht => ?_)
    obtain ⟨-, hv, he, hrev, hnone⟩ := actionTarget_install_iff.1 ht
    rcases hno with h | h | h | h
    · exact absurd hv (Nat.not_lt.2 h)
    · exact h he
    · exact hrev h
    · exact hfree.1 hnone h
  case activation =>
    subst hc
    exact actions_in_activation q index t k r rest s h ht hperm hr hsteady hfloor hkey

end Sys2Proof.Machine
end

section
/-! PROOFS. The trial accounting, as a job and in start-up (O38). -/

namespace Sys2Proof.Machine

open Sys2Proof

variable {s t u x : State} {c : ClassNo} {r : ClassRecord} {bank : Bank} {image : ImageRecord} {state : ClassState}
  {raise : Bool}

/-! ### The class that is accounted -/

theorem trialClass_some (hr : s.classes.get c = some r) (hs : r.state ≠ .steady)
    (hrest : ∀ x y, x ≠ c → s.classes.get x = some y → y.state = .steady) : trialClass s = some (c, r) := by
  obtain ⟨before, after, hsplit⟩ := List.append_of_mem (List.mem_finRange c)
  have hnodup := List.nodup_finRange 4
  rw [hsplit, List.nodup_append] at hnodup
  rw [trialClass, List.findSome?_eq_some_iff]
  refine ⟨before, c, after, hsplit, by simp [hr, hs], fun x hx => ?_⟩
  have hne : x ≠ c := hnodup.2.2 x hx c List.mem_cons_self
  cases hx : s.classes.get x with
  | none => rfl
  | some y => simp [hrest x y hne hx]

/-- An accounting that counts a boot: from TRIAL_PENDING, or of a failed attempt, which is raised (R103). -/
def ClassState.Counts (old new : ClassState) (raise : Bool) : Prop :=
  (∃ bank n, old = .pending bank n ∧ new = .booting bank 2 ∧ raise = false)
    ∨ ∃ bank n, old = .booting bank (n + 1) ∧ new = .booting bank n ∧ raise = true

theorem ClassState.Counts.account (h : r.state.Counts state raise) (c : ClassNo) :
    r.counted = { r with state } ∧ accountSteps c r = ([.account c], true) ∧ r.state.attemptFailed = raise := by
  obtain ⟨bank, n, hold, rfl, rfl⟩ | ⟨bank, n, hold, rfl, rfl⟩ := h <;>
    simp [ClassRecord.counted, accountSteps, ClassState.attemptFailed, hold]

theorem ClassState.Counts.trial (h : r.state.Counts state raise) : r.state ≠ .steady := by
  obtain ⟨bank, n, hold, -⟩ | ⟨bank, n, hold, -⟩ := h <;> simp [hold]

theorem land_of_classWrite {x : JobStep} {f : ClassRecord → ClassRecord} (h : x.classWrite? = some (c, f))
    (hr : s.classes.get c = some r) : x.land s = { s.store with classes := s.store.classes.set c (f r) } := by
  cases x with
  | activate t | activateTrial t | confirm c' | clearDeferred c' | account c' | revert c' =>
    obtain ⟨rfl, rfl⟩ := Prod.mk.inj (Option.some.inj h)
    simp [JobStep.land, landClass, hr]
  | _ => cases h

/-! ### The revert (R104) -/

/-- The steps of a revert. -/
abbrev revertSteps (c : ClassNo) (image : ImageRecord) : List JobStep :=
  [.revert c, .marker { kind := .revert, cls := c, version := image.version }, .raise .trialReverted]

/-- What a revert leaves: the record, the marker's extension and TRIAL_REVERTED. -/
def revertedOn (c : ClassNo) (r : ClassRecord) (image : ImageRecord) (s : State) : State :=
  let m : Marker := { kind := .revert, cls := c, version := image.version }
  { s with
    classes := s.classes.set c (some r.reverted)
    store := { s.store with classes := s.store.classes.set c r.reverted }
    chains := (partExtend m s).chains
    log := (partExtend m s).log
    conditions := (extendedConditions s).set 6 (some s.time.uptime) }

theorem finishAll_revert (hr : s.classes.get c = some r) :
    finishAll (revertSteps c image) s = revertedOn c r image s := by
  rw [finishAll_cons, finish_classWrite (c := c) (r := r) rfl hr, finishAll_cons, finish_marker, finishAll_cons,
    finish_free rfl rfl]
  rfl

theorem accountSteps_revert (hs : r.state = .booting bank 0) (hi : r.image bank = some image) (c : ClassNo) :
    accountSteps c r = (revertSteps c image, false) ∧ r.state.attemptFailed = false := by
  have hbank : r.trialBank = some bank := by simp [ClassRecord.trialBank, hs]
  have hversion : r.trialVersion = image.version := by simp [ClassRecord.trialVersion, hbank, hi]
  simp [accountSteps, hs, hversion, ClassState.attemptFailed]

theorem ClassRecord.reverted_record (hs : r.state = .booting bank 0) :
    r.reverted.state = .steady ∧ r.reverted.deferred = [] ∧ r.reverted.active = r.active
      ∧ r.reverted.floor = r.floor := by
  have hbank : r.trialBank = some bank := by simp [ClassRecord.trialBank, hs]
  have hrecord : r.reverted = { r.setImage bank ((r.image bank).map fun i => { i with stale := true }) with
      state := .steady, deferred := [] } := by simp only [ClassRecord.reverted, hbank]
  rw [hrecord]
  cases bank <;> exact ⟨rfl, rfl, rfl, rfl⟩

theorem ClassRecord.reverted_images (hs : r.state = .booting bank 0) (hi : r.image bank = some image) :
    r.reverted.image bank = some { image with stale := true }
      ∧ ∀ other : Bank, other ≠ bank → r.reverted.image other = r.image other := by
  have hbank : r.trialBank = some bank := by simp [ClassRecord.trialBank, hs]
  have himage : r.reverted.image
      = (r.setImage bank ((r.image bank).map fun i => { i with stale := true })).image := by
    funext other
    simp only [ClassRecord.reverted, hbank]
    cases other <;> rfl
  simp only [himage, ClassRecord.image_setImage]
  exact ⟨by simp [hi], fun other hne => by simp [hne]⟩

/-- A revert has taken `x` to `u` (R104). -/
def Reverts (c : ClassNo) (r : ClassRecord) (bank : Bank) (image : ImageRecord) (x u : State) : Prop :=
  ∃ record : ClassRecord,
    record.state = .steady ∧ record.deferred = [] ∧ record.active = r.active ∧ record.floor = r.floor
      ∧ record.image bank = some { image with stale := true }
      ∧ (∀ other : Bank, other ≠ bank → record.image other = r.image other)
      ∧ PartExtended 10 ([3, byte c] ++ be16 image.version) x u
      ∧ (∀ k, u.conditions.get k =
          if k = 6 ∨ k = 1 ∧ 128 ≤ x.log.length then some x.time.uptime else x.conditions.get k)
      ∧ u = { x with
              classes := x.classes.set c (some record), chains := u.chains, log := u.log
              conditions := u.conditions, attn := u.attn
              store := { x.store with classes := x.store.classes.set c record } }

theorem reverts_revertedOn (hs : r.state = .booting bank 0) (hi : r.image bank = some image) (x : State) (attn : Bool) :
    Reverts c r bank image x { revertedOn c r image x with attn } := by
  obtain ⟨hstate, hdeferred, hactive, hfloor⟩ := ClassRecord.reverted_record hs
  obtain ⟨himage, hother⟩ := ClassRecord.reverted_images hs hi
  refine ⟨r.reverted, hstate, hdeferred, hactive, hfloor, himage, hother,
    partExtended_partExtend { kind := .revert, cls := c, version := image.version } x, fun k => ?_, ?_⟩
  · show ((extendedConditions x).set 6 (some x.time.uptime)).get k = _
    rw [Tbl.get_set, extendedConditions_get]
    by_cases h6 : k = 6
    · rw [if_pos h6, if_pos (.inl h6)]
    · rw [if_neg h6]
      exact ite_congr (propext ⟨.inr, fun h => h.resolve_left h6⟩) (fun _ => rfl) fun _ => rfl
  · simp only [revertedOn]

/-! ### The job (R103) -/

/-- A running accounting job, crossed by a SoC reset or not. -/
abbrev accounting (todo : List JobStep) (d : JobData) (crossed : Bool) : Running :=
  { fresh .trialAccount todo d [] with crossed }

/-- What the end of an accounting that counts a boot leaves, its record apart. -/
def accounted (failed crossed : Bool) (x : State) : State :=
  { x with
    running := none
    conditions := if failed then x.conditions.set 5 (some x.time.uptime) else x.conditions
    timer := if crossed then x.timer
      else .running (x.time.uptime + BitVec.ofNat 32 x.settings.trialWindow) false
    hold := if crossed then x.hold else false }

section End

variable {todo : List JobStep} {d : JobData} {failed crossed : Bool} (hp : x.power = .on)
include hp

theorem exec_trialAccountJobEnd (hrun : x.running = some (accounting todo d crossed)) (hafter : finishAll todo x = u)
    (hkept : u.running = x.running) :
    exec .trialAccountJobEnd x
      = .next (recomputeAttn (endTrialAccount (accounting [] d crossed) (setTodo [] u))) := by
  refine exec_jobEnd_of hp hrun rfl ((finishSteps_eq hrun).trans (congrArg (setTodo []) hafter)) ?_ rfl rfl
  rw [setTodo, hkept, hrun]
  rfl

theorem accountingEnd_blank (hrun : x.running = some (accounting todo .blank crossed)) (hafter : finishAll todo x = u)
    (hkept : u.running = x.running) :
    exec .trialAccountJobEnd x = .next (recomputeAttn { u with running := none }) := by
  rw [exec_trialAccountJobEnd hp hrun hafter hkept]
  have hdone : (setTodo [] u).running = some (accounting [] .blank crossed) := by rw [setTodo, hkept, hrun]; rfl
  have hnone : (accounting [] .blank crossed).holder = none := by cases crossed <;> rfl
  have hend : endTrialAccount (accounting [] .blank crossed) (setTodo [] u) = { u with running := none } :=
    (endJob_none hdone hnone).trans rfl
  rw [hend]

theorem accountingEnd_counted (hrun : x.running = some (accounting todo (.accounted c failed) crossed))
    (hafter : finishAll todo x = u) (hkept : u.running = x.running) :
    exec .trialAccountJobEnd x = .next (recomputeAttn (accounted failed crossed u)) := by
  rw [exec_trialAccountJobEnd hp hrun hafter hkept]
  have hdone : (setTodo [] u).running = some (accounting [] (.accounted c failed) crossed) := by
    rw [setTodo, hkept, hrun]
    rfl
  have hend : endTrialAccount (accounting [] (.accounted c failed) crossed) (setTodo [] u) = accounted failed crossed u := by
    cases crossed
    · exact (endJob_none (s := raiseIf failed .trialAttemptFailed (startTrialTimer (setTodo [] u))) hdone rfl).trans rfl
    · exact (endJob_none (s := raiseIf failed .trialAttemptFailed (setTodo [] u)) hdone rfl).trans rfl
  rw [hend]

end End

section Start

variable {rest : List Job} (h : MayStart .trialAccount rest s)
include h

theorem exec_trialAccountJobStart {steps : List JobStep} {d : JobData}
    (hstart : startTrialAccount (takeJob s) = launch d steps (takeJob s))
    (hw : steps = [] ∨ ∃ y more, steps = y :: more ∧ y.writes (setData d (takeJob s)) = true) :
    exec .trialAccountJobStart s = .next (started .trialAccount rest steps d s) := by
  have hexec : exec .trialAccountJobStart s = .next (recomputeAttn (startTrialAccount (takeJob s))) :=
    (whenOn_on h.1).trans (by rw [if_pos (nextJob_of h)])
  have hwait : runFree steps (setData d (takeJob s)) = setTodo steps (setData d (takeJob s)) := by
    obtain rfl | ⟨y, more, rfl, hy⟩ := hw
    · rfl
    · exact runFree_write hy
  rw [hexec, hstart, launch, hwait, takeJob_of h]
  rfl

theorem accountingStart_steady (hsteady : ∀ x y, s.classes.get x = some y → y.state = .steady) :
    exec .trialAccountJobStart s = .next (started .trialAccount rest [] .blank s) := by
  refine exec_trialAccountJobStart h ?_ (.inl rfl)
  have hnone : trialClass (takeJob s) = none := trialClass_none (by rw [takeJob_of h]; exact hsteady)
  simp only [startTrialAccount, hnone]

variable (hr : s.classes.get c = some r) (hrest : ∀ x y, x ≠ c → s.classes.get x = some y → y.state = .steady)
include hr hrest

theorem accountingStart_counted (hcounts : r.state.Counts state raise) :
    exec .trialAccountJobStart s = .next (started .trialAccount rest [.account c] (.accounted c raise) s) := by
  obtain ⟨-, hsteps, hraise⟩ := hcounts.account c
  have hclass : trialClass (takeJob s) = some (c, r) := by
    rw [takeJob_of h]
    exact trialClass_some hr hcounts.trial hrest
  refine exec_trialAccountJobStart h ?_ (.inr ⟨_, _, rfl, writes_of_classWrite (r := r) rfl ?_⟩)
  · simp only [startTrialAccount, hclass, hsteps, hraise, if_true]
  · rw [takeJob_of h]
    exact hr

theorem accountingStart_revert (hs : r.state = .booting bank 0) (hi : r.image bank = some image) :
    exec .trialAccountJobStart s = .next (started .trialAccount rest (revertSteps c image) .blank s) := by
  obtain ⟨hsteps, -⟩ := accountSteps_revert hs hi c
  have hclass : trialClass (takeJob s) = some (c, r) := by
    rw [takeJob_of h]
    exact trialClass_some hr (by simp [hs]) hrest
  refine exec_trialAccountJobStart h ?_ (.inr ⟨_, _, rfl, writes_of_classWrite (r := r) rfl ?_⟩)
  · simp only [startTrialAccount, hclass, hsteps, Bool.false_eq_true, if_false]
  · rw [takeJob_of h]
    exact hr

/-- The job of an accounting that counts a boot: its start, its end, and its one store write. -/
theorem accounting_counts (hcounts : r.state.Counts state raise) :
    exec .trialAccountJobStart s = .next (started .trialAccount rest [.account c] (.accounted c raise) s)
    ∧ execAll [.trialAccountJobStart, .trialAccountJobEnd] s = .next (recomputeAttn
      { s with
        queue := rest
        classes := s.classes.set c (some { r with state })
        store := { s.store with classes := s.store.classes.set c { r with state } }
        conditions := if raise then s.conditions.set 5 (some s.time.uptime) else s.conditions
        timer := .running (s.time.uptime + BitVec.ofNat 32 s.settings.trialWindow) false
        hold := false })
    ∧ execAll [.trialAccountJobStart, .storeWriteComplete] s = .next (recomputeAttn
      { s with
        queue := rest
        classes := s.classes.set c (some { r with state })
        store := { s.store with classes := s.store.classes.set c { r with state } }
        running := some (fresh .trialAccount [] (.accounted c raise) []) }) := by
  have hstart := accountingStart_counted h hr hrest hcounts
  obtain ⟨hcounted, -⟩ := hcounts.account c
  let begun : State := started .trialAccount rest [.account c] (.accounted c raise) s
  have hclass : begun.classes.get c = some r := hr
  have hfinish : (JobStep.account c).finish begun = recorded c { r with state } begun := by
    rw [finish_classWrite (c := c) (r := r) rfl hclass, hcounted]
    rfl
  have hfree : s.running = none := h.2.2.1
  refine ⟨hstart, ?_, ?_⟩
  · have hend := accountingEnd_counted (x := begun) (failed := raise) (crossed := false) h.1 rfl hfinish rfl
    simp only [execAll, hstart]
    rw [hend]
    cases s
    cases hfree
    rfl
  · have hwrite := exec_storeWriteComplete (s := begun) (step := .account c) (rest := []) h.1 rfl rfl
      (writes_of_classWrite rfl hclass)
    have hcomplete : (JobStep.account c).complete begun = recorded c { r with state } begun := hfinish
    simp only [execAll, hstart]
    rw [hwrite, hcomplete]
    rfl

end Start

/-! ### Start-up's accounting (R105) -/

section StartUp

variable {landed : Bool} (h : MayStartUp x) (hmark : x.store.resetMark = false) (hr : x.store.classes.get c = r)
  (htrial : r.state ≠ .steady) (hrest : ∀ other, other ≠ c → (x.store.classes.get other).AtRest)

theorem upFrom_eq (h : MayStartUp x) : upFrom x = upped false (countedUp [] x) := (upped_countedUp [] x ▸ upOf_smooth h).symm

theorem countedUp_class (x : State) (other : ClassNo) :
    (countedUp [] x).classes.get other = some (x.store.classes.get other) := by
  rw [countedUp_classes, loaded_classes, Tbl.get_ofFn, if_neg List.not_mem_nil]

/-- With no revoked key the count is the first write of start-up; a later one may fail. -/
theorem countTheStart_later (new : Bool) (hlt : x.store.partResets < 4294967295) (hnone : NoneRevoked [] x) :
    countTheStart true (.writeFails 1 new) (finishRevocations (.writeFails 1 new) (smooth (loaded [] x) 0))
      = smooth (countedUp [] x) 1 := by
  obtain ⟨n, hn⟩ := finishRevocations_none (loaded [] x) 0
  rw [finishRevocations_loaded .none 0 hnone] at hn
  have hkeys : (Tbl.ofFn fun slot => if slot ∈ revokedSlots (loaded [] x) then none else x.store.keys.get slot)
      = x.store.keys := (congrArg (fun b => b.state.store.keys) hn).symm
  have hcount : (withoutRevoked (loaded [] x)).partResets < 4294967295 :=
    (loaded_numbers [] x).1.trans (if_neg List.not_mem_nil) ▸ hlt
  have hcounted : countedUp [] x = { withoutRevoked (loaded [] x) with
      partResets := (withoutRevoked (loaded [] x)).partResets + 1
      store := { x.store with partResets := (withoutRevoked (loaded [] x)).partResets + 1 } } := by
    rw [countedUp, if_pos (loaded_counts.2 ⟨List.not_mem_nil, hlt⟩), hkeys]
  rw [finishRevocations_loaded _ 0 hnone, countTheStart, if_pos (Bool.and_eq_true _ _ ▸ ⟨rfl, decide_eq_true hcount⟩),
    startUpSteps_cons _ _ _ _ rfl, startUpSteps_nil, hcounted]
  rfl

include hr htrial hrest in
theorem countedUp_trial : trialClass (countedUp [] x) = some (c, r) :=
  trialClass_some (by rw [countedUp_class, hr]) htrial fun other record hne hrec =>
    Option.some.inj ((countedUp_class x other).symm.trans hrec) ▸ (hrest other hne).1

include hr htrial hrest in
/-- With a class on trial and the others at rest, no deferred action is to finish. -/
theorem finishDeferred_trial (trouble : StartUpTrouble) (n : Nat) :
    finishDeferred trouble (smooth (countedUp [] x) n) = smooth (countedUp [] x) n := by
  have hothers (other : ClassNo) (hne : other ≠ c) (record : ClassRecord)
      (hrec : (countedUp [] x).classes.get other = some record) : record.AtRest :=
    Option.some.inj ((countedUp_class x other).symm.trans hrec) ▸ hrest other hne
  refine finishDeferred_one trouble c hothers ?_ hothers
  have hnone : deferredSteps c (countedUp [] x) = [] := by
    simp [deferredSteps, countedUp_class, hr, htrial]
  rw [show deferredSteps c (smooth (countedUp [] x) n).state = [] from hnone, startUpSteps_nil]

include h hmark hr htrial hrest

theorem exec_partReset_accounted {steps : List JobStep} {due : Bool} (hsteps : accountSteps c r = (steps, due)) :
    exec (.partReset { landed, bad := [], trouble := .none }) x
      = .next (upped due (finishAll (steps ++ if r.state.attemptFailed then [.raise .trialAttemptFailed] else [])
          (countedUp [] x))) := by
  obtain ⟨m, hm⟩ := works_countedUp [] x
  obtain ⟨m', hm'⟩ := startUpSteps_none (steps ++ if r.state.attemptFailed then [.raise .trialAttemptFailed] else [])
    (countedUp [] x) m
  have haccount : accountTrial .none (smooth (countedUp [] x) m)
      = (smooth (finishAll (steps ++ if r.state.attemptFailed then [.raise .trialAttemptFailed] else [])
          (countedUp [] x)) m', due) := by
    simp only [accountTrial, countedUp_trial hr htrial hrest, hsteps, hm', Bool.not_false, Bool.and_true]
  rw [exec_partReset_off h.1, mark_absent (.inl hmark), finishingWork, finishOwnerReset, if_neg Bool.false_ne_true, hm,
    finishDeferred_trial hr htrial hrest, haccount]
  rfl

theorem exec_partReset_counted (hcounts : r.state.Counts state raise) :
    exec (.partReset { landed, bad := [], trouble := .none }) x = .next { upFrom x with
      power := .startUp true
      classes := (upFrom x).classes.set c (some { r with state })
      store := { (upFrom x).store with classes := x.store.classes.set c { r with state } }
      conditions := if raise then (upFrom x).conditions.set 5 (some 0) else (upFrom x).conditions } := by
  obtain ⟨hcounted, hsteps, hraise⟩ := hcounts.account c
  have hclass : (countedUp [] x).classes.get c = some r := by rw [countedUp_class, hr]
  have hstored : (countedUp [] x).store.classes = x.store.classes := (show _ = (upFrom x).store.classes by rw [upFrom_eq h]; rfl)
  have htime : (countedUp [] x).time = (upFrom x).time := by rw [upFrom_eq h]; rfl
  rw [exec_partReset_accounted h hmark hr htrial hrest hsteps, List.singleton_append, finishAll_cons,
    finish_classWrite (c := c) (r := r) rfl hclass, hcounted, hstored, hraise]
  cases raise with
  | false =>
    rw [upFrom_eq h]
    rfl
  | true =>
    have hzero : (countedUp [] x).time.uptime = 0 := by rw [htime]; rfl
    rw [if_pos rfl, finishAll_cons, finish_free rfl rfl, upFrom_eq h, ← hzero]
    rfl

theorem exec_partReset_reverted (hs : r.state = .booting bank 0) (hi : r.image bank = some image) :
    exec (.partReset { landed, bad := [], trouble := .none }) x = .next (revertedOn c r image (upFrom x)) := by
  obtain ⟨hsteps, hraise⟩ := accountSteps_revert hs hi c
  have hclass : (countedUp [] x).classes.get c = some r := by rw [countedUp_class, hr]
  rw [exec_partReset_accounted h hmark hr htrial hrest hsteps, hraise, if_neg Bool.false_ne_true, List.append_nil,
    finishAll_revert hclass, upFrom_eq h]
  rfl

/-- The write of the accounting fails, behind that of the count (R204). -/
theorem exec_partReset_accountFails {y : JobStep} {more : List JobStep} {due new : Bool} {f : ClassRecord → ClassRecord}
    (hnone : NoneRevoked [] x) (hsteps : accountSteps c r = (y :: more, due)) (hy : y.classWrite? = some (c, f))
    (hfail : ∀ s, y.fail new s = { s with store := if new then y.land s else s.store }) (hfollow : ∀ s, y.follow s = []) :
    exec (.partReset { landed, bad := [], trouble := .writeFails 1 new }) x
      = .next { upFrom x with
          store := { (upFrom x).store with classes := x.store.classes.set c (if new then f r else r) }
          conditions := (upFrom x).conditions.set 9 (some 0) } := by
  have hclass : (countedUp [] x).classes.get c = some r := by rw [countedUp_class, hr]
  have hstored : (countedUp [] x).store.classes = x.store.classes := (show _ = (upFrom x).store.classes by rw [upFrom_eq h]; rfl)
  have hzero : (countedUp [] x).time.uptime = 0 := (show _ = (upFrom x).time.uptime by rw [upFrom_eq h]; rfl)
  have hstore : y.fail new (countedUp [] x) = { countedUp [] x with
      store := { (countedUp [] x).store with classes := x.store.classes.set c (if new then f r else r) } } := by
    rw [hfail, land_of_classWrite hy hclass, hstored]
    cases new
    · have hsame : x.store.classes.set c r = (countedUp [] x).store.classes := by rw [← hr, Tbl.set_get_self, hstored]
      simp only [Bool.false_eq_true, if_false, hsame]
    · rfl
  let raises : List JobStep := if r.state.attemptFailed then [.raise .trialAttemptFailed] else []
  let failed : StartingUp :=
    { state := raiseCond .nvWriteFailed (y.fail new (countedUp [] x)), writes := 1, stopped := true, dead := false }
  have hstop : startUpSteps (.writeFails 1 new) ((y :: more) ++ raises) (smooth (countedUp [] x) 1) = failed := by
    have hstep : startUpStep (.writeFails 1 new) (smooth (countedUp [] x) 1) y = failed := by
      simp [startUpStep, writes_of_classWrite hy hclass, failed]
    rw [List.cons_append, startUpSteps_cons _ _ _ _ (hfollow _), hstep]
    exact startUpSteps_stopped _ _ (.inl rfl)
  have haccount : accountTrial (.writeFails 1 new) (smooth (countedUp [] x) 1) = (failed, false) := by
    simp only [accountTrial, countedUp_trial hr htrial hrest, hsteps]
    rw [hstop]
    simp [failed]
  rw [exec_partReset_off h.1, mark_absent (.inl hmark), finishingWork, finishOwnerReset, if_neg Bool.false_ne_true,
    show (!([] : List RecordId).contains .partResetCount) = true from rfl, countTheStart_later new h.2 hnone,
    finishDeferred_trial hr htrial hrest, haccount]
  refine congrArg Host.Outcome.next ?_
  show upped false (raiseCond .nvWriteFailed (y.fail new (countedUp [] x))) = _
  rw [hstore, upFrom_eq h, ← hzero]
  rfl

end StartUp

/-- Settles O38: the job by the state of the class, the ends of a crossed one, and start-up's accounting with its
failures. -/
theorem trialAccountingCountsBoots : Obligations.TrialAccountingCountsBoots := by
  intro c r reverted revert
  have hpending {bank : Bank} {n : Nat} (hs : r.state = .pending bank n) : r.state.Counts (.booting bank 2) false :=
    .inl ⟨bank, n, hs, rfl, rfl⟩
  have hbooting {bank : Bank} {n : Nat} (hs : r.state = .booting bank (n + 1)) : r.state.Counts (.booting bank n) true :=
    .inr ⟨bank, n, hs, rfl, rfl⟩
  refine ⟨fun rest s h => ⟨fun hsteady => ?steady, fun hr hrest => ⟨fun bank n hs => ?startPending,
      fun bank n hs => ?startBooting, fun bank image hs hi => ?startRevert⟩⟩,
    fun failed crossed x hp => ⟨fun hrun => ?endBlank, fun hrun => ?endWritten, fun hr => ⟨fun hrun => ?endCounted,
      fun bank image hs hi hrun => ?endRevert⟩⟩,
    fun landed x h hmark hr htrial hrest => ⟨fun bank n hs => ?upPending, fun bank n hs => ?upBooting,
      fun bank image hs hi => ?upRevert, fun hnone new => ?upFails⟩⟩
  case steady =>
    have hstart := accountingStart_steady h hsteady
    refine ⟨hstart, ?_⟩
    have hend := accountingEnd_blank (x := started .trialAccount rest [] .blank s) (todo := []) (crossed := false) h.1 rfl
      rfl rfl
    have hfree : s.running = none := h.2.2.1
    simp only [execAll, hstart]
    rw [hend]
    cases s
    cases hfree
    rfl
  case startPending => exact accounting_counts h hr hrest (hpending hs)
  case startBooting => exact accounting_counts h hr hrest (hbooting hs)
  case startRevert =>
    have hstart := accountingStart_revert h hr hrest hs hi
    let begun : State := started .trialAccount rest (revertSteps c image) .blank s
    have hend := accountingEnd_blank (x := begun) (crossed := false) h.1 rfl
      (finishAll_revert (c := c) (r := r) (image := image) hr) rfl
    have hfree : s.running = none := h.2.2.1
    refine ⟨hstart, recomputeAttn { revertedOn c r image begun with running := none }, ?_, ?_⟩
    · simp only [execAll, hstart]
      rw [hend]
    · have hsame : recomputeAttn { revertedOn c r image begun with running := none }
          = { revertedOn c r image { s with queue := rest } with
              attn := (recomputeAttn { revertedOn c r image begun with running := none }).attn } := by
        cases s
        cases hfree
        rfl
      exact hsame ▸ reverts_revertedOn hs hi { s with queue := rest } _
  case endBlank => exact accountingEnd_blank hp hrun rfl rfl
  case endWritten => exact accountingEnd_counted hp hrun rfl rfl
  case endCounted =>
    have hends {state : ClassState} {raise : Bool} (hcounts : r.state.Counts state raise) :
        finishAll [.account c] x = recorded c { r with state } x := by
      rw [finishAll_cons, finish_classWrite (c := c) (r := r) rfl hr, (hcounts.account c).1]
      rfl
    exact ⟨fun bank n hs => accountingEnd_counted hp hrun (hends (hpending hs)) rfl,
      fun bank n hs => accountingEnd_counted hp hrun (hends (hbooting hs)) rfl⟩
  case endRevert =>
    refine ⟨_, accountingEnd_blank hp hrun (finishAll_revert hr) rfl, ?_⟩
    exact reverts_revertedOn hs hi { x with running := none } _
  case upPending => exact exec_partReset_counted h hmark hr htrial hrest (hpending hs)
  case upBooting => exact exec_partReset_counted h hmark hr htrial hrest (hbooting hs)
  case upRevert =>
    exact ⟨_, exec_partReset_reverted h hmark hr htrial hrest hs hi, rfl, reverts_revertedOn hs hi (upFrom x) _⟩
  case upFails =>
    have hquiet : NoneRevoked [] x := fun slot k _ hk => hnone slot k hk
    have hcounts {state : ClassState} {raise : Bool} (hcounts : r.state.Counts state raise) :
        exec (.partReset { landed, bad := [], trouble := .writeFails 1 new }) x
          = .next { upFrom x with
              store := { (upFrom x).store with classes := x.store.classes.set c (if new then { r with state } else r) }
              conditions := (upFrom x).conditions.set 9 (some 0) } := by
      obtain ⟨hcounted, hsteps, -⟩ := hcounts.account c
      rw [← hcounted]
      exact exec_partReset_accountFails h hmark hr htrial hrest hquiet hsteps rfl
        (fun s => by cases new <;> rfl) fun s => rfl
    cases hs : r.state with
    | steady => exact absurd hs htrial
    | pending bank n =>
      refine ⟨_, hcounts (hpending hs), fun hold => if_neg (by simp [hold]), ?_, ?_, fun hnew => ⟨fun _ _ he => ?_,
        fun _ _ he => absurd he (by simp), fun _ he => absurd he (by simp)⟩⟩
      · split <;> rfl
      · split <;> rfl
      · cases he
        exact if_pos hnew
    | booting bank left =>
      cases left with
      | succ n =>
        refine ⟨_, hcounts (hbooting hs), fun hold => if_neg (by simp [hold]), ?_, ?_, fun hnew =>
          ⟨fun _ _ he => absurd he (by simp), fun _ _ he => ?_, fun _ he => absurd he (by simp)⟩⟩
        · split <;> rfl
        · split <;> rfl
        · cases he
          exact if_pos hnew
      | zero =>
        obtain ⟨hstate, hdeferred, hactive, hfloor⟩ := ClassRecord.reverted_record hs
        have hsteps : accountSteps c r = ([.revert c,
            .marker { kind := .revert, cls := c, version := r.trialVersion }, .raise .trialReverted], false) := by
          simp only [accountSteps, hs]
        have hfails := exec_partReset_accountFails (landed := landed) (y := .revert c) (new := new) h hmark hr htrial hrest
          hquiet hsteps rfl (fun s => by cases new <;> rfl) fun s => rfl
        refine ⟨_, hfails, fun hold => if_neg (by simp [hold]), ?_, ?_, fun hnew => ⟨fun _ _ he => absurd he (by simp),
          fun _ _ he => absurd he (by simp), fun _ _ => ?_⟩⟩
        · split
          · exact hfloor
          · rfl
        · split
          · exact hactive
          · rfl
        · rw [if_pos hnew]
          exact ⟨hstate, hdeferred⟩

end Sys2Proof.Machine
end

section
/-! PROOFS. The jobs of the credential table and the settings (O39 to O41, O43). -/

namespace Sys2Proof.Machine

open Sys2Proof

variable {s t u : State} {st : Station} {q : Bool} {rest : List Job} {id : CredId}

/-- The stations after a station's job has ended: its slot holds the reply. -/
theorem ended_stations (r : Result) (c : ReqCode) (body : List Byte) (s : State) (x : Station) :
    (ended st r c body q s).stations.get x
      = { s.stations.get x with
          slot := if x = st then some { result := r, code := c.toByte, body, notice := !q } else (s.stations.get x).slot } := by
  show (s.stations.set st { s.stations.get st with slot := _ }).get x = _
  by_cases hx : x = st
  · subst hx
    rw [Tbl.get_set_self, if_pos rfl]
  · rw [Tbl.get_set_ne _ _ hx, if_neg hx]

/-! ### A CRED_SET's record and effects (R119, R120) -/

/-- The store record of new contents over what an id holds: a change keeps the governor's fields. -/
def storedOver (contents : CredContents) (old : Option CredRecord) : StoredCred :=
  { contents, penalty := old.elim 0 CredRecord.penalty, streak := old.elim 0 CredRecord.streak }

theorem finish_credRecord {run : Running} {contents : CredContents} (hr : s.running = some run)
    (hd : run.data = .credential contents) :
    (JobStep.credRecord id).finish s
      = { s with store := { s.store with creds := s.store.creds.set id (some (storedOver contents (heldCred? id s))) } } := by
  have hcontents : runningContents s = some contents := by simp only [runningContents, hr, hd]
  have hw : (JobStep.credRecord id).writes s = true := by simp [JobStep.writes, hcontents]
  have hland : (JobStep.credRecord id).land s
      = { s.store with creds := s.store.creds.set id (some (storedOver contents (heldCred? id s))) } := by
    simp only [JobStep.land, hcontents]
    cases heldCred? id s <;> rfl
  exact (complete_write hw).trans (by rw [hland]; rfl)

/-- The credential information depends on the credentials, the time and the grant of the station alone. -/
theorem credentialInfo_congr (hc : t.creds = u.creds) (ht : t.time = u.time)
    (hg : (t.stations.get st).grant = (u.stations.get st).grant) : credentialInfo id st t = credentialInfo id st u := by
  simp only [credentialInfo, ownerClaimed, heldCred?, hc, ht, hg]

theorem get_dropGrant (b : Grant → Bool) (stations : Tbl StationRec 4) (x : Station) :
    (stations.map (StationRec.dropGrant b)).get x
      = { stations.get x with grant := (stations.get x).grant.filter fun g => !b g } := Tbl.get_map _ _ _

section Effects

variable {p : CredParams} {contents : CredContents}

theorem storeCredential_change {r : CredRecord} (hr : s.creds.get p.id = .held r) :
    storeCredential p true contents s
      = endGrantsOf p.id { s with creds := s.creds.set p.id (.held { r with contents }) } := by
  simp only [storeCredential, heldCred?_eq_some.2 hr, setCred]

theorem storeCredential_gone (hh : heldCred? p.id s = none) :
    storeCredential p true contents s
      = { s with creds := s.creds.set p.id (.held { contents, penalty := 0, streak := 0, lockout := .absent }) } := by
  simp only [storeCredential, hh, setCred]

theorem storeCredential_new (h : p.id ≠ 0) :
    storeCredential p false contents s
      = { s with creds := s.creds.set p.id (.held { contents, penalty := 0, streak := 0, lockout := .absent }) } := by
  simp only [storeCredential, if_neg h, setCred]

theorem storeCredential_claim (h : p.id = 0) :
    storeCredential p false contents s
      = partExtend { kind := .ownerClaim, cls := 0, version := 0 }
          { s with creds := s.creds.set p.id (.held { contents, penalty := 0, streak := 0, lockout := .absent }) } := by
  simp only [storeCredential, if_pos h, setCred]

/-- What the effects of a CRED_SET touch: credentials, grants, and the chain that a claim extends. -/
theorem storeCredential_frame (p : CredParams) (change : Bool) (contents : CredContents) (s : State) :
    ∃ creds stations chains log conditions,
      storeCredential p change contents s = { s with creds, stations, chains, log, conditions }
        ∧ ∀ x, stations.get x = { s.stations.get x with grant := (stations.get x).grant } := by
  cases change with
  | true =>
    cases hh : heldCred? p.id s with
    | some r =>
      exact ⟨_, _, _, _, _, storeCredential_change (heldCred?_eq_some.1 hh), fun x => by simp only [get_dropGrant]⟩
    | none => exact ⟨_, _, _, _, _, storeCredential_gone hh, fun _ => rfl⟩
  | false =>
    by_cases h0 : p.id = 0
    · exact ⟨_, _, _, _, _, (storeCredential_claim h0).trans (partExtend_eq _ _), fun _ => rfl⟩
    · exact ⟨_, _, _, _, _, storeCredential_new h0, fun _ => rfl⟩

end Effects

/-- Settles O39: the checks in their order; the record, and the effects by what the id holds. -/
theorem credSetJobStores : Obligations.CredSetJobStores := by
  intro st q change needed p contents rest s job
  refine ⟨fun h => ⟨fun hneeded hgrant => ?noGrant, fun hgranted hchange hheld => ?gone, fun hgranted hheld => ?starts⟩,
    fun hp hrun => ?ends⟩
  case noGrant =>
    refine exec_jobStart h rfl (if_pos (grantMissing_iff.2 fun hg => hg hneeded hgrant)) ?_
    cases change with
    | true => exact failJob_taken rfl rfl
    | false =>
      refine failJob_taken rfl ?_
      show freeCred p.id _ = _
      unfold freeCred
      simp only
      cases hc : s.creds.get p.id <;> rfl
  case gone =>
    subst hchange
    have hnone : heldCred? p.id (taken st q (.credSet p true needed) rest s) = none := heldCred?_of_not_held hheld
    refine exec_jobStart h rfl ((if_neg fun hm => grantMissing_iff.1 hm hgranted).trans (if_pos ?_)) (failJob_taken rfl rfl)
    rw [hnone]
    rfl
  case starts =>
    intro salt
    have hgo : ¬(change && (heldCred? p.id (taken st q (.credSet p change needed) rest s)).isNone) = true := by
      rw [Bool.and_eq_true]
      rintro ⟨hchange, hnone⟩
      obtain ⟨r, hr⟩ := hheld hchange
      have hsome : heldCred? p.id (taken st q (.credSet p change needed) rest s) = some r := heldCred?_eq_some.2 hr
      rw [hsome] at hnone
      cases hnone
    refine exec_jobStart h rfl ((if_neg fun hm => grantMissing_iff.1 hm hgranted).trans (if_neg hgo)) ?_
    have hcontents : p.contents salt =
        { kind := p.kind, label := p.label, grants := p.grants, freeRelease := p.freeRelease
          releaseMask := p.releaseMask, salt, verifier := digest (salt.list ++ p.secret)
          value := if p.kind = .secret then p.secret else [] } := by
      unfold CredParams.contents
      cases p.kind <;> rfl
    rw [← hcontents]
    exact launch_taken_writes (s := { s with entropy := s.entropy + 1 }) rfl
  case ends =>
    let stored : State := { s with
      store := { s.store with creds := s.store.creds.set p.id (some (storedOver contents (heldCred? p.id s))) }
      running := some (fresh job [] (.credential contents) []) }
    obtain ⟨creds, stations, chains, log, conditions, hu, hstations⟩ := storeCredential_frame p change contents stored
    let u : State := { stored with creds, stations, chains, log, conditions }
    have hsteps : finishSteps s = stored := by
      rw [finishSteps_one hrun rfl, finish_credRecord hrun rfl, setTodo]
      simp only [hrun]
      rfl
    have hend : endCredSet st p change contents stored
        = placeReply st .ok ReqCode.credSet.toByte (credentialInfo p.id st u) q { u with running := none } := by
      rw [endCredSet, hu]
      exact endJob_of (s := u) rfl rfl
    have hexec : exec .credSetJobEnd s = .next (ended st .ok .credSet (credentialInfo p.id st u) q u) :=
      exec_jobEnd_of hp hrun rfl hsteps rfl hend rfl
    have hinfo : credentialInfo p.id st (ended st .ok .credSet (credentialInfo p.id st u) q u) = credentialInfo p.id st u :=
      credentialInfo_congr rfl rfl (by rw [ended_stations])
    refine ⟨_, hexec, rfl, fun x => ?stations, fun r hr => ?info, fun r hchange hr => ?changed, fun hchange hno => ?new,
      ?frame⟩
    case stations =>
      rw [hinfo, ended_stations]
      show ({ stations.get x with slot := _ } : StationRec) = _
      rw [hstations x]
      rfl
    case info =>
      have hgrant : ((ended st .ok .credSet (credentialInfo p.id st u) q u).stations.get st).grant = (u.stations.get st).grant := by
        rw [ended_stations]
      rw [hinfo, hgrant]
      have hr' : u.creds.get p.id = .held r := hr
      simp only [credentialInfo, hr', flagByte, flagByte_ownerClaimed]
      show _ = _ ++ [match u.creds.get 0 with | .held _ => (1 : Byte) | _ => 0] ++ _
      cases r.lockout <;> cases u.creds.get 0 <;> cases (u.stations.get st).grant <;> rfl
    case changed =>
      subst hchange
      have hh : heldCred? p.id s = some r := heldCred?_eq_some.2 hr
      have heffect : u = _ := hu.symm.trans (storeCredential_change (s := stored) hr)
      have hgrants (x : Station) : (u.stations.get x).grant
          = (s.stations.get x).grant.filter fun g => !(g.credential == p.id) := by
        rw [heffect]
        exact congrArg StationRec.grant (get_dropGrant _ _ _)
      have hchains : chains = s.chains := congrArg State.chains heffect
      have hlog : log = s.log := congrArg State.log heffect
      have hconditions : conditions = s.conditions := congrArg State.conditions heffect
      refine ⟨congrArg State.creds heffect, hchains, hlog, hconditions, ?_, fun x => ?_⟩
      · show { s.store with creds := s.store.creds.set p.id (some (storedOver contents (heldCred? p.id s))) } = _
        rw [hh]
        rfl
      · rw [ended_stations]
        refine (hgrants x).trans (congrArg (fun kept => (s.stations.get x).grant.filter kept) (funext fun g => ?_))
        exact (decide_not ..).symm
    case new =>
      subst hchange
      have hh : heldCred? p.id s = none := heldCred?_of_not_held hno
      have hstore : ({ s.store with creds := s.store.creds.set p.id (some (storedOver contents (heldCred? p.id s))) } : Store)
          = { s.store with creds := s.store.creds.set p.id (some { contents, penalty := 0, streak := 0 }) } := by
        rw [hh]
        rfl
      by_cases h0 : p.id = 0
      · let m : Marker := { kind := .ownerClaim, cls := 0, version := 0 }
        let claimed : State := { stored with
          creds := stored.creds.set p.id (.held { contents, penalty := 0, streak := 0, lockout := .absent }) }
        have heffect : u = _ := hu.symm.trans (storeCredential_claim (s := stored) h0)
        have hgrants (x : Station) : (u.stations.get x).grant = (s.stations.get x).grant := by
          rw [heffect, partExtend_eq]
        refine ⟨?_, hstore, fun x => (congrArg StationRec.grant (ended_stations _ _ _ _ _)).trans (hgrants x),
          fun hne => absurd h0 hne, fun _ => ⟨?_, fun k => ?_⟩⟩
        · have hcreds : u.creds = _ := (congrArg State.creds heffect).trans (congrArg State.creds (partExtend_eq _ _))
          exact hcreds
        · have hext : PartExtended 11 [5, 0, 0, 0] s u := by
            have hbytes : markerBytes m = [5, 0, 0, 0] := by decide
            rw [heffect, ← hbytes]
            exact partExtended_partExtend m claimed
          exact hext
        · have hconditions : u.conditions = extendedConditions _ :=
            (congrArg State.conditions heffect).trans (congrArg State.conditions (partExtend_eq _ _))
          exact (congrArg (Tbl.get · k) hconditions).trans (extendedConditions_get _ _)
      · have heffect : u = _ := hu.symm.trans (storeCredential_new (s := stored) h0)
        have hcreds : creds = _ := congrArg State.creds heffect
        have hgrants (x : Station) : (u.stations.get x).grant = (s.stations.get x).grant := by rw [heffect]
        have hchains : chains = s.chains := congrArg State.chains heffect
        have hlog : log = s.log := congrArg State.log heffect
        have hconditions : conditions = s.conditions := congrArg State.conditions heffect
        exact ⟨hcreds, hstore, fun x => (congrArg StationRec.grant (ended_stations _ _ _ _ _)).trans (hgrants x),
          fun _ => ⟨hchains, hlog, hconditions⟩, fun hz => absurd hz h0⟩
    case frame =>
      simp only [ended, placeReply, setStation, recomputeAttn, u, stored]

end Sys2Proof.Machine
end

section
/-! PROOFS. Verifying, releasing and clearing a credential, and writing the settings (O40, O41, O43). -/

namespace Sys2Proof.Machine

open Sys2Proof

variable {s t u : State} {st : Station} {q : Bool} {rest : List Job} {id : CredId} {r : CredRecord}
  {candidate : List Byte}

/-! ### The charge and the comparison (R122, R139) -/

theorem complete_charge (hr : s.creds.get id = .held r) :
    let streak := min (r.streak + 1) 255
    let penalty := min (r.penalty + (40 + 8 * min streak 10)) 1023
    (JobStep.charge id).complete s
      = setData (.comparison penalty (penalty - r.penalty) false) { s with
          store := { s.store with creds := s.store.creds.set id (some { contents := r.contents, penalty, streak }) }
          creds := s.creds.set id (.held { r with penalty, streak }) } := by
  have hh : heldCred? id s = some r := heldCred?_eq_some.2 hr
  simp only [JobStep.complete, JobStep.writes, JobStep.land, JobStep.act, hh, Option.isSome_some, if_true]
  rfl

/-- The comparison notes whether the candidate matches. -/
theorem complete_compare {run : Running} {charged amount : Nat} {m : Bool} (hrun : s.running = some run)
    (hd : run.data = .comparison charged amount m) (hr : s.creds.get id = .held r) :
    (JobStep.compare id candidate).complete s
      = setData (.comparison charged amount (candidateMatches r.contents candidate)) s := by
  have hh : heldCred? id s = some r := heldCred?_eq_some.2 hr
  rw [complete_free rfl]
  simp only [JobStep.act, setData, hrun, hh, hd, Option.map_some]

/-- Behind the charge's write the candidate is compared; the success's write is next on a match. -/
theorem runFree_compare {run : Running} {charged amount : Nat} {m : Bool} (hrun : s.running = some run)
    (hd : run.data = .comparison charged amount m) (hr : s.creds.get id = .held r) :
    let matched := candidateMatches r.contents candidate
    runFree [.compare id candidate, .success id] s
      = setTodo (if matched then [.success id] else []) (setData (.comparison charged amount matched) s) := by
  intro matched
  rw [runFree_free rfl, complete_compare hrun hd hr]
  have hh : heldCred? id (setData (.comparison charged amount matched) s) = some r := heldCred?_eq_some.2 hr
  have hnoted : noted (setData (.comparison charged amount matched) s) = (amount, matched) := by
    simp only [noted, setData, hrun, Option.map_some]
  cases hm : matched with
  | true =>
    rw [hm] at hh hnoted
    rw [show candidateMatches r.contents candidate = true from hm]
    exact runFree_write (by simp only [JobStep.writes, hnoted, hh]; rfl)
  | false =>
    rw [hm] at hh hnoted
    rw [show candidateMatches r.contents candidate = false from hm]
    have hw : (JobStep.success id).writes (setData (.comparison charged amount false) s) = false := by
      simp only [JobStep.writes, hnoted, Bool.false_and]
    rw [runFree_free hw, complete_free hw, runFree_nil]
    simp only [JobStep.act, hnoted]
    rfl

/-- Settles O40: SET state and lockout at the start; the charge's write, then the comparison. -/
theorem verifyJobChargesBeforeComparing : Obligations.VerifyJobChargesBeforeComparing := by
  refine ⟨fun st q id candidate rest s h => ⟨fun hno => ?gone, fun r hr => ⟨fun d hd hne => ?locked,
    fun delay hd => ?pending, fun hd => ?starts⟩⟩, fun st q id candidate d r s hp hr hrun => ?charged⟩
  case gone =>
    have hnone : heldCred? id (taken st q (.credVerify id candidate) rest s) = none := heldCred?_of_not_held hno
    refine exec_jobStart h rfl rfl ?_
    simp only [startCredVerify, hnone]
    exact failJob_taken rfl rfl
  case locked =>
    have hh : heldCred? id (taken st q (.credVerify id candidate) rest s) = some r := heldCred?_eq_some.2 hr
    have hforce : r.lockout.inForce s.time.uptime = true := by rw [hd]; exact bne_iff_ne.2 hne
    refine exec_jobStart h rfl rfl ?_
    simp only [startCredVerify, hh, hforce, if_true]
    rw [hd]
    exact failJob_taken rfl rfl
  case pending =>
    have hh : heldCred? id (taken st q (.credVerify id candidate) rest s) = some r := heldCred?_eq_some.2 hr
    have hforce : r.lockout.inForce s.time.uptime = true := by rw [hd]; rfl
    refine exec_jobStart h rfl rfl ?_
    simp only [startCredVerify, hh, hforce, if_true]
    rw [hd]
    exact failJob_taken rfl rfl
  case starts =>
    have hh : heldCred? id (taken st q (.credVerify id candidate) rest s) = some r := heldCred?_eq_some.2 hr
    have hforce : r.lockout.inForce s.time.uptime = false := by rw [hd]; rfl
    refine exec_jobStart h rfl rfl ?_
    simp only [startCredVerify, hh, hforce]
    exact launch_taken_writes (by simp only [JobStep.writes]; exact congrArg Option.isSome hh)
  case charged =>
    intro streak penalty matched
    have hh : heldCred? id s = some r := heldCred?_eq_some.2 hr
    have hw : (JobStep.charge id).writes s = true := by simp [JobStep.writes, hh]
    have hunder : underWay s = some (.charge id) := by simp [underWay, hrun, hw]
    have hwrite : chargeWritten s = writeCompletes s := by simp only [chargeWritten, hunder]
    let charged : State := setData (.comparison penalty (penalty - r.penalty) false) { s with
      store := { s.store with creds := s.store.creds.set id (some { contents := r.contents, penalty, streak }) }
      creds := s.creds.set id (.held { r with penalty, streak }) }
    have hcompared := runFree_compare (s := charged) (candidate := candidate) (r := { r with penalty, streak })
      (run := fresh (stationJob st q (.credVerify id candidate)) [.charge id, .compare id candidate, .success id]
        (.comparison penalty (penalty - r.penalty) false) []) (by simp only [charged, setData, hrun, Option.map_some]) rfl
      (Tbl.get_set_self _ _ _)
    have hexec : exec .credVerifyChargeWritten s
        = .next (recomputeAttn (runFree [.compare id candidate, .success id] charged)) := by
      show whenOn chargeWritten s = _
      rw [whenOn_on hp, hwrite, writeCompletes_of hrun rfl hw, complete_charge hr]
      rfl
    rw [hexec, hcompared]
    simp only [charged, setTodo, setData, hrun, Option.map_some]
    rfl

/-! ### The end of a CRED_VERIFY (R123, R124, R142, R144) -/

/-- A match's write: the charge's rise taken back and the rest halved, the streak 0. -/
theorem finish_success {run : Running} {charged amount : Nat} (hrun : s.running = some run)
    (hd : run.data = .comparison charged amount true) (hr : s.creds.get id = .held r) :
    (JobStep.success id).finish s = { s with
      store := { s.store with
        creds := s.store.creds.set id (some { contents := r.contents, penalty := (r.penalty - amount) / 2, streak := 0 }) }
      creds := s.creds.set id (.held { r with penalty := (r.penalty - amount) / 2, streak := 0 }) } := by
  have hh : heldCred? id s = some r := heldCred?_eq_some.2 hr
  have hnoted : noted s = (amount, true) := by simp only [noted, hrun, hd]
  have hw : (JobStep.success id).writes s = true := by simp only [JobStep.writes, hnoted, hh]; rfl
  refine (complete_write hw).trans ?_
  simp only [JobStep.act, JobStep.land, hnoted, hh]
  rfl

theorem lockOut_eq (hr : s.creds.get id = .held r) (delay : Nat) :
    lockOut id delay s = if delay = 0 then { s with creds := s.creds.set id (.held r) } else { s with
      creds := s.creds.set id (.held { r with lockout := .deadline (s.time.uptime + BitVec.ofNat 32 delay) })
      conditions := s.conditions.set 7 (some s.time.uptime) } := by
  simp only [lockOut, heldCred?_eq_some.2 hr, startLockout]
  by_cases h : delay = 0
  · simp only [h, if_true]
    rfl
  · simp only [if_neg h, raiseIf, bne_iff_ne.2 h, if_true]
    rfl

/-- Settles O41: a mismatch locks the credential out; a match writes its success, and grants. -/
theorem verifyJobLocksOrGrants : Obligations.VerifyJobLocksOrGrants := by
  intro st q id candidate charged amount r s hp hr job delay penalty stored deadline failed
  have hlocked : lockOut id delay s = failed := lockOut_eq hr delay
  have hfailed : failed.running = s.running := by
    simp only [failed]
    split <;> rfl
  have hmatched {run : Running} (hrun : s.running = some run) (htodo : run.todo = [.success id])
      (hd : run.data = .comparison charged amount true) :
      finishSteps s = { stored with running := some { run with todo := [] } } := by
    rw [finishSteps_one hrun htodo, finish_success hrun hd hr]
    simp only [setTodo, hrun, Option.map_some]
    rfl
  have hgrants (run : Running) : grantsOf id { stored with running := some run } = r.contents.grants := by
    have hh : heldCred? id { stored with running := some run } = some { r with penalty, streak := 0 } :=
      heldCred?_eq_some.2 (Tbl.get_set_self _ _ _)
    simp only [grantsOf, hh, Option.any_some]
  let done (crossed : Bool) : Running := { fresh job [] (.comparison charged amount true) [] with crossed }
  refine ⟨fun hrun => ?mismatch, fun hrun => ?mismatchCrossed, fun hrun => ⟨fun hno => ?matched, fun hyes => ?granted⟩,
    fun hrun => ?matchedCrossed⟩
  case mismatch =>
    have hend : endJob .mismatch (be16 delay) failed = placeReply st .mismatch _ (be16 delay) q { failed with running := none } :=
      endJob_of (hfailed.trans hrun) rfl
    exact exec_jobEnd_of hp hrun rfl (finishSteps_done hrun rfl) hrun ((congrArg (endJob _ _) hlocked).trans hend) rfl
  case mismatchCrossed =>
    have hend : endJob .mismatch (be16 delay) failed = { failed with running := none } :=
      endJob_none (hfailed.trans hrun) rfl
    exact exec_jobEnd_of hp hrun rfl (finishSteps_done hrun rfl) hrun ((congrArg (endJob _ _) hlocked).trans hend) rfl
  case matched =>
    refine exec_jobEnd_of hp hrun rfl (hmatched hrun rfl rfl) rfl ?_ rfl
    refine (if_neg ?_).trans (endJob_of (r := done false) (st := st) rfl rfl)
    rw [hgrants, hno, Bool.false_and]
    exact Bool.false_ne_true
  case granted =>
    refine exec_jobEnd_of hp hrun rfl (hmatched hrun rfl rfl) rfl ?_ rfl
    refine (if_pos ?_).trans ?_
    · rw [hgrants, hyes]
      rfl
    · have hgrant : ((issueGrant st id { stored with running := some (done false) }).stations.get st).grant
          = some ⟨id, deadline⟩ := congrArg StationRec.grant (Tbl.get_set_self _ _ _)
      refine (endJob_of (r := done false) (st := st) rfl rfl).trans ?_
      show placeReply st .ok _ (grantDeadline ((issueGrant st id { stored with running := some (done false) }).stations.get st).grant)
        q _ = _
      rw [hgrant]
      rfl
  case matchedCrossed =>
    refine exec_jobEnd_of hp hrun rfl (hmatched hrun rfl rfl) rfl ?_ rfl
    refine (if_neg ?_).trans (endJob_none (r := done true) rfl rfl)
    rw [hgrants]
    exact fun h => Bool.false_ne_true ((Bool.and_eq_true _ _ ▸ h).2)

/-! ### CRED_RELEASE, CRED_CLEAR and SETTINGS_WRITE (R126, R127, R202) -/

theorem releaseChecks_of_not_held (h : ∀ r, s.creds.get id ≠ .held r) : releaseChecks id st s = .error .slotEmpty := by
  simp only [releaseChecks, heldCred?_of_not_held h]

theorem finish_settingsRecord {run : Running} {v : Settings} (hrun : s.running = some run) (hd : run.data = .newSettings v) :
    JobStep.settingsRecord.finish s = { s with
      settings := { v with addressBase := s.settings.addressBase }, store := { s.store with settings := v } } := by
  have hv : runningSettings s = some v := by simp only [runningSettings, hrun, hd]
  have hw : JobStep.settingsRecord.writes s = true := by simp only [JobStep.writes, hv]; rfl
  refine (complete_write hw).trans ?_
  simp only [JobStep.act, JobStep.land, hv]
  rfl

/-- Settles O43: the checks of a release again; a clear's removal and its end; the settings brought into range. -/
theorem releaseClearAndSettingsJobs : Obligations.ReleaseClearAndSettingsJobs := by
  refine ⟨fun st q id rest s => ⟨fun h => ⟨fun hno => ?releaseGone, fun r hr => ⟨fun hkind => ?verifier,
        fun hkind hmask => ?masked, fun hkind hmask hfree hgrant => ?releaseNoGrant, fun hkind hmask hgo => ?released⟩⟩,
      fun bytes hp hrun => exec_jobEnd hp hrun rfl rfl rfl,
      fun h => ⟨fun hgrant => ?clearNoGrant, fun hgrant hno => ?clearGone, fun hgrant r hr => ?clears⟩,
      fun hp hrun => ?cleared⟩,
    fun st q p v rest s => ⟨fun h => ⟨fun hst hgrant => ?settingsNoGrant, fun hgrant => ?writes⟩, fun hp hrun => ?written⟩⟩
  case releaseGone =>
    have hcheck : releaseChecks id st (taken st q (.credRelease id) rest s) = .error .slotEmpty :=
      releaseChecks_of_not_held hno
    refine exec_jobStart h rfl rfl ?_
    simp only [startCredRelease, hcheck]
    exact failJob_taken rfl rfl
  case verifier =>
    have hcheck : releaseChecks id st (taken st q (.credRelease id) rest s) = .error .badArgument := by
      rw [releaseChecks_of_held (s := taken st q (.credRelease id) rest s) hr, hkind]
      rfl
    refine exec_jobStart h rfl rfl ?_
    simp only [startCredRelease, hcheck]
    exact failJob_taken rfl rfl
  case masked =>
    have hcheck : releaseChecks id st (taken st q (.credRelease id) rest s) = .error .notPermitted := by
      rw [releaseChecks_of_held (s := taken st q (.credRelease id) rest s) hr, hkind, hmask]
      rfl
    refine exec_jobStart h rfl rfl ?_
    simp only [startCredRelease, hcheck]
    exact failJob_taken rfl rfl
  case releaseNoGrant =>
    have hcheck : releaseChecks id st (taken st q (.credRelease id) rest s) = .ok r := by
      rw [releaseChecks_of_held (s := taken st q (.credRelease id) rest s) hr, hkind, hmask]
      rfl
    have hmissing : (!r.contents.freeRelease && !holdsGrant st (taken st q (.credRelease id) rest s)) = true := by
      rw [hfree]
      exact grantMissing_iff.2 fun hg => hgrant (hg rfl)
    refine exec_jobStart h rfl rfl ?_
    simp only [startCredRelease, hcheck, hmissing, if_true]
    exact failJob_taken rfl rfl
  case released =>
    have hcheck : releaseChecks id st (taken st q (.credRelease id) rest s) = .ok r := by
      rw [releaseChecks_of_held (s := taken st q (.credRelease id) rest s) hr, hkind, hmask]
      rfl
    have hgranted : ¬(!r.contents.freeRelease && !holdsGrant st (taken st q (.credRelease id) rest s)) = true := by
      refine fun hm => grantMissing_iff.1 hm fun hfree => hgo.resolve_left ?_
      rw [Bool.not_eq_true'] at hfree
      simp [hfree]
    refine exec_jobStart h rfl rfl ?_
    simp only [startCredRelease, hcheck, if_neg hgranted]
    exact launch_taken _
  case clearNoGrant =>
    have hmissing : (!holdsGrant st (taken st q (.credClear id) rest s)) = true := by
      rw [Bool.not_eq_true', ← Bool.not_eq_true, holdsGrant_iff]
      exact hgrant
    exact exec_jobStart h rfl (if_pos hmissing) (failJob_taken rfl rfl)
  case clearGone =>
    have hgranted : ¬(!holdsGrant st (taken st q (.credClear id) rest s)) = true := by
      rw [Bool.not_eq_true', ← Bool.not_eq_true, holdsGrant_iff]
      exact not_not.2 hgrant
    have hnone : (heldCred? id (taken st q (.credClear id) rest s)).isNone = true := by
      rw [heldCred?_of_not_held (s := taken st q (.credClear id) rest s) hno]
      rfl
    exact exec_jobStart h rfl ((if_neg hgranted).trans (if_pos hnone)) (failJob_taken rfl rfl)
  case clears =>
    have hgranted : ¬(!holdsGrant st (taken st q (.credClear id) rest s)) = true := by
      rw [Bool.not_eq_true', ← Bool.not_eq_true, holdsGrant_iff]
      exact not_not.2 hgrant
    have hheld : heldCred? id (taken st q (.credClear id) rest s) = some r := heldCred?_eq_some.2 hr
    have hsome : ¬(heldCred? id (taken st q (.credClear id) rest s)).isNone = true := by
      rw [hheld]
      exact Bool.false_ne_true
    exact exec_jobStart h rfl ((if_neg hgranted).trans (if_neg hsome)) (launch_taken_writes rfl)
  case cleared =>
    let removed : State := { s with
      store := { s.store with creds := s.store.creds.set id none }
      running := some (fresh (stationJob st q (.credClear id)) [] .blank []) }
    have hsteps : finishSteps s = removed := by
      rw [finishSteps_one hrun rfl, show (JobStep.credRemove id).finish s = _ from complete_write rfl]
      simp only [setTodo, JobStep.act, hrun, Option.map_some]
      rfl
    let u : State := endGrantsOf id { removed with creds := s.creds.set id .empty }
    have hexec : exec .credClearJobEnd s = .next (ended st .ok .credClear [byte id] q u) :=
      exec_jobEnd_of hp hrun rfl hsteps rfl (endJob_of (s := u) rfl rfl) rfl
    refine ⟨_, hexec, rfl, rfl, fun x => ?_, ?_⟩
    · have hkept : (fun g : Grant => !(g.credential == id)) = fun g => decide (g.credential ≠ id) :=
        funext fun g => (decide_not ..).symm
      rw [ended_stations]
      simp only [u, endGrantsOf, get_dropGrant, hkept]
      rfl
    · simp only [ended, placeReply, setStation, recomputeAttn, u, endGrantsOf, removed]
  case settingsNoGrant =>
    subst hst
    have hmissing : ((2 : Station) == 2 && !holdsGrant 2 (taken 2 q (.settingsWrite p) rest s)) = true :=
      grantMissing_iff.2 fun hg => hg rfl hgrant
    exact exec_jobStart h rfl (if_pos hmissing) (failJob_taken rfl rfl)
  case writes =>
    have hgranted : ¬(st == 2 && !holdsGrant st (taken st q (.settingsWrite p) rest s)) = true :=
      fun hm => grantMissing_iff.1 hm fun hst => hgrant (beq_iff_eq.1 hst)
    exact exec_jobStart h rfl (if_neg hgranted) (launch_taken_writes rfl)
  case written =>
    let stored : State := { s with
      settings := { v with addressBase := s.settings.addressBase }
      store := { s.store with settings := v }
      running := some (fresh (stationJob st q (.settingsWrite p)) [] (.newSettings v) []) }
    have hsteps : finishSteps s = stored := by
      rw [finishSteps_one hrun rfl, finish_settingsRecord hrun rfl]
      simp only [setTodo, hrun, Option.map_some]
      rfl
    exact exec_jobEnd_of hp hrun rfl hsteps rfl (endJob_of (s := stored) rfl rfl) rfl

end Sys2Proof.Machine
end

section
/-! PROOFS. A store write that completes, and one that fails (O45). -/

namespace Sys2Proof.Machine

open Sys2Proof

variable {s t u : State} {st : Station} {w : Work} {j : Job}

/-! ### The last write of a job completes (R176) -/

theorem lastWrite_completes {r : Running} {write : JobStep} (hp : s.power = .on) (hr : s.running = some r)
    (ht : r.todo = [write]) (hw : write.writes s = true) (hf : write.follow s = []) :
    exec .storeWriteComplete s
      = .next (recomputeAttn (setTodo [] { write.act s with store := write.land s })) := by
  rw [exec_storeWriteComplete hp hr ht hw, hf, complete_write hw]
  rfl

/-! ### What ending and undoing jobs gives back (R9, R101, R115) -/

/-- The confirm hold is cleared; an overdue trial timer then expires, with its pulse (R101). -/
def HoldCleared (s t : State) : Prop :=
  t.hold = false ∧ t.timer = (if s.timer.overdue then .expired else s.timer)
    ∧ t.time = { s.time with pulse := if s.timer.overdue then s.time.pulse.request else s.time.pulse }

/-- The confirm hold stands as it was. -/
def HoldKept (s t : State) : Prop := t.hold = s.hold ∧ t.timer = s.timer ∧ t.time = s.time

/-- Reserved slots and ids are EMPTY or stand, the confirm hold is cleared or stands, and nothing else of the blocks is
changed. -/
structure GivesBack (s t : State) : Prop where
  keys : ∀ slot, t.keys.get slot = s.keys.get slot ∨ (s.keys.get slot).isReserved = true ∧ t.keys.get slot = .empty
  creds : ∀ id, t.creds.get id = s.creds.get id ∨ (s.creds.get id).isReserved = true ∧ t.creds.get id = .empty
  hold : HoldKept s t ∨ HoldCleared s t
  store : t.store = s.store
  chains : t.chains = s.chains
  log : t.log = s.log
  classes : t.classes = s.classes
  revoked : t.revoked = s.revoked

theorem GivesBack.of_blocks (hk : t.keys = s.keys) (hc : t.creds = s.creds) (hh : HoldKept s t) (hs : t.store = s.store)
    (hch : t.chains = s.chains) (hl : t.log = s.log) (hcl : t.classes = s.classes)
    (hr : t.revoked = s.revoked) : GivesBack s t :=
  ⟨fun _ => .inl (by rw [hk]), fun _ => .inl (by rw [hc]), .inl hh, hs, hch, hl, hcl, hr⟩

theorem GivesBack.refl (s : State) : GivesBack s s := .of_blocks rfl rfl ⟨rfl, rfl, rfl⟩ rfl rfl rfl rfl rfl

/-- A timer that has expired or was not overdue is not overdue. -/
theorem overdue_cleared (x : TrialTimer) : (if x.overdue then TrialTimer.expired else x).overdue = false := by
  split
  · rfl
  · next h => exact Bool.eq_false_iff.2 h

theorem HoldCleared.of_kept (h : HoldKept s t) (hc : HoldCleared t u) : HoldCleared s u := by
  obtain ⟨-, htimer, htime⟩ := h
  obtain ⟨hhold, htimer', htime'⟩ := hc
  rw [htimer] at htimer' htime'
  rw [htime] at htime'
  exact ⟨hhold, htimer', htime'⟩

theorem HoldCleared.kept (h : HoldCleared s t) (hk : HoldKept t u) : HoldCleared s u := by
  obtain ⟨hhold, htimer, htime⟩ := h
  obtain ⟨hhold', htimer', htime'⟩ := hk
  exact ⟨hhold'.trans hhold, htimer'.trans htimer, htime'.trans htime⟩

/-- Clearing the hold again changes nothing. -/
theorem HoldCleared.again (h : HoldCleared s t) (hc : HoldCleared t u) : HoldCleared s u := by
  obtain ⟨-, htimer, htime⟩ := h
  obtain ⟨hhold', htimer', htime'⟩ := hc
  have hno : t.timer.overdue = false := by rw [htimer, overdue_cleared]
  rw [hno] at htimer' htime'
  exact ⟨hhold', htimer'.trans htimer, htime'.trans htime⟩

theorem GivesBack.trans (h : GivesBack s t) (h' : GivesBack t u) : GivesBack s u where
  keys slot := by
    rcases h.keys slot with hk | ⟨hres, hk⟩
    · exact hk ▸ h'.keys slot
    · rcases h'.keys slot with hk' | ⟨-, hk'⟩
      · exact .inr ⟨hres, hk'.trans hk⟩
      · exact .inr ⟨hres, hk'⟩
  creds id := by
    rcases h.creds id with hk | ⟨hres, hk⟩
    · exact hk ▸ h'.creds id
    · rcases h'.creds id with hk' | ⟨-, hk'⟩
      · exact .inr ⟨hres, hk'.trans hk⟩
      · exact .inr ⟨hres, hk'⟩
  hold := by
    rcases h.hold with hk | hc
    · rcases h'.hold with hk' | hc'
      · exact .inl ⟨hk'.1.trans hk.1, hk'.2.1.trans hk.2.1, hk'.2.2.trans hk.2.2⟩
      · exact .inr (.of_kept hk hc')
    · rcases h'.hold with hk' | hc'
      · exact .inr (hc.kept hk')
      · exact .inr (hc.again hc')
  store := h'.store.trans h.store
  chains := h'.chains.trans h.chains
  log := h'.log.trans h.log
  classes := h'.classes.trans h.classes
  revoked := h'.revoked.trans h.revoked

theorem GivesBack.uptime (h : GivesBack s t) : t.time.uptime = s.time.uptime := by
  rcases h.hold with ⟨-, -, htime⟩ | ⟨-, -, htime⟩ <;> rw [htime]

/-- What a slot or an id that was not reserved held, it holds. -/
theorem GivesBack.active (h : GivesBack s t) {slot : Slot} {k : KeyRecord} (hk : s.keys.get slot = .active k) :
    t.keys.get slot = .active k := by
  rcases h.keys slot with he | ⟨hres, -⟩
  · exact he.trans hk
  · exact absurd hres (by rw [hk]; exact Bool.false_ne_true)

theorem GivesBack.held (h : GivesBack s t) {id : CredId} {c : CredRecord} (hc : s.creds.get id = .held c) :
    t.creds.get id = .held c := by
  rcases h.creds id with he | ⟨hres, -⟩
  · exact he.trans hc
  · exact absurd hres (by rw [hc]; exact Bool.false_ne_true)

theorem givesBack_freeSlot (slot : Slot) (s : State) : GivesBack s (freeSlot slot s) where
  keys x := by
    simp only [freeSlot, Tbl.get_set]
    split
    · next hx =>
      subst hx
      cases hres : (s.keys.get x).isReserved
      · exact .inl rfl
      · exact .inr ⟨rfl, rfl⟩
    · exact .inl rfl
  creds _ := .inl rfl
  hold := .inl ⟨rfl, rfl, rfl⟩
  store := rfl
  chains := rfl
  log := rfl
  classes := rfl
  revoked := rfl

theorem givesBack_freeCred (id : CredId) (s : State) : GivesBack s (freeCred id s) where
  keys _ := .inl rfl
  creds x := by
    simp only [freeCred, Tbl.get_set]
    split
    · next hx =>
      subst hx
      cases hres : (s.creds.get x).isReserved
      · exact .inl rfl
      · exact .inr ⟨rfl, rfl⟩
    · exact .inl rfl
  hold := .inl ⟨rfl, rfl, rfl⟩
  store := rfl
  chains := rfl
  log := rfl
  classes := rfl
  revoked := rfl

theorem holdCleared_clearHold (s : State) : HoldCleared s (clearHold s) := ⟨rfl, rfl, rfl⟩

theorem givesBack_releaseWork (w : Work) (s : State) : GivesBack s (releaseWork w s) := by
  cases w with
  | keyGenerate p kind => exact givesBack_freeSlot p.slot s
  | keyImport p m => exact givesBack_freeSlot p.slot s
  | keyDerive _ _ _ target _ _ _ => exact givesBack_freeSlot target s
  | credSet p change needs =>
    cases change
    · exact givesBack_freeCred p.id s
    · exact .refl s
  | bootConfirm c =>
    exact ⟨fun _ => .inl rfl, fun _ => .inl rfl, .inr (holdCleared_clearHold s), rfl, rfl, rfl, rfl, rfl⟩
  | _ => exact .refl s

theorem givesBack_releaseStream (w : Work) (s : State) : GivesBack s (releaseStream w s) := by
  cases w <;> exact .of_blocks rfl rfl ⟨rfl, rfl, rfl⟩ rfl rfl rfl rfl rfl

theorem givesBack_undoJob (j : Job) (s : State) : GivesBack s (undoJob j s) := by
  cases j with
  | station j => exact (givesBack_releaseWork j.work s).trans (givesBack_releaseStream j.work _)
  | _ => exact .refl s

theorem givesBack_placeReply (r : Result) (c : Byte) (body : List Byte) (q : Bool) (s : State) :
    GivesBack s (placeReply st r c body q s) := .of_blocks rfl rfl ⟨rfl, rfl, rfl⟩ rfl rfl rfl rfl rfl

theorem givesBack_endJob (r : Result) (body : List Byte) (s : State) : GivesBack s (endJob r body s) := by
  unfold endJob
  split
  · exact .refl s
  · split <;> exact .of_blocks rfl rfl ⟨rfl, rfl, rfl⟩ rfl rfl rfl rfl rfl

theorem givesBack_failJob (r : Result) (body : List Byte) (s : State) : GivesBack s (failJob r body s) := by
  unfold failJob
  split
  · exact (givesBack_releaseWork _ s).trans (givesBack_endJob r body _)
  · exact givesBack_endJob r body s

theorem givesBack_answerFault (j : Job) (s : State) : GivesBack s (answerFault s j) := by
  unfold answerFault
  split
  · exact (givesBack_placeReply _ _ _ _ s).trans (givesBack_undoJob j _)
  · exact givesBack_undoJob j s

theorem givesBack_answers (js : List Job) (s : State) : GivesBack s (js.foldl answerFault s) :=
  List.foldlRecOn (motive := fun t => GivesBack s t) js answerFault (.refl s)
    fun t h j _ => h.trans (givesBack_answerFault j t)

theorem givesBack_enterFault (s : State) : GivesBack s (enterFault s) :=
  GivesBack.trans (t := { s with queue := [], fault := true }) (.of_blocks rfl rfl ⟨rfl, rfl, rfl⟩ rfl rfl rfl rfl rfl)
    ((givesBack_answers s.queue _).trans (.of_blocks rfl rfl ⟨rfl, rfl, rfl⟩ rfl rfl rfl rfl rfl))

/-! ### The reservations of one request -/

/-- What a request reserved, it has given back on the way from `s` to `t`. -/
structure Freed (w : Work) (s t : State) : Prop where
  generated : ∀ p kind o, w = .keyGenerate p kind → s.keys.get p.slot = .reserved o → t.keys.get p.slot = .empty
  imported : ∀ p m o, w = .keyImport p m → s.keys.get p.slot = .reserved o → t.keys.get p.slot = .empty
  derived : ∀ parent fp d target usage mask label o, w = .keyDerive parent fp d target usage mask label →
    s.keys.get target = .reserved o → t.keys.get target = .empty
  credential : ∀ p g, w = .credSet p false g → s.creds.get p.id = .reserved → t.creds.get p.id = .empty
  hold : ∀ c, w = .bootConfirm c → HoldCleared s t

theorem freed_releaseWork (w : Work) (s : State) : Freed w s (releaseWork w s) where
  generated p kind o hw hk := by rw [hw]; exact freeSlot_reserved hk
  imported p m o hw hk := by rw [hw]; exact freeSlot_reserved hk
  derived parent fp d target usage mask label o hw hk := by rw [hw]; exact freeSlot_reserved hk
  credential p g hw hc := by rw [hw]; exact freeCred_reserved hc
  hold c hw := by rw [hw]; exact holdCleared_clearHold s

theorem GivesBack.empty_slot (h : GivesBack s t) {slot : Slot} (hk : s.keys.get slot = .empty) : t.keys.get slot = .empty :=
  (h.keys slot).elim (fun he => he.trans hk) And.right

theorem GivesBack.empty_cred (h : GivesBack s t) {id : CredId} (hc : s.creds.get id = .empty) : t.creds.get id = .empty :=
  (h.creds id).elim (fun he => he.trans hc) And.right

/-- A slot that is reserved on the way, or already EMPTY, is EMPTY behind it. -/
theorem Freed.after (h : Freed w t u) (hkeys : ∀ slot, t.keys.get slot = s.keys.get slot ∨ t.keys.get slot = .empty)
    (hcreds : ∀ id, t.creds.get id = s.creds.get id ∨ t.creds.get id = .empty) (hhold : HoldKept s t ∨ HoldCleared s t)
    (htu : GivesBack t u) : Freed w s u := by
  have hslot (slot : Slot) (o : Bool) (hk : s.keys.get slot = .reserved o)
      (hfreed : ∀ o, t.keys.get slot = .reserved o → u.keys.get slot = .empty) : u.keys.get slot = .empty :=
    (hkeys slot).elim (fun he => hfreed o (he.trans hk)) htu.empty_slot
  exact ⟨fun p kind o hw hk => hslot p.slot o hk fun o' => h.generated p kind o' hw,
    fun p m o hw hk => hslot p.slot o hk fun o' => h.imported p m o' hw,
    fun parent fp d target usage mask label o hw hk =>
      hslot target o hk fun o' => h.derived parent fp d target usage mask label o' hw,
    fun p g hw hc => (hcreds p.id).elim (fun he => h.credential p g hw (he.trans hc)) htu.empty_cred,
    fun c hw => hhold.elim (fun hk => .of_kept hk (h.hold c hw)) fun hc => hc.again (h.hold c hw)⟩

theorem Freed.between (h : Freed w t u) (hst : GivesBack s t) (htu : GivesBack t u) : Freed w s u :=
  h.after (fun slot => (hst.keys slot).imp_right And.right) (fun id => (hst.creds id).imp_right And.right) hst.hold htu

theorem Freed.later (h : Freed w s t) (htu : GivesBack t u) : Freed w s u where
  generated p kind o hw hk := htu.empty_slot (h.generated p kind o hw hk)
  imported p m o hw hk := htu.empty_slot (h.imported p m o hw hk)
  derived parent fp d target usage mask label o hw hk :=
    htu.empty_slot (h.derived parent fp d target usage mask label o hw hk)
  credential p g hw hc := htu.empty_cred (h.credential p g hw hc)
  hold c hw := htu.hold.elim (h.hold c hw).kept (h.hold c hw).again

theorem freed_failJob {r : Running} {q : Bool} (hr : s.running = some r) (hj : r.job = stationJob st q w) (res : Result) :
    Freed w s (failJob res [] s) := by
  have hfail : failJob res [] s = endJob res [] (releaseWork w s) := by
    obtain ⟨job, crossed, dropped, todo, data, outcomes⟩ := r
    cases hj
    simp only [failJob, hr]
  rw [hfail]
  exact (freed_releaseWork w s).later (givesBack_endJob res [] _)

theorem freed_answers {q : Bool} {js : List Job} (hj : stationJob st q w ∈ js) (s : State) :
    Freed w s (js.foldl answerFault s) := by
  obtain ⟨before, after, rfl⟩ := List.append_of_mem hj
  rw [List.foldl_append, List.foldl_cons]
  let x := before.foldl answerFault s
  have hanswer : Freed w x (answerFault x (stationJob st q w)) := by
    let y := placeReply st .faulted (stationJob st q w).code [] (stationJob st q w).quiet x
    have hy : GivesBack x y := givesBack_placeReply _ _ _ _ x
    exact Freed.between ((freed_releaseWork w y).later (givesBack_releaseStream w _)) hy
      ((givesBack_releaseWork w y).trans (givesBack_releaseStream w _))
  exact (hanswer.between (givesBack_answers before s) (givesBack_answerFault _ x)).later (givesBack_answers after _)

/-! ### The replies (R176, R177) -/

theorem stations_answerFault (j : Job) (s : State) (st : Station) :
    (answerFault s j).stations.get st = if j.holder = some st then
      { s.stations.get st with slot := some { result := .faulted, code := j.code, body := [], notice := !j.quiet } }
    else s.stations.get st := by
  unfold answerFault
  split
  · next x hx =>
    rw [(sameEngine_undoJob _ _).stations, hx]
    show (s.stations.set x _).get st = _
    by_cases hst : st = x
    · subst hst
      rw [Tbl.get_set_self, if_pos rfl]
    · rw [Tbl.get_set_ne _ _ hst, if_neg fun h => hst (Option.some.inj h).symm]
  · next hx =>
    rw [(sameEngine_undoJob _ _).stations, hx]
    rfl

theorem stations_answers_none {js : List Job} (h : ∀ j ∈ js, j.holder ≠ some st) (s : State) :
    (js.foldl answerFault s).stations.get st = s.stations.get st :=
  List.foldlRecOn (motive := fun t => t.stations.get st = s.stations.get st) js answerFault rfl
    fun t ht j hj => (stations_answerFault j t st).trans ((if_neg (h j hj)).trans ht)

/-- Of one waiting request alone in a list, the reply is placed. -/
theorem slot_answers {js : List Job} (hj : j ∈ js) (hh : j.holder = some st)
    (hone : js.countP (fun j => j.holder == some st) ≤ 1) (s : State) :
    ((js.foldl answerFault s).stations.get st).slot
      = some { result := .faulted, code := j.code, body := [], notice := !j.quiet } := by
  obtain ⟨before, after, rfl⟩ := List.append_of_mem hj
  have hnone : ∀ x ∈ after, x.holder ≠ some st := by
    intro x hx hhold
    have hpos : 0 < after.countP (fun j => j.holder == some st) :=
      List.countP_pos_iff.2 ⟨x, hx, beq_iff_eq.2 hhold⟩
    rw [List.countP_append, List.countP_cons, if_pos (beq_iff_eq.2 hh)] at hone
    omega
  rw [List.foldl_append, List.foldl_cons, stations_answers_none hnone, stations_answerFault, if_pos hh]

theorem engine_answers (js : List Job) (s : State) :
    (js.foldl answerFault s).queue = s.queue ∧ (js.foldl answerFault s).running = s.running
      ∧ (js.foldl answerFault s).fault = s.fault :=
  List.foldlRecOn (motive := fun t => t.queue = s.queue ∧ t.running = s.running ∧ t.fault = s.fault) js answerFault
    ⟨rfl, rfl, rfl⟩ fun t ⟨hq, hr, hf⟩ j _ => by
      have hfault : (answerFault t j).fault = t.fault := by
        unfold answerFault
        split <;> exact (sameEngine_undoJob _ _).fault
      exact ⟨(engine_answerFault j t).1.trans hq, (engine_answerFault j t).2.trans hr, hfault.trans hf⟩

/-- A running job that fails: the engine is free, and the reply goes to the station whose request it was. -/
theorem engine_failJob {r : Running} (hr : s.running = some r) (res : Result) :
    (failJob res [] s).queue = s.queue ∧ (failJob res [] s).running = none
      ∧ ∀ st, (failJob res [] s).stations.get st = if r.holder = some st then
          { s.stations.get st with slot := some { result := res, code := r.job.code, body := [], notice := !r.job.quiet } }
        else s.stations.get st := by
  obtain ⟨x, hx, hfail⟩ : ∃ x, SameEngine s x ∧ failJob res [] s = endJob res [] x := by
    unfold failJob
    split
    · exact ⟨_, sameEngine_releaseWork _ s, rfl⟩
    · exact ⟨s, ⟨rfl, rfl, rfl, rfl, rfl⟩, rfl⟩
  have hxr : x.running = some r := hx.running.trans hr
  rw [hfail]
  cases hh : r.holder with
  | none =>
    rw [endJob_none hxr hh]
    exact ⟨hx.queue, rfl, fun st => congrArg (Tbl.get · st) hx.stations⟩
  | some y =>
    rw [endJob_of hxr hh]
    refine ⟨hx.queue, rfl, fun st => ?_⟩
    show (x.stations.set y { x.stations.get y with slot := _ }).get st = _
    rw [hx.stations]
    by_cases hst : st = y
    · subst hst
      rw [Tbl.get_set_self, if_pos rfl]
    · rw [Tbl.get_set_ne _ _ hst, if_neg fun h => hst (Option.some.inj h).symm]

theorem conditions_undoJob (j : Job) (s : State) : (undoJob j s).conditions = s.conditions := by
  cases j with
  | station j =>
    have hwork (w : Work) : (releaseWork w s).conditions = s.conditions := by
      cases w with
      | credSet p change needs => cases change <;> rfl
      | _ => rfl
    have hstream (w : Work) (x : State) : (releaseStream w x).conditions = x.conditions := by cases w <;> rfl
    exact (hstream j.work _).trans (hwork j.work)
  | _ => rfl

theorem conditions_enterFault (s : State) : (enterFault s).conditions = s.conditions := by
  refine List.foldlRecOn (motive := fun t => t.conditions = s.conditions) s.queue answerFault
    (b := { s with queue := [], fault := true }) rfl fun t ht j _ => ?_
  refine Eq.trans ?_ ht
  unfold answerFault
  split <;> exact conditions_undoJob j _

/-! ### The step that fails (R26, R176) -/

/-- What a failed write leaves of the blocks: the erasures that stand, and what the sweep brings. -/
theorem lose_frame (write : JobStep) (s : State) :
    ∃ keys creds targets stream conditions partResets,
      write.lose s = { s with keys, creds, targets, stream, conditions, partResets }
        ∧ (∀ slot, keys.get slot = s.keys.get slot
            ∨ keys.get slot = .empty ∧ (write = .keyRemove slot ∨ write = .eraseKey slot))
        ∧ ∀ id, creds.get id = s.creds.get id ∨ creds.get id = .empty ∧ write = .eraseCred id := by
  have hsweep (slot x : Slot) (h : write = .keyRemove slot ∨ write = .eraseKey slot) :
      (s.keys.set slot .empty).get x = s.keys.get x
        ∨ (s.keys.set slot .empty).get x = .empty ∧ (write = .keyRemove x ∨ write = .eraseKey x) := by
    by_cases hx : x = slot
    · exact .inr ⟨hx ▸ Tbl.get_set_self _ _ _, hx ▸ h⟩
    · exact .inl (Tbl.get_set_ne _ _ hx)
  cases write with
  | keyRemove slot =>
    exact ⟨_, _, _, _, _, _, sweepKey_eq slot _, fun x => hsweep slot x (.inl rfl), fun _ => .inl rfl⟩
  | eraseKey slot =>
    exact ⟨_, _, _, _, _, _, sweepKey_eq slot _, fun x => hsweep slot x (.inr rfl), fun _ => .inl rfl⟩
  | eraseCred id =>
    refine ⟨_, s.creds.set id .empty, _, _, _, _, rfl, fun _ => .inl rfl, fun x => ?_⟩
    by_cases hx : x = id
    · exact .inr ⟨hx ▸ Tbl.get_set_self _ _ _, by rw [hx]⟩
    · exact .inl (Tbl.get_set_ne _ _ hx)
  | _ => exact ⟨_, _, _, _, _, _, rfl, fun _ => .inl rfl, fun _ => .inl rfl⟩

/-- The write under way fails: the job fails, NV_WRITE_FAILED is raised, and the part enters FAULT mode. -/
theorem exec_storeWriteFailed {r : Running} {write : JobStep} {rest : List JobStep} {landed : Bool} (hp : s.power = .on)
    (hr : s.running = some r) (ht : r.todo = write :: rest) (hw : write.writes s = true) :
    exec (.storeWriteFailed landed) s
      = .next (recomputeAttn (enterFault (raiseCond .nvWriteFailed (failJob .nvFailed [] (write.fail landed s))))) := by
  have hunder : underWay s = some write := by
    obtain ⟨job, crossed, dropped, todo, data, outcomes⟩ := r
    cases ht
    simp only [underWay, hr, hw, if_true]
  refine (whenOn_on hp).trans ?_
  simp only [writeFails, hunder]

/-- Settles O45: the last write as it lands and leaves the job; a failed one, by what each job gives back. -/
theorem storeWritesCompleteOrFail : Obligations.StoreWritesCompleteOrFail := by
  refine ⟨fun r s hp hr => ?completes, fun landed r write rest s hp hlaw hr ht hw => ?fails⟩
  case completes =>
    intro done
    have hlast {write : JobStep} {store : Store} {t : State} (ht : r.todo = [write]) (hw : write.writes s = true)
        (hf : write.follow s = []) (hland : write.land s = store) (hact : write.act s = t) (hrun : t.running = s.running) :
        done store t := by
      refine (lastWrite_completes hp hr ht hw hf).trans ?_
      rw [hland, hact]
      simp only [setTodo, hrun, hr, Option.map_some]
    refine ⟨fun ht => ?_, fun slot k ht hd => ?_, fun slot ht => hlast ht rfl rfl rfl rfl rfl, fun id c g ht hd hg => ?_,
      fun id c ht hd hno => ?_, fun id ht => hlast ht rfl rfl rfl rfl rfl, fun v ht hd => ?_⟩
    · obtain ⟨job, crossed, dropped, todo, data, outcomes⟩ := r
      cases ht
      have hidle : writeCompletes s = s := by simp only [writeCompletes, hr]
      exact (whenOn_on hp).trans (by rw [hidle])
    · have hk : runningKey s = some k := by simp only [runningKey, hr, hd]
      exact hlast ht (by simp only [JobStep.writes, hk]; rfl) rfl (by simp only [JobStep.land, hk]) rfl rfl
    · have hc : runningContents s = some c := by simp only [runningContents, hr, hd]
      exact hlast ht (by simp only [JobStep.writes, hc]; rfl) rfl
        (by simp only [JobStep.land, hc, heldCred?_eq_some.2 hg, storeCred]) rfl rfl
    · have hc : runningContents s = some c := by simp only [runningContents, hr, hd]
      exact hlast ht (by simp only [JobStep.writes, hc]; rfl) rfl
        (by simp only [JobStep.land, hc, heldCred?_of_not_held hno, storeCred]) rfl rfl
    · have hv : runningSettings s = some v := by simp only [runningSettings, hr, hd]
      exact hlast ht (by simp only [JobStep.writes, hv]; rfl) rfl (by simp only [JobStep.land, hv]; rfl)
        (by simp only [JobStep.act, hv]) rfl
  case fails =>
    obtain ⟨keys, creds, targets, stream, conditions, partResets, hlose, hkeys, hcreds⟩ := lose_frame write s
    let f : State := write.fail landed s
    obtain ⟨store, hf, hstore⟩ : ∃ store,
        f = { s with keys, creds, targets, stream, conditions, partResets, store } ∧ (store = s.store ∨ store = write.land s) := by
      refine ⟨if landed && write.mayLand then write.land s else s.store, by simp only [f, JobStep.fail, hlose], ?_⟩
      split
      · exact .inr rfl
      · exact .inl rfl
    have hfr : f.running = some r := by rw [hf]; exact hr
    obtain ⟨hgq, hgr, hgst⟩ := engine_failJob hfr .nvFailed
    let g : State := failJob .nvFailed [] f
    let h : State := raiseCond .nvWriteFailed g
    have hfg : GivesBack f g := givesBack_failJob .nvFailed [] f
    have hgt : GivesBack g (recomputeAttn (enterFault h)) :=
      GivesBack.trans (t := h) (.of_blocks rfl rfl ⟨rfl, rfl, rfl⟩ rfl rfl rfl rfl rfl)
        ((givesBack_enterFault h).trans (.of_blocks rfl rfl ⟨rfl, rfl, rfl⟩ rfl rfl rfl rfl rfl))
    have hexec : exec (.storeWriteFailed landed) s = .next (recomputeAttn (enterFault h)) :=
      exec_storeWriteFailed hp hr ht hw
    obtain ⟨hq, hrun, hfault⟩ := engine_answers h.queue { h with queue := [], fault := true }
    have hqueue : h.queue = s.queue := hgq.trans (by rw [hf])
    have hstations (st : Station) : f.stations.get st = s.stations.get st := by rw [hf]
    have hft : GivesBack f (recomputeAttn (enterFault h)) := hfg.trans hgt
    have hfkeys (slot : Slot) : f.keys.get slot = s.keys.get slot ∨ f.keys.get slot = .empty := by
      rw [hf]
      exact (hkeys slot).imp_right And.left
    have hfcreds (id : CredId) : f.creds.get id = s.creds.get id ∨ f.creds.get id = .empty := by
      rw [hf]
      exact (hcreds id).imp_right And.left
    have hfhold : HoldKept s f := by rw [hf]; exact ⟨rfl, rfl, rfl⟩
    have hnone (st : Station) (hst : r.holder = some st) : ∀ j ∈ h.queue, j.holder ≠ some st := by
      intro j hj hhold
      have hpos : 0 < s.queue.countP (fun j => j.holder == some st) :=
        List.countP_pos_iff.2 ⟨j, hqueue ▸ hj, beq_iff_eq.2 hhold⟩
      have hone := hlaw.1 st
      rw [hr, Option.bind_some, if_pos hst] at hone
      omega
    have hfreed (st : Station) (q : Bool) (w : Work) (hin : stationJob st q w ∈ s.queue ∨ r.job = stationJob st q w) :
        Freed w s (recomputeAttn (enterFault h)) := by
      refine Freed.after ?_ hfkeys hfcreds (.inl hfhold) hft
      rcases hin with hin | hjob
      · let x : State := { h with queue := [], fault := true }
        have hanswers := freed_answers (hqueue ▸ hin : stationJob st q w ∈ h.queue) x
        have hdone : GivesBack (h.queue.foldl answerFault x) (recomputeAttn (enterFault h)) :=
          .of_blocks rfl rfl ⟨rfl, rfl, rfl⟩ rfl rfl rfl rfl rfl
        exact (hanswers.later hdone).between (hfg.trans (.of_blocks rfl rfl ⟨rfl, rfl, rfl⟩ rfl rfl rfl rfl rfl))
          ((givesBack_answers h.queue x).trans hdone)
      · exact (freed_failJob hfr hjob .nvFailed).later hgt
    refine ⟨_, hexec, hfault, hq, hrun.trans hgr, rfl, ?_, ?_, fun st hst => ?_, fun st j hj hhold => ?_, fun st hidle => ?_,
      fun st q w hin => ?_, fun slot k hk h1 h2 => ?_, fun id c hc hne => ?_, ?_, ?_, ?_, ?_⟩
    · refine (congrArg (Tbl.get · 9) (conditions_enterFault h)).trans ((Tbl.get_set_self _ _ _).trans (congrArg some ?_))
      exact hfg.uptime.trans (by rw [hf])
    · rw [hft.store, hf]
      exact hstore
    · refine (congrArg StationRec.slot (stations_answers_none (hnone st hst) _)).trans ?_
      exact (congrArg StationRec.slot (hgst st)).trans (by rw [if_pos hst])
    · refine slot_answers (hqueue ▸ hj) hhold ?_ _
      rw [hqueue]
      exact (Nat.le_add_right _ _).trans (hlaw.1 st)
    · obtain ⟨hrunning, hwaiting⟩ := (requestState_idle_iff st s).1 hidle
      rw [hr, Option.bind_some] at hrunning
      exact (stations_answers_none (hqueue ▸ hwaiting) _).trans ((hgst st).trans ((if_neg hrunning).trans (hstations st)))
    · obtain ⟨h1, h2, h3, h4, h5⟩ := hfreed st q w hin
      refine ⟨h1, h2, h3, h4, fun c hc => ?_⟩
      obtain ⟨hhold, htimer, htime⟩ := h5 c hc
      refine ⟨hhold, htimer.trans ?_, (congrArg TimeBase.pulse htime).trans ?_⟩
      · cases s.timer with
        | running d late => cases late <;> rfl
        | stopped | expired => rfl
      · cases s.timer with
        | running d late =>
          cases late
          · rfl
          · show s.time.pulse.request = _
            cases s.time.pulse <;> rfl
        | stopped | expired => rfl
    · refine hft.active ((?_ : f.keys.get slot = s.keys.get slot).trans hk)
      rw [hf]
      exact (hkeys slot).resolve_right fun h => h.2.elim h1 h2
    · refine hft.held ((?_ : f.creds.get id = s.creds.get id).trans hc)
      rw [hf]
      exact (hcreds id).resolve_right fun h => hne h.2
    · exact hft.chains.trans (by rw [hf])
    · exact hft.log.trans (by rw [hf])
    · exact hft.classes.trans (by rw [hf])
    · exact hft.revoked.trans (by rw [hf])

end Sys2Proof.Machine
end

section
/-! PROOFS. The owner reset, as a job and in start-up (O44). -/

namespace Sys2Proof.Machine

open Sys2Proof

variable {s t u : State} {st : Station}

/-! ### The numbers of credentials and key slots erased (R197) -/

/-- The numbers of an owner reset's data, raised. -/
def JobData.plus (creds keys : Nat) : JobData → JobData
  | .erased c k => .erased (c + creds) (k + keys)
  | d => d

theorem countErased_eq (a b : Nat) (s : State) :
    countErased a b s = { s with running := s.running.map fun r => { r with data := r.data.plus a b } } := by
  unfold countErased
  refine congrArg (fun running => { s with running }) (congrArg (fun f => s.running.map f) (funext fun r => ?_))
  cases r.data <;> rfl

theorem JobData.plus_plus (a b c d : Nat) (x : JobData) : (x.plus c d).plus a b = x.plus (c + a) (d + b) := by
  cases x <;> simp only [JobData.plus, Nat.add_assoc]

theorem JobData.plus_zero (x : JobData) : x.plus 0 0 = x := by cases x <;> rfl

theorem countErased_countErased (a b c d : Nat) (s : State) :
    countErased a b (countErased c d s) = countErased (c + a) (d + b) s := by
  simp only [countErased_eq, Option.map_map, Function.comp_def, JobData.plus_plus]

theorem countErased_zero (s : State) : countErased 0 0 s = s := by
  simp only [countErased_eq, JobData.plus_zero, Option.map_id']

/-! ### Erasing the credentials (R136, R199) -/

/-- The SET credentials of a set of ids erased, in working state and in the store. -/
def erasedCreds (gone : CredId → Bool) (s : State) : State :=
  { s with
    creds := .ofFn fun id => if gone id && (heldCred? id s).isSome then .empty else s.creds.get id
    store := { s.store with
      creds := .ofFn fun id => if gone id && (heldCred? id s).isSome then none else s.store.creds.get id } }

theorem erasedCreds_none {gone : CredId → Bool} (h : ∀ id, (gone id && (heldCred? id s).isSome) = false) :
    erasedCreds gone s = s := by
  have hcreds : (Tbl.ofFn fun id => if gone id && (heldCred? id s).isSome then .empty else s.creds.get id) = s.creds :=
    Tbl.ext_get fun id => by rw [Tbl.get_ofFn, h]; rfl
  have hstore : (Tbl.ofFn fun id => if gone id && (heldCred? id s).isSome then none else s.store.creds.get id) = s.store.creds :=
    Tbl.ext_get fun id => by rw [Tbl.get_ofFn, h]; rfl
  simp only [erasedCreds, hcreds, hstore]

theorem erasedCreds_get (gone : CredId → Bool) (s : State) (id : CredId) :
    (erasedCreds gone s).creds.get id = (if gone id && (heldCred? id s).isSome then .empty else s.creds.get id)
      ∧ (erasedCreds gone s).store.creds.get id
        = if gone id && (heldCred? id s).isSome then none else s.store.creds.get id :=
  ⟨Tbl.get_ofFn _ _, Tbl.get_ofFn _ _⟩

theorem heldCred?_erasedCreds (gone : CredId → Bool) (s : State) (id : CredId) :
    heldCred? id (erasedCreds gone s) = if gone id then none else heldCred? id s := by
  cases hc : s.creds.get id <;> cases hg : gone id <;> simp [heldCred?, erasedCreds_get, hc, hg]

theorem erasedCreds_erasedCreds (f g : CredId → Bool) (s : State) :
    erasedCreds g (erasedCreds f s) = erasedCreds (fun id => f id || g id) s := by
  have hget (id : CredId) :
      (erasedCreds g (erasedCreds f s)).creds.get id = (erasedCreds (fun id => f id || g id) s).creds.get id
        ∧ (erasedCreds g (erasedCreds f s)).store.creds.get id
          = (erasedCreds (fun id => f id || g id) s).store.creds.get id := by
    simp only [erasedCreds_get, heldCred?_erasedCreds]
    cases hf : f id <;> cases hg : g id <;> simp
  calc erasedCreds g (erasedCreds f s)
      = { s with creds := (erasedCreds g (erasedCreds f s)).creds
                 store := { s.store with creds := (erasedCreds g (erasedCreds f s)).store.creds } } := rfl
    _ = erasedCreds (fun id => f id || g id) s := by
      rw [Tbl.ext_get fun id => (hget id).1, Tbl.ext_get fun id => (hget id).2]
      rfl

theorem finish_eraseCred (id : CredId) (s : State) :
    (JobStep.eraseCred id).finish s
      = countErased (if (heldCred? id s).isSome then 1 else 0) 0 (erasedCreds (fun x => x == id) s) := by
  cases hh : heldCred? id s with
  | none =>
    have hnone (x : CredId) : ((x == id) && (heldCred? x s).isSome) = false := by
      by_cases hx : x = id
      · rw [hx, hh]
        exact Bool.and_false _
      · rw [beq_false_of_ne hx, Bool.false_and]
    rw [erasedCreds_none hnone, finish_free (by simp [JobStep.writes, hh]) rfl]
    simp only [JobStep.act, hh]
    exact (countErased_zero s).symm
  | some r =>
    have hw : (JobStep.eraseCred id).writes s = true := by simp [JobStep.writes, hh]
    have hset {α : Type} (old : Tbl α 16) (a : α) :
        old.set id a = .ofFn fun x => if (x == id) && (heldCred? x s).isSome then a else old.get x :=
      Tbl.ext_get fun x => by
        rw [Tbl.get_set, Tbl.get_ofFn]
        by_cases hx : x = id
        · rw [if_pos hx, hx, hh]
          simp
        · rw [if_neg hx, beq_false_of_ne hx]
          rfl
    refine (complete_write hw).trans ?_
    simp only [JobStep.act, JobStep.land, hh, setCred, erasedCreds, hset]
    rfl

theorem finishAll_eraseCreds : ∀ (ids : List CredId) (s : State), ids.Nodup →
    finishAll (ids.map .eraseCred) s
      = countErased (ids.countP fun id => (heldCred? id s).isSome) 0 (erasedCreds (fun id => decide (id ∈ ids)) s)
  | [], s, _ => by
    rw [erasedCreds_none fun id => by simp]
    exact (countErased_zero s).symm
  | id :: ids, s, h => by
    obtain ⟨hid, hids⟩ := List.nodup_cons.1 h
    have hheld (n : Nat) (x : CredId) (hx : x ∈ ids) :
        (heldCred? x (countErased n 0 (erasedCreds (fun y => y == id) s))).isSome = (heldCred? x s).isSome := by
      have hne : x ≠ id := fun he => hid (he ▸ hx)
      refine (congrArg Option.isSome (heldCred?_erasedCreds _ s x)).trans ?_
      rw [beq_false_of_ne hne]
      rfl
    have hcount (n : Nat) : (ids.countP fun x => (heldCred? x (countErased n 0 (erasedCreds (fun y => y == id) s))).isSome)
        = ids.countP fun x => (heldCred? x s).isSome := List.countP_congr fun x hx => by rw [hheld n x hx]
    rw [List.map_cons, finishAll_cons, finish_eraseCred, finishAll_eraseCreds ids _ hids, hcount]
    have hcommute (a b : Nat) (gone : CredId → Bool) (x : State) :
        erasedCreds gone (countErased a b x) = countErased a b (erasedCreds gone x) := rfl
    have hgone : (fun x => (x == id) || decide (x ∈ ids)) = fun x => decide (x ∈ id :: ids) :=
      funext fun x => by by_cases hx : x = id <;> simp [hx]
    rw [hcommute, countErased_countErased, erasedCreds_erasedCreds, hgone, List.countP_cons, Nat.add_comm]

/-! ### Erasing the owner-held keys (R30, R199) -/

/-- What the sweep for a set of slots leaves of a stream. -/
def Stream.afterSlots (gone : Slot → Bool) (x : Stream) : Stream :=
  match x with
  | .receiving m limit n _ _ => if gone m.signer then .failed m.raw limit n .revoked else x
  | .absorbing m limit n _ => if gone m.signer then .failed m.raw limit n .revoked else x
  | .verified m limit n => if gone m.signer then .failed m.raw limit n .revoked else x
  | other => other

theorem Stream.afterSlots_one (slot : Slot) (x : Stream) : x.afterSlots (fun y => y == slot) = x.afterSlot slot := by
  cases x <;> simp only [Stream.afterSlots, Stream.afterSlot, beq_iff_eq]

theorem Stream.afterSlots_none {gone : Slot → Bool} (h : ∀ slot, gone slot = false) (x : Stream) :
    x.afterSlots gone = x := by
  cases x <;> simp [Stream.afterSlots, h]

/-- A stream that one sweep has failed the next one leaves. -/
theorem Stream.afterSlots_afterSlots (f g : Slot → Bool) (x : Stream) :
    (x.afterSlots f).afterSlots g = x.afterSlots (fun slot => f slot || g slot)
      ∧ (x.afterSlots f ≠ x → (x.afterSlots f).afterSlots g = x.afterSlots f) := by
  cases x with
  | receiving m | absorbing m | verified m =>
    cases hf : f m.signer <;> cases hg : g m.signer <;> simp [Stream.afterSlots, hf, hg]
  | _ => exact ⟨rfl, fun _ => rfl⟩

/-- Two sweeps of the stream raise UPDATE_REJECTED once. -/
theorem sweptConditions_sweptConditions {x y : Stream} (h : x ≠ s.stream → y = x) :
    sweptConditions y { s with stream := x, conditions := sweptConditions x s } = sweptConditions y s := by
  by_cases hx : x = s.stream
  · subst hx
    rw [sweptConditions_same]
  · rw [h hx]
    exact sweptConditions_same (s := { s with stream := x, conditions := sweptConditions x s })

/-- The slots of a set emptied, with the records of PERSISTENT keys, and swept. -/
def erasedKeys (gone : Slot → Bool) (s : State) : State :=
  { s with
    keys := .ofFn fun x => if gone x then .empty else s.keys.get x
    store := { s.store with
      keys := .ofFn fun x => if gone x && ownerHeldIn x .persistent s then none else s.store.keys.get x }
    targets := s.targets.map fun t => t.filter fun t => !gone t.signer
    stream := s.stream.afterSlots gone
    conditions := sweptConditions (s.stream.afterSlots gone) s }

/-- The slot holds an owner-held key. -/
def owned (s : State) (slot : Slot) : Bool := ownerHeldIn slot .persistent s || ownerHeldIn slot .epoch s

theorem erasedKeys_none {gone : Slot → Bool} (h : ∀ slot, gone slot = false) : erasedKeys gone s = s := by
  have hkeys : (Tbl.ofFn fun x => if gone x then .empty else s.keys.get x) = s.keys :=
    Tbl.ext_get fun x => by rw [Tbl.get_ofFn, h]; rfl
  have hstore : (Tbl.ofFn fun x => if gone x && ownerHeldIn x .persistent s then none else s.store.keys.get x) = s.store.keys :=
    Tbl.ext_get fun x => by rw [Tbl.get_ofFn, h]; rfl
  have htargets : (s.targets.map fun t => t.filter fun t => !gone t.signer) = s.targets :=
    Tbl.ext_get fun i => by
      rw [Tbl.get_map]
      cases s.targets.get i <;> simp [Option.filter, h]
  simp only [erasedKeys, hkeys, hstore, htargets, Stream.afterSlots_none h, sweptConditions_same]

theorem ownerHeldIn_erasedKeys (gone : Slot → Bool) (p : Persistence) (s : State) (slot : Slot) :
    ownerHeldIn slot p (erasedKeys gone s) = (!gone slot && ownerHeldIn slot p s) := by
  have hget : (erasedKeys gone s).keys.get slot = if gone slot then .empty else s.keys.get slot := Tbl.get_ofFn _ _
  simp only [ownerHeldIn, hget]
  cases gone slot <;> rfl

theorem erasedKeys_erasedKeys (f g : Slot → Bool) (s : State) :
    erasedKeys g (erasedKeys f s) = erasedKeys (fun slot => f slot || g slot) s := by
  obtain ⟨hstream, hsame⟩ := Stream.afterSlots_afterSlots f g s.stream
  have hkeys : (Tbl.ofFn fun x => if g x then .empty else (erasedKeys f s).keys.get x)
      = .ofFn fun x => if f x || g x then .empty else s.keys.get x := Tbl.ext_get fun x => by
    simp only [erasedKeys, Tbl.get_ofFn]
    cases f x <;> cases g x <;> rfl
  have hstore : (Tbl.ofFn fun x =>
        if g x && ownerHeldIn x .persistent (erasedKeys f s) then none else (erasedKeys f s).store.keys.get x)
      = .ofFn fun x => if (f x || g x) && ownerHeldIn x .persistent s then none else s.store.keys.get x :=
    Tbl.ext_get fun x => by
      have hget : (erasedKeys f s).store.keys.get x
          = if f x && ownerHeldIn x .persistent s then none else s.store.keys.get x := Tbl.get_ofFn _ _
      rw [Tbl.get_ofFn, Tbl.get_ofFn, hget, ownerHeldIn_erasedKeys]
      cases f x <;> cases g x <;> simp
  have htargets : ((erasedKeys f s).targets.map fun t => t.filter fun t => !g t.signer)
      = s.targets.map fun t => t.filter fun t => !(f t.signer || g t.signer) := Tbl.ext_get fun i => by
    simp only [erasedKeys, Tbl.get_map, Option.filter_filter, Bool.not_or]
  have hconditions : sweptConditions ((s.stream.afterSlots f).afterSlots g) (erasedKeys f s)
      = sweptConditions ((s.stream.afterSlots f).afterSlots g) s :=
    sweptConditions_sweptConditions (s := s) hsame
  calc erasedKeys g (erasedKeys f s)
      = { s with
          keys := .ofFn fun x => if g x then .empty else (erasedKeys f s).keys.get x
          store := { s.store with
            keys := .ofFn fun x =>
              if g x && ownerHeldIn x .persistent (erasedKeys f s) then none else (erasedKeys f s).store.keys.get x }
          targets := (erasedKeys f s).targets.map fun t => t.filter fun t => !g t.signer
          stream := (s.stream.afterSlots f).afterSlots g
          conditions := sweptConditions ((s.stream.afterSlots f).afterSlots g) (erasedKeys f s) } := rfl
    _ = erasedKeys (fun slot => f slot || g slot) s := by rw [hkeys, hstore, htargets, hconditions, hstream]; rfl

theorem finish_eraseKey (slot : Slot) (s : State) :
    (JobStep.eraseKey slot).finish s
      = countErased 0 (if owned s slot then 1 else 0) (erasedKeys (fun x => x == slot && owned s x) s) := by
  cases ho : owned s slot with
  | false =>
    have hnone (x : Slot) : (x == slot && owned s x) = false := by
      by_cases hx : x = slot
      · rw [hx, ho]
        exact Bool.and_false _
      · rw [beq_false_of_ne hx, Bool.false_and]
    have hp : ownerHeldIn slot .persistent s = false := (Bool.or_eq_false_iff.1 ho).1
    have hact : (JobStep.eraseKey slot).act s = s := if_neg fun h => Bool.false_ne_true (ho.symm.trans h)
    rw [erasedKeys_none hnone, finish_free (x := .eraseKey slot) hp rfl, hact]
    exact (countErased_zero s).symm
  | true =>
    have hgone : (fun x => x == slot && owned s x) = fun x => x == slot := funext fun x => by
      by_cases hx : x = slot
      · rw [hx, ho, Bool.and_true]
      · rw [beq_false_of_ne hx, Bool.false_and]
    have hkeys : s.keys.set slot .empty = .ofFn fun x => if x == slot then .empty else s.keys.get x :=
      Tbl.ext_get fun x => by simp only [Tbl.get_set, Tbl.get_ofFn, beq_iff_eq]
    have hact : (JobStep.eraseKey slot).act s = countErased 0 1 (eraseAndSweep slot s) := if_pos ho
    have hstore : (if ownerHeldIn slot .persistent s then { s.store with keys := s.store.keys.set slot none } else s.store)
        = { s.store with keys := .ofFn fun x =>
            if x == slot && ownerHeldIn x .persistent s then none else s.store.keys.get x } := by
      cases hp : ownerHeldIn slot .persistent s with
      | true =>
        refine congrArg (fun keys => { s.store with keys }) (Tbl.ext_get fun x => ?_)
        rw [Tbl.get_set, Tbl.get_ofFn]
        by_cases hx : x = slot
        · rw [if_pos hx, hx, hp, beq_self_eq_true]
          rfl
        · rw [if_neg hx, beq_false_of_ne hx]
          rfl
      | false =>
        refine congrArg (fun keys => { s.store with keys }) (Tbl.ext_get fun x => ?_)
        rw [Tbl.get_ofFn]
        by_cases hx : x = slot
        · rw [hx, hp, Bool.and_false]
          rfl
        · rw [beq_false_of_ne hx]
          rfl
    have hfinish : (JobStep.eraseKey slot).finish s = { (JobStep.eraseKey slot).act s with
        store := if ownerHeldIn slot .persistent s then { s.store with keys := s.store.keys.set slot none } else s.store } :=
      rfl
    rw [hgone, hfinish, hact, hstore, eraseAndSweep, sweepKey_eq, if_pos rfl]
    simp only [erasedKeys, Stream.afterSlots_one, setKey, hkeys]
    rfl

theorem finishAll_eraseKeys : ∀ (slots : List Slot) (s : State), slots.Nodup →
    finishAll (slots.map .eraseKey) s
      = countErased 0 (slots.countP (owned s)) (erasedKeys (fun x => decide (x ∈ slots) && owned s x) s)
  | [], s, _ => by
    rw [erasedKeys_none fun x => by simp]
    exact (countErased_zero s).symm
  | slot :: slots, s, h => by
    obtain ⟨hslot, hslots⟩ := List.nodup_cons.1 h
    let n := if owned s slot then 1 else 0
    have howned (x : Slot) (hx : x ∈ slots) :
        owned (countErased 0 n (erasedKeys (fun y => y == slot && owned s y) s)) x = owned s x := by
      have hne : x ≠ slot := fun he => hslot (he ▸ hx)
      have hheld (p : Persistence) :
          ownerHeldIn x p (countErased 0 n (erasedKeys (fun y => y == slot && owned s y) s)) = ownerHeldIn x p s :=
        (ownerHeldIn_erasedKeys _ p s x).trans (by rw [beq_false_of_ne hne]; rfl)
      exact congrArg₂ or (hheld .persistent) (hheld .epoch)
    have hcount : slots.countP (owned (countErased 0 n (erasedKeys (fun y => y == slot && owned s y) s)))
        = slots.countP (owned s) := List.countP_congr fun x hx => by rw [howned x hx]
    have hgone : (fun x => decide (x ∈ slots) && owned (countErased 0 n (erasedKeys (fun y => y == slot && owned s y) s)) x)
        = fun x => decide (x ∈ slots) && owned s x := funext fun x => by
      by_cases hx : x ∈ slots
      · rw [howned x hx]
      · simp [hx]
    have hboth : (fun x => (x == slot && owned s x) || (decide (x ∈ slots) && owned s x))
        = fun x => decide (x ∈ slot :: slots) && owned s x := funext fun x => by
      by_cases hx : x = slot <;> simp [hx]
    have hcommute (a b : Nat) (gone : Slot → Bool) (x : State) :
        erasedKeys gone (countErased a b x) = countErased a b (erasedKeys gone x) := rfl
    rw [List.map_cons, finishAll_cons, finish_eraseKey, finishAll_eraseKeys slots _ hslots, hcount, hgone, hcommute,
      countErased_countErased, erasedKeys_erasedKeys, hboth, List.countP_cons, Nat.add_comm (slots.countP _)]

/-! ### The whole of an owner reset's erasures (R199) -/

/-- The marker of an owner reset. -/
abbrev ownerMarker : Marker := { kind := .ownerReset, cls := 0, version := 0 }

/-- What the erasures of an owner reset leave, the numbers in its data apart. -/
def ownerErased (withBase : Bool) (s : State) : State :=
  let x := erasedKeys (owned s) (erasedCreds (fun _ => true) s)
  { x with
    settings := { Settings.default with
      addressBase := if withBase then Settings.default.addressBase else s.settings.addressBase }
    store := { x.store with settings := .default, resetMark := false }
    chains := (partExtend ownerMarker s).chains
    log := (partExtend ownerMarker s).log
    conditions := (extendedConditions { s with conditions := x.conditions }).set 8 (some s.time.uptime) }

/-- An extension by the part depends on the chains, the log and the time alone. -/
theorem partExtend_congr (m : Marker) (hc : t.chains = s.chains) (hl : t.log = s.log) (ht : t.time = s.time) :
    (partExtend m t).chains = (partExtend m s).chains ∧ (partExtend m t).log = (partExtend m s).log := by
  simp only [partExtend, extendChain, raiseIf, logRoom, hc, hl, ht, true_and]
  rfl

theorem finishAll_eraseTail (withBase : Bool) (s : State) :
    finishAll [.defaultSettings withBase, .markRemove, .marker ownerMarker, .raise .ownerResetDone] s
      = { s with
          settings := { Settings.default with
            addressBase := if withBase then Settings.default.addressBase else s.settings.addressBase }
          store := { s.store with settings := .default, resetMark := false }
          chains := (partExtend ownerMarker s).chains
          log := (partExtend ownerMarker s).log
          conditions := (extendedConditions s).set 8 (some s.time.uptime) } := by
  let settings : Settings := { Settings.default with
    addressBase := if withBase then Settings.default.addressBase else s.settings.addressBase }
  let written : State := { s with settings, store := { s.store with settings := .default, resetMark := false } }
  have hwritten : JobStep.markRemove.finish ((JobStep.defaultSettings withBase).finish s) = written := rfl
  obtain ⟨hchains, hlog⟩ := partExtend_congr (s := s) (t := written) ownerMarker rfl rfl rfl
  rw [finishAll_cons, finishAll_cons, hwritten, finishAll_cons, finish_marker, hchains, hlog, finishAll_cons,
    finish_free rfl rfl]
  rfl

theorem finishAll_eraseSteps (withBase : Bool) (s : State) :
    finishAll (eraseSteps withBase) s
      = countErased ((List.finRange 16).countP fun id => (heldCred? id s).isSome) ((List.finRange 64).countP (owned s))
          (ownerErased withBase s) := by
  have hall {n : Nat} (f : Fin n → Bool) : (fun x => decide (x ∈ List.finRange n) && f x) = f :=
    funext fun x => by simp
  have hids : (fun id : CredId => decide (id ∈ List.finRange 16)) = fun _ => true := funext fun x => by simp
  rw [eraseSteps, finishAll_append, finishAll_append, finishAll_eraseCreds _ _ (List.nodup_finRange 16),
    finishAll_eraseKeys _ _ (List.nodup_finRange 64), hids, hall, finishAll_eraseTail]
  let n := (List.finRange 16).countP fun id => (heldCred? id s).isSome
  let m := (List.finRange 64).countP (owned s)
  let x := erasedKeys (owned s) (erasedCreds (fun _ => true) s)
  have hx : countErased 0 m (erasedKeys (owned s) (countErased n 0 (erasedCreds (fun _ => true) s)))
      = countErased n m x := by
    refine (countErased_countErased 0 m n 0 x).trans ?_
    rw [Nat.zero_add, Nat.add_zero]
  have howned : owned (countErased n 0 (erasedCreds (fun _ => true) s)) = owned s := rfl
  obtain ⟨hchains, hlog⟩ := partExtend_congr (s := s) (t := countErased n m x) ownerMarker rfl rfl rfl
  rw [howned, hx, hchains, hlog]
  simp only [countErased_eq, ownerErased, x]
  rfl

/-! ### What is left behind an owner reset -/

section Erased

variable (b : Bool) (s : State)

theorem owned_iff {slot : Slot} : owned s slot = true ↔ ∃ k, s.keys.get slot = .active k ∧ k.ownerHeld = true := by
  simp only [owned, ownerHeldIn]
  cases s.keys.get slot with
  | active k =>
    obtain ⟨material, origin, persistence, usage, mask, binding, ownerHeld, fingerprint, label⟩ := k
    cases ownerHeld <;> cases persistence <;> simp
  | _ => simp

theorem ownerErased_creds (id : CredId) :
    (ownerErased b s).creds.get id = (if (heldCred? id s).isSome then .empty else s.creds.get id)
      ∧ (ownerErased b s).store.creds.get id = if (heldCred? id s).isSome then none else s.store.creds.get id :=
  erasedCreds_get (fun _ => true) s id

theorem ownerErased_keys (slot : Slot) :
    (ownerErased b s).keys.get slot = (if owned s slot then .empty else s.keys.get slot)
      ∧ (ownerErased b s).store.keys.get slot
        = if owned s slot && ownerHeldIn slot .persistent s then none else s.store.keys.get slot :=
  ⟨Tbl.get_ofFn _ _, Tbl.get_ofFn _ _⟩

theorem ownerErased_targets (i : TargetNo) :
    (ownerErased b s).targets.get i = (s.targets.get i).filter fun t => !owned s t.signer := Tbl.get_map _ _ _

theorem ownerErased_chains : PartExtended 11 [4, 0, 0, 0] s (ownerErased b s) := by
  have hbytes : markerBytes ownerMarker = [4, 0, 0, 0] := by decide
  exact hbytes ▸ partExtended_partExtend ownerMarker s

theorem ownerErased_conditions (k : Fin 11) :
    (ownerErased b s).conditions.get k
      = if k = 8 ∨ k = 2 ∧ s.stream.afterSlots (owned s) ≠ s.stream ∨ k = 1 ∧ 128 ≤ s.log.length then
          some s.time.uptime
        else s.conditions.get k := by
  have hget : (ownerErased b s).conditions.get k
      = if k = 8 then some s.time.uptime
        else if k = 1 ∧ 128 ≤ s.log.length then some s.time.uptime
        else if k = 2 ∧ s.stream.afterSlots (owned s) ≠ s.stream then some s.time.uptime else s.conditions.get k := by
    refine (Tbl.get_set _ _ _ _).trans (ite_congr rfl (fun _ => rfl) fun _ => (extendedConditions_get _ _).trans ?_)
    exact ite_congr rfl (fun _ => rfl) fun _ => sweptConditions_get _ _ _
  rw [hget]
  by_cases h8 : k = 8
  · simp only [h8, if_true, true_or]
  · by_cases h1 : k = 1 ∧ 128 ≤ s.log.length
    · rw [if_neg h8, if_pos h1, if_pos (.inr (.inr h1))]
    · by_cases h2 : k = 2 ∧ s.stream.afterSlots (owned s) ≠ s.stream
      · rw [if_neg h8, if_neg h1, if_pos h2, if_pos (.inr (.inl h2))]
      · rw [if_neg h8, if_neg h1, if_neg h2, if_neg (by simp only [h8, h1, h2, or_self, not_false_eq_true])]

end Erased

/-! ### The job (R197, R199) -/

section Job

variable {attached : Option Bool} {button : Bool} {rest : List Job} (h : MayStart (.ownerReset attached button) rest s)
include h

theorem exec_ownerResetJobStart :
    exec .ownerResetJobStart s = .next (recomputeAttn (startOwnerReset attached button
      { s with queue := rest, running := some (fresh (.ownerReset attached button) [] .blank []) })) := by
  show execOwnerResetJobStart s = _
  rw [execOwnerResetJobStart, whenOn_on h.1]
  simp only [nextJob_of h, takeJob_of h]

/-- The stations behind an owner reset: no grant is left, and an attached request has its reply. -/
def erasedStations (attached : Option Bool) (creds keys : Nat) (stations : Tbl StationRec 4) : Tbl StationRec 4 :=
  let dropped := stations.map (StationRec.dropGrant fun _ => true)
  match attached with
  | some q =>
    dropped.set 2 { dropped.get 2 with
      slot := some { result := .ok, code := ReqCode.ownerReset.toByte, body := [byte creds, byte keys], notice := !q } }
  | none => dropped

omit h in
theorem erasedStations_get (attached : Option Bool) (a b : Nat) (stations : Tbl StationRec 4) (st : Station) :
    (erasedStations attached a b stations).get st = { stations.get st with
      grant := none
      slot := attached.elim (stations.get st).slot fun q =>
        if st = 2 then some { result := .ok, code := 10, notice := !q, body := [byte a, byte b] }
        else (stations.get st).slot } := by
  have hdrop (x : Station) : (stations.map (StationRec.dropGrant fun _ => true)).get x = { stations.get x with grant := none } := by
    rw [get_dropGrant]
    cases (stations.get x).grant <;> rfl
  cases attached with
  | none => exact hdrop st
  | some q =>
    simp only [erasedStations, Option.elim_some]
    by_cases hst : st = 2
    · subst hst
      rw [Tbl.get_set_self, hdrop, if_pos rfl]
      rfl
    · rw [Tbl.get_set_ne _ _ hst, hdrop, if_neg hst]

omit h in
theorem exec_ownerResetJobEnd (h : s.power = .on) :
    let n := (List.finRange 16).countP fun id => (heldCred? id s).isSome
    let m := (List.finRange 64).countP (owned s)
    exec .ownerResetJobEnd (started (.ownerReset attached button) rest ownerResetSteps (.erased 0 0) s)
      = .next (recomputeAttn { ownerErased false s with
          queue := rest, running := none, stations := erasedStations attached n m s.stations }) := by
  intro n m
  let begun : State := started (.ownerReset attached button) rest ownerResetSteps (.erased 0 0) s
  let freed : State := { begun with
    stations := s.stations.map (StationRec.dropGrant fun _ => true), store := { s.store with resetMark := true } }
  have hfreed : JobStep.endGrants.finish (JobStep.markWrite.finish begun) = freed := rfl
  obtain ⟨hchains, hlog⟩ := partExtend_congr (s := s) (t := freed) ownerMarker rfl rfl rfl
  have herased : ownerErased false freed = { ownerErased false s with
      queue := rest, running := freed.running, stations := freed.stations, attn := freed.attn } := by
    simp only [ownerErased, hchains, hlog]
    rfl
  let done : State := { ownerErased false s with
    queue := rest, running := some (fresh (.ownerReset attached button) [] (.erased n m) [])
    stations := freed.stations, attn := freed.attn }
  have hsteps : setTodo [] (finishAll ownerResetSteps begun) = done := by
    rw [ownerResetSteps, finishAll_cons, finishAll_cons, hfreed, finishAll_eraseSteps, herased, countErased_eq]
    show _ = { done with running := some (fresh (.ownerReset attached button) [] (.erased n m) []) }
    rw [show JobData.erased n m = .erased (0 + n) (0 + m) by rw [Nat.zero_add, Nat.zero_add]]
    rfl
  have hend : endJob .ok [byte n, byte m] done
      = { done with running := none, stations := erasedStations attached n m s.stations } := by
    cases attached with
    | some q => exact endJob_of (s := done) (r := fresh (.ownerReset (some q) button) [] (.erased n m) []) (st := 2) rfl rfl
    | none => exact endJob_none (s := done) (r := fresh (.ownerReset none button) [] (.erased n m) []) rfl rfl
  have hrun : begun.running = some (fresh (.ownerReset attached button) ownerResetSteps (.erased 0 0) []) := rfl
  have hfinish : finishSteps begun = done := (finishSteps_eq hrun).trans hsteps
  have hdone : done.running = some (fresh (.ownerReset attached button) [] (.erased n m) []) := rfl
  exact exec_jobEnd_of (s := begun) h hrun rfl hfinish hdone hend rfl

end Job

/-- A removal of the mark that fails leaves the store, the mark in it (R198, R200). -/
theorem exec_markRemoveFails {r : Running} {rest : List JobStep} {landed : Bool} (hp : s.power = .on)
    (hr : s.running = some r) (ht : r.todo = .markRemove :: rest) :
    ∃ t, exec (.storeWriteFailed landed) s = .next t ∧ t.store = s.store ∧ t.fault = true ∧ t.running = none := by
  let f : State := JobStep.markRemove.fail landed s
  have hstore : f.store = s.store := if_neg (by rw [show JobStep.markRemove.mayLand = false from rfl, Bool.and_false]; decide)
  let g : State := failJob .nvFailed [] f
  obtain ⟨-, hgr, -⟩ := engine_failJob (s := f) hr .nvFailed
  let h : State := raiseCond .nvWriteFailed g
  obtain ⟨-, hrun, hfault⟩ := engine_answers h.queue { h with queue := [], fault := true }
  exact ⟨_, exec_storeWriteFailed hp hr ht rfl, (givesBack_enterFault h).store.trans
    ((givesBack_failJob .nvFailed [] f).store.trans hstore), hfault, hrun.trans hgr⟩

/-! ### Start-up finishes a reset whose mark stands (R200, R203) -/

theorem countErased_idle (h : s.running = none) (a b : Nat) : countErased a b s = s := by
  rw [countErased_eq, h]
  cases s
  cases h
  rfl

theorem exec_partReset_marked {x : State} {landed : Bool} (h : MayStartUp x) (hmark : x.store.resetMark = true)
    (hrest : ∀ c, (x.store.classes.get c).AtRest) :
    exec (.partReset { landed, bad := [], trouble := .none }) x
      = .next (upped false (ownerErased true (countedUp [] x))) := by
  obtain ⟨n, hn⟩ := finishRevocations_none (loaded [] x) 0
  let cleared : State := { withoutRevoked (loaded [] x) with
    store := { (loaded [] x).store with
      keys := .ofFn fun slot => if slot ∈ revokedSlots (loaded [] x) then none else (loaded [] x).store.keys.get slot } }
  have hmarked : (x.store.resetMark && !([] : List RecordId).contains .ownerResetMark) = true := by rw [hmark]; rfl
  obtain ⟨m, hm⟩ := startUpSteps_none (eraseSteps true) cleared n
  have herased : finishAll (eraseSteps true) cleared = ownerErased true cleared := by
    rw [finishAll_eraseSteps]
    exact countErased_idle rfl _ _
  obtain ⟨m', hm'⟩ := countTheStart_none true (ownerErased true cleared) m
  have hlt : (ownerErased true cleared).partResets < 4294967295 :=
    (loaded_numbers [] x).1.trans (if_neg List.not_mem_nil) ▸ h.2
  have hcounted : countedUp [] x = { cleared with
      partResets := cleared.partResets + 1, store := { cleared.store with partResets := cleared.partResets + 1 } } := by
    rw [countedUp, if_pos (loaded_counts.2 ⟨List.not_mem_nil, h.2⟩)]
    rfl
  obtain ⟨hchains, hlog⟩ := partExtend_congr (s := cleared) (t := countedUp [] x) ownerMarker (by rw [hcounted])
    (by rw [hcounted]) (by rw [hcounted])
  have hsame : ({ ownerErased true cleared with
      partResets := (ownerErased true cleared).partResets + 1
      store := { (ownerErased true cleared).store with partResets := (ownerErased true cleared).partResets + 1 } } : State)
      = ownerErased true (countedUp [] x) := by
    simp only [ownerErased, hchains, hlog]
    rw [hcounted]
    rfl
  have hcount : countTheStart true .none (finishOwnerReset true .none (finishRevocations .none (smooth (loaded [] x) 0)))
      = smooth (ownerErased true (countedUp [] x)) m' := by
    rw [hn, finishOwnerReset, if_pos rfl]
    show countTheStart true .none (startUpSteps .none (eraseSteps true) (smooth cleared n)) = _
    rw [hm, herased, hm', if_pos (Bool.and_eq_true _ _ ▸ ⟨rfl, decide_eq_true hlt⟩), hsame]
  have hquiet (c : ClassNo) (r : ClassRecord) (hr : (ownerErased true (countedUp [] x)).classes.get c = some r) : r.AtRest :=
    Option.some.inj ((countedUp_class x c).symm.trans hr) ▸ hrest c
  rw [exec_partReset_off h.1, hmarked, finishingWork, show (!([] : List RecordId).contains .partResetCount) = true from rfl,
    hcount, finishDeferred_nothing .none hquiet, accountTrial_nothing .none fun c r hr => (hquiet c r hr).1]
  rfl

theorem countedUp_cred (x : State) (id : CredId) :
    (countedUp [] x).creds.get id = loadCredential (x.store.creds.get id) := by
  have hcreds : (countedUp [] x).creds = (loaded [] x).creds := by
    unfold countedUp
    dsimp only
    split <;> rfl
  rw [hcreds]
  exact Tbl.get_ofFn _ _

theorem owned_eq (s : State) (slot : Slot) : owned s slot = (activeKey? slot s).any KeyRecord.ownerHeld := by
  rw [Bool.eq_iff_iff, owned_iff, Option.any_eq_true]
  simp only [activeKey?_eq_some]

/-- Settles O44: the job at its start and its end, a removal of the mark that fails, and start-up's own reset. -/
theorem ownerResetErasesOwner : Obligations.OwnerResetErasesOwner := by
  refine ⟨fun attached button rest s h => ⟨fun q hatt hbutton hgrant => ?refused, fun hgo => ?starts⟩,
    fun attached button landed r todo s hp hr _ ht => exec_markRemoveFails hp hr ht,
    fun landed s h hmark hrest => ?startUp⟩
  case refused =>
    subst hatt
    subst hbutton
    let begun : State := { s with queue := rest, running := some (fresh (.ownerReset (some q) false) [] .blank []) }
    have hmissing : ((some q).isSome && !false && !holdsGrant 2 begun) = true := grantMissing_iff.2 fun hg => hg rfl hgrant
    have hstart : startOwnerReset (some q) false begun = endJob .noGrant [] begun := if_pos hmissing
    rw [exec_ownerResetJobStart h]
    show Host.Outcome.next (recomputeAttn (startOwnerReset (some q) false begun)) = _
    rw [hstart, endJob_of (r := fresh (.ownerReset (some q) false) [] .blank []) (st := 2) rfl rfl]
    rfl
  case starts =>
    intro job steps own
    have hgranted : ¬(attached.isSome && !button && !holdsGrant 2 s) = true := by
      intro hm
      obtain ⟨h1, hgrant⟩ := (Bool.and_eq_true _ _).mp hm
      obtain ⟨hatt, hbutton⟩ := (Bool.and_eq_true _ _).mp h1
      rcases hgo with hnone | hpressed | hheld
      · rw [hnone] at hatt
        cases hatt
      · rw [hpressed] at hbutton
        cases hbutton
      · rw [holdsGrant_iff.2 hheld] at hgrant
        cases hgrant
    have hown : own = owned s := funext fun slot => by
      rw [owned_eq, activeKey?]
      simp only [own]
      cases s.keys.get slot <;> rfl
    refine ⟨?_, _, exec_ownerResetJobEnd h.1, fun st => ?_, fun id => ?_, fun id => ?_, fun slot => ?_, fun slot => ?_,
      rfl, fun i => ?_, ?_, fun c => ?_, ?_, fun k => ?_, ?_⟩
    · let begun : State := { s with queue := rest, running := some (fresh job [] .blank []) }
      have hstart : startOwnerReset attached button begun = launch (.erased 0 0) ownerResetSteps begun := if_neg hgranted
      rw [exec_ownerResetJobStart h]
      show Host.Outcome.next (recomputeAttn (startOwnerReset attached button begun)) = _
      rw [hstart]
      rfl
    · rw [hown]
      refine (erasedStations_get attached _ _ s.stations st).trans ?_
      cases attached <;> rfl
    · refine (ownerErased_creds false s id).1.trans ?_
      rw [heldCred?]
      cases s.creds.get id <;> rfl
    · refine (ownerErased_creds false s id).2.trans ?_
      rw [heldCred?]
      cases s.creds.get id <;> rfl
    · rw [hown]
      exact (ownerErased_keys false s slot).1
    · refine (ownerErased_keys false s slot).2.trans ?_
      rw [owned, ownerHeldIn, ownerHeldIn]
      cases s.keys.get slot with
      | active k =>
        obtain ⟨material, origin, persistence, usage, mask, binding, ownerHeld, fingerprint, label⟩ := k
        cases ownerHeld <;> cases persistence <;> rfl
      | _ => rfl
    · rw [hown]
      exact ownerErased_targets false s i
    · rw [hown]
      rfl
    · obtain ⟨h11, hne, -⟩ := ownerErased_chains false s
      split
      · next hc => exact hc ▸ h11
      · next hc => exact hne c hc
    · exact (ownerErased_chains false s).2.2
    · exact ownerErased_conditions false s k
    · simp only [recomputeAttn, ownerErased, erasedKeys, erasedCreds]
      rfl
  case startUp =>
    have hup : upFrom s = upped false (countedUp [] s) := upFrom_eq h
    have hkey (slot : Slot) : (countedUp [] s).keys.get slot = (keptKey slot s).elim .empty .active :=
      (show _ = (upFrom s).keys.get slot by rw [hup]; rfl).trans (Tbl.get_ofFn _ _)
    have hstored (slot : Slot) : (countedUp [] s).store.keys.get slot = keptKey slot s :=
      (show _ = (upFrom s).store.keys.get slot by rw [hup]; rfl).trans (Tbl.get_ofFn _ _)
    have hclosed : (countedUp [] s).stream = .closed := (show _ = (upFrom s).stream by rw [hup]; rfl)
    refine ⟨_, exec_partReset_marked h hmark hrest, fun id => ?_, fun slot => ?_, fun slot => ?_, ?_, ?_, fun k => ?_, ?_⟩
    · have hcred : (countedUp [] s).creds.get id = loadCredential (s.store.creds.get id) := countedUp_cred s id
      have hstore : (countedUp [] s).store.creds = s.store.creds := (show _ = (upFrom s).store.creds by rw [hup]; rfl)
      obtain ⟨hwork, hkept⟩ := ownerErased_creds true (countedUp [] s) id
      refine ⟨(Tbl.get_map _ _ _).trans ?_, hkept.trans ?_⟩
      · rw [hwork, heldCred?, hcred]
        cases s.store.creds.get id <;> rfl
      · rw [heldCred?, hcred, hstore]
        cases s.store.creds.get id <;> rfl
    · rw [hup]
      refine (ownerErased_keys true _ slot).1.trans ?_
      rw [owned_eq, activeKey?]
      show _ = match (countedUp [] s).keys.get slot with
        | .active k => if k.ownerHeld then KeySlot.empty else .active k
        | other => other
      cases (countedUp [] s).keys.get slot <;> rfl
    · refine (ownerErased_keys true _ slot).2.trans ?_
      rw [hup]
      show _ = match (countedUp [] s).store.keys.get slot with
        | some k => if k.ownerHeld = true ∧ k.persistence = Persistence.persistent then (none : Option KeyRecord) else some k
        | none => none
      rw [owned, ownerHeldIn, ownerHeldIn, hkey, hstored]
      cases keptKey slot s with
      | none => rfl
      | some k =>
        obtain ⟨material, origin, persistence, usage, mask, binding, ownerHeld, fingerprint, label⟩ := k
        cases ownerHeld <;> cases persistence <;> rfl
    · obtain ⟨h11, hne, -⟩ := ownerErased_chains true (countedUp [] s)
      have hchains : (countedUp [] s).chains = (upFrom s).chains := by rw [hup]; rfl
      have hlog : (countedUp [] s).log = [] := (show _ = (upFrom s).log by rw [hup]; rfl)
      refine Tbl.ext_get fun c => ?_
      rw [Tbl.get_set]
      split
      · next hc =>
        subst hc
        refine h11.trans ?_
        rw [hchains, hlog]
        have hcleared : (upFrom s).chains.get 11 = .cleared := Tbl.get_replicate _ _
        rw [hcleared]
        rfl
      · next hc => exact (hne c hc).trans (by rw [hchains])
    · have hlog : (countedUp [] s).log = [] := (show _ = (upFrom s).log by rw [hup]; rfl)
      have htime : (countedUp [] s).time = .start := (show _ = (upFrom s).time by rw [hup]; rfl)
      refine (ownerErased_chains true (countedUp [] s)).2.2.trans ?_
      rw [hlog, htime]
      rfl
    · have hlog : (countedUp [] s).log = [] := (show _ = (upFrom s).log by rw [hup]; rfl)
      have htime : (countedUp [] s).time = .start := (show _ = (upFrom s).time by rw [hup]; rfl)
      have hclear : (countedUp [] s).conditions.get k = none :=
        (show (countedUp [] s).conditions = (upFrom s).conditions by rw [hup]; rfl) ▸ Tbl.get_replicate _ _
      refine (ownerErased_conditions true (countedUp [] s) k).trans ?_
      rw [hclosed, hlog, htime, hclear]
      exact ite_congr (propext ⟨fun h => h.elim id fun h => h.elim (fun h => absurd rfl h.2) fun h => absurd h.2 (by decide),
        .inl⟩) (fun _ => rfl) fun _ => rfl
    · have htargets : ((countedUp [] s).targets.map fun t => t.filter fun t => !owned (countedUp [] s) t.signer)
          = (countedUp [] s).targets := Tbl.ext_get fun i => by
        have hnone : (countedUp [] s).targets.get i = none :=
          (show (countedUp [] s).targets = (upFrom s).targets by rw [hup]; rfl) ▸ Tbl.get_replicate _ _
        rw [Tbl.get_map, hnone]
        rfl
      have hswept : (countedUp [] s).stream.afterSlots (owned (countedUp [] s)) = (countedUp [] s).stream := by
        rw [hclosed]
        rfl
      rw [hup]
      have herased : ownerErased true (countedUp [] s) = { ownerErased true (countedUp [] s) with
          stream := (countedUp [] s).stream, targets := (countedUp [] s).targets } := by
        refine Eq.trans (b := { ownerErased true (countedUp [] s) with
          stream := (countedUp [] s).stream.afterSlots (owned (countedUp [] s))
          targets := (countedUp [] s).targets.map fun t => t.filter fun t => !owned (countedUp [] s) t.signer }) rfl ?_
        rw [hswept, htargets]
      rw [herased]
      simp only [upped, reimposeLockouts, ownerErased, erasedKeys, erasedCreds]
      rfl

end Sys2Proof.Machine
end

section
/-! PROOFS. The decisecond tick and the events that it brings (O46, O47). -/

namespace Sys2Proof.Machine

open Sys2Proof

variable {s t u : State} {v : PhaseVerdict} {samples : PhaseSamples}

/-! ### The receivers of a tick, as one equation (R151, R153) -/

/-- The stream after a tick to the count `now` (R77). -/
def Stream.ticked (now : Count) : Stream → Stream
  | .receiving m limit n absorbed d =>
    if d = now then .failed m.raw limit n .timeout else .receiving m limit n absorbed d
  | x => x

/-- The trial timer after a tick to the count `now` (R100, R101). -/
def TrialTimer.ticked (now : Count) (hold : Bool) : TrialTimer → TrialTimer
  | .running d reached => if d = now then (if hold then .running d true else .expired) else .running d reached
  | x => x

/-- Whether the trial timer expires at a tick to the count `now` (R100, R101). -/
def TrialTimer.expires (now : Count) (hold : Bool) : TrialTimer → Bool
  | .running d _ => decide (d = now) && !hold
  | _ => false

/-- The time base after a tick's receivers, before the phase is closed (R150, R151, R158). -/
def tickedTime (s : State) : TimeBase :=
  { s.time with
    uptime := nextCount s
    phase := s.time.phase + 1
    prescaler := 0
    periods := 0
    pulse := if s.timer.expires (nextCount s) s.hold then s.time.pulse.tick.request else s.time.pulse.tick }

/-- The conditions after a tick (R77, R147). -/
def tickedConditions (s : State) : Tbl (Option Count) 11 :=
  let started := if s.time.firstTick && anyPending s then s.conditions.set 7 (some (nextCount s)) else s.conditions
  if s.stream.ticked (nextCount s) = s.stream then started else started.set 2 (some (nextCount s))

/-- The state after a tick's receivers, before the phase is closed. -/
def ticked (s : State) : State :=
  { s with
    time := tickedTime s
    creds := s.creds.map (tickCredential (nextCount s) s.time.firstTick (isDecayTick (nextCount s)))
    stations := s.stations.map (StationRec.dropGrant fun g => g.deadline == nextCount s)
    stream := s.stream.ticked (nextCount s)
    timer := s.timer.ticked (nextCount s) s.hold
    line := if s.line ≠ .ignoring ∧ s.gap = false then .ignoring else s.line
    gap := if s.line = .ignoring then s.gap else false
    conditions := tickedConditions s }

theorem tickStream_eq (s : State) :
    tickStream s
      = { s with
          stream := s.stream.ticked s.time.uptime
          conditions := if s.stream.ticked s.time.uptime = s.stream then s.conditions
            else s.conditions.set 2 (some s.time.uptime) } := by
  unfold tickStream
  cases hs : s.stream with
  | receiving m limit n absorbed d =>
    by_cases hd : d = s.time.uptime
    · simp [Stream.ticked, hd, failStream, hs, raiseCond, Condition.index]
    · simp [Stream.ticked, hd, ← hs]
  | _ => simp [Stream.ticked, ← hs]

theorem tickTimer_eq (s : State) :
    tickTimer s
      = { s with
          timer := s.timer.ticked s.time.uptime s.hold
          time := { s.time with
            pulse := if s.timer.expires s.time.uptime s.hold then s.time.pulse.request else s.time.pulse } } := by
  unfold tickTimer
  cases ht : s.timer with
  | running d reached =>
    by_cases hd : d = s.time.uptime
    · cases s.hold <;> simp [TrialTimer.ticked, TrialTimer.expires, hd]
    · simp [TrialTimer.ticked, TrialTimer.expires, hd, ← ht]
  | _ => simp [TrialTimer.ticked, TrialTimer.expires, ← ht]

theorem tickGap_eq (s : State) :
    tickGap s
      = { s with
          line := if s.line ≠ .ignoring ∧ s.gap = false then .ignoring else s.line
          gap := if s.line = .ignoring then s.gap else false } := by
  unfold tickGap
  by_cases hl : s.line = .ignoring
  · simp only [hl, if_true, ne_eq, not_true_eq_false, false_and, if_false]
    rw [← hl]
  · cases hg : s.gap <;> simp [hl, lineIdle]

theorem tick_eq (v : PhaseVerdict) (s : State) : tick v s = closePhase v (ticked s) := by
  rw [tick, tickGap_eq, tickTimer_eq, tickStream_eq]
  rfl

/-! ### The end of the phase (R156) -/

theorem tickButton_frame (v : PhaseVerdict) (s : State) :
    tickButton v s
      = { s with
          time := { s.time with
            button := (tickButton v s).time.button
            held := (tickButton v s).time.held
            threshold := (tickButton v s).time.threshold }
          queue := (tickButton v s).queue } := by
  unfold tickButton
  split
  case h_2 => split <;> rfl
  all_goals rfl

theorem closePhase_first (h : s.time.firstTick = true) :
    closePhase v s = { s with time := { s.time with firstTick := false } } := if_pos h

theorem closePhase_later (h : s.time.firstTick = false) : closePhase v s = tickButton v s :=
  if_neg (by rw [h]; exact Bool.false_ne_true)

/-- What a whole tick changes beside its receivers: the button and the queue. -/
theorem tick_frame (v : PhaseVerdict) (s : State) :
    tick v s
      = { ticked s with
          time := { tickedTime s with
            firstTick := false
            button := (tick v s).time.button
            held := (tick v s).time.held
            threshold := (tick v s).time.threshold }
          queue := (tick v s).queue } := by
  have hfirst : (ticked s).time.firstTick = s.time.firstTick := rfl
  rw [tick_eq]
  cases h : s.time.firstTick with
  | true => rw [closePhase_first (hfirst.trans h)]; rfl
  | false =>
    rw [closePhase_later (hfirst.trans h)]
    refine (tickButton_frame v (ticked s)).trans ?_
    rw [← h]
    rfl

/-! ### The rows of a tick -/

/-- The tick of a running part, after the samples of the sense sampler. -/
def tickAfter (samples : PhaseSamples) (u : State) : State :=
  recomputeAttn (tick (phaseVerdict samples u) (readSense samples.sense u))

theorem beforeTick_of_on (samples : PhaseSamples) (hp : u.power = .on) :
    beforeTick samples u = readSense samples.sense u := if_pos hp

theorem exec_decisecondTick (samples : PhaseSamples) (hp : u.power = .on) :
    exec (.decisecondTick samples) u = .next (tickAfter samples u) := by
  have hs : (readSense samples.sense u).power = .on := (power_readSense _ u).trans hp
  change tickEvent (phaseVerdict samples u) (beforeTick samples u) = _
  rw [beforeTick_of_on samples hp, tickEvent, hs]
  rfl

/-- A row that names what a tick brings is the tick that brings it. -/
theorem tickWhen_due {due : State → Bool} (hp : s.power = .on) (h : due s = true) :
    tickWhen due v s = .next (recomputeAttn (tick v s)) := by
  rw [tickWhen, whenOn_on hp, if_pos h]

/-- A row that names what a tick brings does nothing in start-up and without power. -/
theorem tickWhen_of_not_on {due : State → Bool} (hp : s.power ≠ .on) :
    tickWhen due v (beforeTick samples s) = .next s := by
  rw [beforeTick_of_not_on samples hp, tickWhen, whenOn_off hp]

/-! ### The fields after a tick -/

section Fields

theorem tickedTime_pulse_kept (h : ∀ reached, s.timer = .running (nextCount s) reached → s.hold = true) :
    (tickedTime s).pulse = s.time.pulse.tick := by
  refine if_neg fun hexp => ?_
  cases ht : s.timer with
  | running d reached =>
    simp only [ht, TrialTimer.expires, Bool.and_eq_true, decide_eq_true_eq, Bool.not_eq_true'] at hexp
    obtain ⟨rfl, hhold⟩ := hexp
    exact Bool.false_ne_true (hhold.symm.trans (h reached ht))
  | _ => simp [ht, TrialTimer.expires] at hexp

theorem tickedTime_pulse_asked {reached : Bool} (h : s.timer = .running (nextCount s) reached) (hh : s.hold = false) :
    (tickedTime s).pulse = s.time.pulse.tick.request :=
  if_pos (by simp [h, hh, TrialTimer.expires])

theorem Pulse.tick_eq (p : Pulse) :
    p.tick = match p with
      | .idle => .idle
      | .driving n => if n + 1 < 2 then .driving (n + 1) else .idle := by
  cases p with
  | idle => rfl
  | driving n =>
    by_cases h : n + 1 < 2
    · simp only [Pulse.tick, if_pos h, if_neg (Nat.not_le.2 h)]
    · simp only [Pulse.tick, if_neg h, if_pos (Nat.not_lt.1 h)]

theorem Pulse.tick_request_eq (p : Pulse) :
    p.tick.request = match p with
      | .idle => .driving 0
      | .driving n => if n + 1 < 2 then .driving (n + 1) else .driving 0 := by
  rw [Pulse.tick_eq]
  cases p with
  | idle => rfl
  | driving n => by_cases h : n + 1 < 2 <;> simp [h, Pulse.request]

theorem Pulse.request_driving (p : Pulse) : ∃ n, p.request = .driving n := by cases p <;> exact ⟨_, rfl⟩

theorem tickCredential_eq (now : Count) (first : Bool) (c : Credential) :
    tickCredential now first (isDecayTick now) c = match c with
      | .held r => .held { r with
          penalty := if now.toNat % 100 = 0 then r.penalty - 1 else r.penalty
          lockout := match r.lockout with
            | .absent => .absent
            | .deadline d => if d = now then .absent else .deadline d
            | .pending delay => if first then .deadline (now + BitVec.ofNat 32 delay) else .pending delay }
      | other => other := by
  cases c with
  | held r =>
    simp only [tickCredential, decayed, isDecayTick, beq_iff_eq]
    cases r.lockout <;> rfl
  | _ => rfl

theorem Stream.ticked_ne {m : Manifest} {limit n : Nat} {absorbed : List Byte} {now : Count}
    (h : s.stream = .receiving m limit n absorbed now) : s.stream.ticked now ≠ s.stream := by
  simp [h, Stream.ticked]

theorem Stream.ticked_self {now : Count} (h : ∀ m limit n absorbed, s.stream ≠ .receiving m limit n absorbed now) :
    s.stream.ticked now = s.stream := by
  cases hs : s.stream with
  | receiving m limit n absorbed d =>
    exact if_neg fun hd => h m limit n absorbed (by rw [hs, hd])
  | _ => rfl

theorem anyPending_iff :
    anyPending s = true ↔ ∃ id r delay, s.creds.get id = .held r ∧ r.lockout = .pending delay := by
  have hone (c : Credential) : hasPending c = true ↔ ∃ r delay, c = .held r ∧ r.lockout = .pending delay := by
    cases c with
    | held r => cases h : r.lockout <;> simp [hasPending, h]
    | _ => simp [hasPending]
  simp [anyPending, hone]

theorem tickedConditions_get (s : State) (k : Fin 11) :
    (tickedConditions s).get k
      = if k = 2 ∧ s.stream.ticked (nextCount s) ≠ s.stream then some (nextCount s)
        else if k = 7 ∧ s.time.firstTick = true ∧ anyPending s = true then some (nextCount s)
        else s.conditions.get k := by
  have hstarted : (if s.time.firstTick && anyPending s then s.conditions.set 7 (some (nextCount s))
      else s.conditions).get k
        = if k = 7 ∧ s.time.firstTick = true ∧ anyPending s = true then some (nextCount s)
          else s.conditions.get k := by
    by_cases hb : s.time.firstTick = true ∧ anyPending s = true
    · rw [if_pos (Bool.and_eq_true_iff.2 hb), Tbl.get_set]
      simp only [hb, and_self, and_true]
    · rw [if_neg (mt Bool.and_eq_true_iff.1 hb), if_neg fun h => hb h.2]
  unfold tickedConditions
  by_cases hs : s.stream.ticked (nextCount s) = s.stream
  · rw [if_pos hs, hstarted]
    simp only [hs, ne_eq, not_true_eq_false, and_false, if_false]
  · rw [if_neg hs, Tbl.get_set, hstarted]
    simp only [hs, ne_eq, not_false_eq_true, and_true]

/-! The fields of a whole tick are those of its receivers. -/

theorem tick_creds (v : PhaseVerdict) (s : State) : (tick v s).creds = (ticked s).creds :=
  (congrArg State.creds (tick_frame v s)).trans rfl

theorem tick_stations (v : PhaseVerdict) (s : State) : (tick v s).stations = (ticked s).stations :=
  (congrArg State.stations (tick_frame v s)).trans rfl

theorem tick_stream (v : PhaseVerdict) (s : State) : (tick v s).stream = (ticked s).stream :=
  (congrArg State.stream (tick_frame v s)).trans rfl

theorem tick_timer (v : PhaseVerdict) (s : State) : (tick v s).timer = (ticked s).timer :=
  (congrArg State.timer (tick_frame v s)).trans rfl

theorem tick_line (v : PhaseVerdict) (s : State) : (tick v s).line = (ticked s).line :=
  (congrArg State.line (tick_frame v s)).trans rfl

theorem tick_gap (v : PhaseVerdict) (s : State) : (tick v s).gap = (ticked s).gap :=
  (congrArg State.gap (tick_frame v s)).trans rfl

theorem tick_conditions (v : PhaseVerdict) (s : State) : (tick v s).conditions = (ticked s).conditions :=
  (congrArg State.conditions (tick_frame v s)).trans rfl

theorem tick_pulse (v : PhaseVerdict) (s : State) : (tick v s).time.pulse = (tickedTime s).pulse :=
  (congrArg (fun t => t.time.pulse) (tick_frame v s)).trans rfl

theorem tick_firstTick (v : PhaseVerdict) (s : State) : (tick v s).time.firstTick = false :=
  (congrArg (fun t => t.time.firstTick) (tick_frame v s)).trans rfl

theorem tick_uptime (v : PhaseVerdict) (s : State) : (tick v s).time.uptime = nextCount s :=
  (congrArg (fun t => t.time.uptime) (tick_frame v s)).trans rfl

theorem tick_phase (v : PhaseVerdict) (s : State) : (tick v s).time.phase = s.time.phase + 1 :=
  (congrArg (fun t => t.time.phase) (tick_frame v s)).trans rfl

theorem tick_store (v : PhaseVerdict) (s : State) : (tick v s).store = s.store :=
  (congrArg State.store (tick_frame v s)).trans rfl

theorem tick_txNow (v : PhaseVerdict) (s : State) : (tick v s).txNow = s.txNow :=
  (congrArg State.txNow (tick_frame v s)).trans rfl

theorem tick_txNext (v : PhaseVerdict) (s : State) : (tick v s).txNext = s.txNext :=
  (congrArg State.txNext (tick_frame v s)).trans rfl

theorem tick_creds_get (v : PhaseVerdict) (s : State) (id : CredId) :
    (tick v s).creds.get id = tickCredential (nextCount s) s.time.firstTick (isDecayTick (nextCount s))
      (s.creds.get id) := by
  rw [tick_creds]
  exact Tbl.get_map ..

theorem tick_stations_get (v : PhaseVerdict) (s : State) (st : Station) :
    (tick v s).stations.get st
      = { s.stations.get st with
          grant := (s.stations.get st).grant.filter fun g => decide (g.deadline ≠ nextCount s) } := by
  rw [tick_stations]
  refine (get_dropGrant _ _ st).trans ?_
  have hfilter : (fun g : Grant => !(g.deadline == nextCount s)) = fun g => decide (g.deadline ≠ nextCount s) :=
    funext fun g => (decide_not ..).symm
  rw [hfilter]

/-- The time base after a tick, but for the button. -/
theorem tick_time (v : PhaseVerdict) (s : State) :
    (tick v s).time
      = { s.time with
          uptime := nextCount s
          phase := s.time.phase + 1
          prescaler := 0
          periods := 0
          firstTick := false
          pulse := (tick v s).time.pulse
          button := (tick v s).time.button
          held := (tick v s).time.held
          threshold := (tick v s).time.threshold } := by
  rw [tick_pulse]
  exact (congrArg State.time (tick_frame v s)).trans rfl

/-- A state that differs from another in what a tick may change is that other with its own such fields. -/
theorem eq_of_tick_fields
    (h : ∃ time creds stations stream timer line gap conditions queue attn,
      t = { s with time, creds, stations, stream, timer, line, gap, conditions, queue, attn }) :
    t = { s with time := t.time, creds := t.creds, stations := t.stations, stream := t.stream, timer := t.timer,
                 line := t.line, gap := t.gap, conditions := t.conditions, queue := t.queue, attn := t.attn } := by
  obtain ⟨_, _, _, _, _, _, _, _, _, _, rfl⟩ := h
  rfl

end Fields

/-- Without power no tick does anything, and in start-up it moves the time base alone. -/
theorem tick_of_not_on (samples : PhaseSamples) (hp : s.power ≠ .on) :
    (∀ due, s.power = .startUp due → exec (.decisecondTick samples) s = .next (advanceTime s))
      ∧ (s.power = .off → exec (.decisecondTick samples) s = .next s) := by
  have hexec : exec (.decisecondTick samples) s = tickEvent (phaseVerdict samples s) s := by
    change tickEvent _ (beforeTick samples s) = _
    rw [beforeTick_of_not_on samples hp]
  rw [hexec]
  refine ⟨fun due h => ?_, fun h => ?_⟩
  all_goals
    rw [tickEvent, h]

/-- Settles O46: the receivers of the tick, one field after the other. -/
theorem tickReachesItsReceivers : Obligations.TickReachesItsReceivers := by
  refine ⟨fun samples s id st hp => ?_, fun samples u hp => ?_⟩
  · obtain ⟨hstart, hoff⟩ := tick_of_not_on samples hp
    refine ⟨hstart, hoff, ?_⟩
    simp only [List.forall_mem_cons, List.not_mem_nil, false_imp_iff, implies_true, and_true]
    have hrow (due : State → Bool) : tickWhen due (phaseVerdict samples s) (beforeTick samples s) = .next s :=
      tickWhen_of_not_on hp
    exact ⟨hrow fun s => isDecayTick (nextCount s), hrow (lockoutDue id), hrow (grantDue st), hrow idleDue,
      hrow timerDue, hrow gapDue, hrow pulseDue, whenOn_off hp⟩
  · intro s now
    generalize hv : phaseVerdict samples u = v
    have hexec : exec (.decisecondTick samples) u = .next (recomputeAttn (tick v s)) := by
      rw [exec_decisecondTick samples hp, tickAfter, hv]
    have hcond (k : Fin 11) : (recomputeAttn (tick v s)).conditions.get k = (tickedConditions s).get k :=
      congrArg (fun x => x.get k) (tick_conditions v s)
    refine ⟨_, hexec, tick_uptime v s, tick_phase v s, fun id => (tick_creds_get v s id).trans (tickCredential_eq ..),
      tick_stations_get v s, ?_, ?_, fun h => ?_, fun ⟨reached, h⟩ hh => ?_, tick_time v s, fun ⟨m, limit, n, a, h⟩ => ?_,
      fun h => ?_, fun hf hd => ?_, fun h => ?_, fun k h2 h7 => ?_, fun h => ⟨?_, ?_⟩, fun h hg => ⟨?_, ?_⟩,
      fun h hg => ⟨?_, ?_⟩,
      eq_of_tick_fields ⟨_, _, _, _, _, _, _, _, _, _, (congrArg recomputeAttn (tick_frame v s)).trans rfl⟩⟩
    · refine (tick_stream v s).trans ?_
      change s.stream.ticked now = _
      cases s.stream <;> rfl
    · refine (tick_timer v s).trans ?_
      change s.timer.ticked now s.hold = _
      cases s.timer <;> rfl
    · exact ((tick_pulse v s).trans (tickedTime_pulse_kept h)).trans (Pulse.tick_eq _)
    · exact ((tick_pulse v s).trans (tickedTime_pulse_asked h hh)).trans (Pulse.tick_request_eq _)
    · rw [hcond, tickedConditions_get, if_pos ⟨rfl, Stream.ticked_ne h⟩]
      rfl
    · rw [hcond, tickedConditions_get, if_neg fun hs => hs.2 (Stream.ticked_self h), if_neg fun hk => ?_]
      exact absurd hk.1 (by decide)
    · rw [hcond, tickedConditions_get, if_neg (fun hk => absurd hk.1 (by decide)),
        if_pos ⟨rfl, hf, anyPending_iff.2 hd⟩]
      rfl
    · rw [hcond, tickedConditions_get, if_neg (fun hk => absurd hk.1 (by decide)), if_neg]
      rintro ⟨-, hf, hd⟩
      obtain ⟨id, r, delay, hr, hl⟩ := anyPending_iff.1 hd
      rcases h with hfirst | hnone
      · exact Bool.false_ne_true (hfirst.symm.trans hf)
      · exact hnone id r delay hr hl
    · rw [hcond, tickedConditions_get, if_neg fun hk => h2 hk.1, if_neg fun hk => h7 hk.1]
    · exact (tick_line v s).trans ((if_neg fun hl => hl.1 h).trans h)
    · exact (tick_gap v s).trans (if_pos h)
    · exact (tick_line v s).trans (if_neg fun hl => Bool.false_ne_true (hl.2.symm.trans hg))
    · exact (tick_gap v s).trans (if_neg h)
    · exact (tick_line v s).trans (if_pos ⟨h, hg⟩)
    · exact (tick_gap v s).trans (if_neg h)

/-! ### The events of a tick (R77, R100, R131, R143, R145, R158, R184) -/

section Due

theorem lockoutDue_of {id : CredId} {r : CredRecord} (h : s.creds.get id = .held r)
    (hl : r.lockout = .deadline (nextCount s)) : lockoutDue id s = true := by
  simp [lockoutDue, h, hl]

theorem grantDue_of {st : Station} {g : Grant} (h : (s.stations.get st).grant = some g)
    (hd : g.deadline = nextCount s) : grantDue st s = true := by
  simp [grantDue, h, hd]

theorem idleDue_of {m : Manifest} {limit n : Nat} {absorbed : List Byte}
    (h : s.stream = .receiving m limit n absorbed (nextCount s)) : idleDue s = true := by
  simp [idleDue, h]

theorem timerDue_of {reached : Bool} (h : s.timer = .running (nextCount s) reached) (hh : s.hold = false) :
    timerDue s = true := by
  simp [timerDue, h, hh]

theorem gapDue_of (h : s.line ≠ .ignoring) (hg : s.gap = false) : gapDue s = true := by
  simp [gapDue, h, hg]

theorem pulseDue_of (h : s.time.pulse = .driving 1) : pulseDue s = true := by
  simp [pulseDue, h, Pulse.tick]

theorem holdDue_of (hf : s.time.firstTick = false) (hb : s.time.button = .holding)
    (h : s.time.threshold ≤ s.time.held + 1) : holdDue s = true := by
  simp [holdDue, hf, hb, h]

end Due

/-! ### The button sampler (R156, R157) -/

theorem phase_releaseWork (w : Work) (s : State) : (releaseWork w s).time.phase = s.time.phase := by
  cases w <;> simp [releaseWork, clearHold]
  split <;> simp

theorem phase_undoJob (j : Job) (s : State) : (undoJob j s).time.phase = s.time.phase := by
  cases j with
  | station j =>
    have hs (w : Work) (s : State) : (releaseStream w s).time = s.time := by cases w <;> rfl
    exact (congrArg TimeBase.phase (hs _ _)).trans (phase_releaseWork j.work s)
  | _ => rfl

theorem phase_foldl_undoJob (q : List Job) (s : State) :
    (q.foldl (fun s j => undoJob j s) s).time.phase = s.time.phase := by
  induction q generalizing s with
  | nil => rfl
  | cons j q ih => exact (ih _).trans (phase_undoJob j s)

theorem phase_senseSample (s : State) (low : Bool) : (senseSample s low).time.phase = s.time.phase := by
  rcases senseSample_cases s low with ⟨-, -, -, h⟩ | ⟨-, -, -, h⟩ | ⟨-, h⟩
  · rw [h]
    simpa [socReset, removeStationJobs, senseReset]
      using phase_foldl_undoJob s.queue (stopTrialTimer (senseReset s))
  · rw [h, senseReleased]
  · rw [h]

/-- The sense sampler leaves the phase. -/
theorem phase_readSense (samples : List Bool) (u : State) : (readSense samples u).time.phase = u.time.phase :=
  readSense_keeps (P := fun s => s.time.phase = u.time.phase) (fun s low h => (phase_senseSample s low).trans h)
    samples u rfl

theorem phasePeriods_eq (phase : Fin 10) : phasePeriods phase = if phase.val ∈ [1, 3, 5, 8] then 25 else 26 := by
  revert phase; decide

/-- The verdict on a phase is that on the samples of its periods. -/
theorem phaseVerdict_cases (samples : PhaseSamples) (u : State) {n : Nat} (hn : phasePeriods u.time.phase = n)
    {low high : Prop} (hlow : low ↔ ∀ i : Fin 26, i.val < n → samples.button.get i = true)
    (hhigh : high ↔ ∀ i : Fin 26, i.val < n → samples.button.get i = false) :
    (low → phaseVerdict samples u = .low) ∧ (high → phaseVerdict samples u = .high)
      ∧ (¬low → ¬high → phaseVerdict samples u = .mixed) := by
  have hl : low ↔ ∀ x ∈ samples.button.list.take n, x = true := hlow.trans (forall_phaseSamples (p := (· = true))).symm
  have hh : high ↔ ∀ x ∈ samples.button.list.take n, x = false := hhigh.trans (forall_phaseSamples (p := (· = false))).symm
  have hsome : samples.button.list.take n ≠ [] := by
    have hlength := samples.button.size
    have hrange := phasePeriods_range u.time.phase
    intro h
    have := congrArg List.length h
    simp only [List.length_take, List.length_nil] at this
    omega
  simp only [phaseVerdict, hn]
  exact ⟨fun h => judge_low (hl.1 h), fun h => judge_high hsome (hh.1 h),
    fun h h' => judge_mixed (mt hl.2 h) (mt hh.2 h')⟩

theorem map_of_no_ownerReset {f : Job → Job} (hf : ∀ j, j.isOwnerReset = false → f j = j) {l : List Job}
    (hl : ∀ a b, Job.ownerReset a b ∉ l) : l.map f = l := by
  rw [List.map_congr_left (g := id) fun j hj => hf j ?_, List.map_id]
  exact Bool.eq_false_of_not_eq_true (List.any_eq_false.1 (any_isOwnerReset_of_none hl) j hj)

theorem queueButtonReset_inFault (h : s.fault = true) : (queueButtonReset s).queue = s.queue := if_pos h

theorem queueButtonReset_new (hf : s.fault = false) (h : ∀ a b, Job.ownerReset a b ∉ s.queue) :
    (queueButtonReset s).queue = s.queue ++ [.ownerReset none true] := by
  simp [queueButtonReset, hf, any_isOwnerReset_of_none h]

theorem queueButtonReset_waiting {before after : List Job} {a : Option Bool} {b : Bool} (hf : s.fault = false)
    (hq : s.queue = before ++ .ownerReset a b :: after) (h : ∀ x y, Job.ownerReset x y ∉ before ++ after) :
    (queueButtonReset s).queue = before ++ .ownerReset a true :: after := by
  have hany : s.queue.any Job.isOwnerReset = true := by simp [hq, Job.isOwnerReset]
  have hbefore : ∀ a b, Job.ownerReset a b ∉ before := fun a b hj => h a b (List.mem_append_left _ hj)
  have hafter : ∀ a b, Job.ownerReset a b ∉ after := fun a b hj => h a b (List.mem_append_right _ hj)
  simp only [queueButtonReset, hf, Bool.false_eq_true, if_false, if_pos hany]
  rw [hq, List.map_append, List.map_cons, map_of_no_ownerReset ?_ hbefore, map_of_no_ownerReset ?_ hafter]
  all_goals
    intro j hj
    cases j with
    | ownerReset => cases hj
    | _ => rfl

/-- At the first tick after start-up the button and the queue stay. -/
theorem tick_first (h : s.time.firstTick = true) :
    tick v s = { ticked s with time := { tickedTime s with firstTick := false } } := by
  rw [tick_eq]
  exact closePhase_first h

theorem tick_later (h : s.time.firstTick = false) : tick v s = tickButton v (ticked s) := by
  rw [tick_eq]
  exact closePhase_later h

/-- A mixed decisecond leaves the button's state. -/
theorem tickButton_mixed : tickButton .mixed s = s := by
  unfold tickButton
  cases s.time.button <;> rfl

/-- A high decisecond releases the button. -/
theorem tickButton_high :
    (tickButton .high s).time.button = .released ∧ (tickButton .high s).queue = s.queue
      ∧ (s.time.button ≠ .released → (tickButton .high s).time.held = 0) := by
  unfold tickButton
  cases h : s.time.button with
  | released => exact ⟨h, rfl, fun hne => absurd rfl hne⟩
  | _ => exact ⟨rfl, rfl, fun _ => rfl⟩

theorem tickButton_starts (h : s.time.button = .released) :
    tickButton .low s
      = { s with time := { s.time with button := .holding, held := 1, threshold := s.settings.buttonHold } } := by
  simp only [tickButton, h]

theorem tickButton_fired (h : s.time.button = .fired) : tickButton .low s = s := by
  simp only [tickButton, h]

theorem tickButton_counts (h : s.time.button = .holding) (hlt : s.time.held + 1 < s.time.threshold) :
    tickButton .low s = { s with time := { s.time with held := s.time.held + 1 } } := by
  simp only [tickButton, h, if_neg (Nat.not_le.2 hlt)]

theorem tickButton_fires (h : s.time.button = .holding) (hle : s.time.threshold ≤ s.time.held + 1) :
    tickButton .low s
      = queueButtonReset { s with time := { s.time with button := .fired, held := s.time.held + 1 } } := by
  simp only [tickButton, h, if_pos hle]

/-- Settles O47: a row that is due is its whole tick; the button goes by the verdict on the phase. -/
theorem tickEventsHappenWhenDue : Obligations.TickEventsHappenWhenDue := by
  refine ⟨fun samples u hp => ?_, fun samples u hp => ?_⟩
  · intro s now
    generalize hv : phaseVerdict samples u = v
    have hs : beforeTick samples u = s := beforeTick_of_on samples hp
    have hps : s.power = .on := (power_readSense _ u).trans hp
    have htick : exec (.decisecondTick samples) u = .next (recomputeAttn (tick v s)) := by
      rw [exec_decisecondTick samples hp, tickAfter, hv]
    have hrow (due : State → Bool) (h : due s = true) :
        tickWhen due (phaseVerdict samples u) (beforeTick samples u) = .next (recomputeAttn (tick v s)) := by
      rw [hv, hs]
      exact tickWhen_due hps h
    refine ⟨fun h => ⟨_, hrow (fun s => isDecayTick (nextCount s)) (beq_iff_eq.2 h), htick, fun id r hr => ?_⟩,
      fun id r hr hl => ⟨_, _, hrow (lockoutDue id) (lockoutDue_of hr hl), htick,
        (tick_creds_get v s id).trans (congrArg (tickCredential _ _ _) hr), ?_⟩,
      fun st g hg hd => ⟨_, hrow (grantDue st) (grantDue_of hg hd), htick, ?_⟩,
      fun m limit n absorbed h => ⟨_, hrow idleDue (idleDue_of h), htick, ?_, ?_⟩,
      fun reached h hh => ?_,
      fun h hg => ⟨_, hrow gapDue (gapDue_of h hg), htick, (tick_line v s).trans (if_pos ⟨h, hg⟩), tick_txNow v s,
        tick_txNext v s⟩,
      fun h hno => ⟨_, hrow pulseDue (pulseDue_of h), htick, ?_⟩⟩
    · refine ⟨_, (tick_creds_get v s id).trans (congrArg (tickCredential _ _ _) hr), ?_, rfl, tick_store v s⟩
      exact if_pos (beq_iff_eq.2 h)
    · simp only [hl, tickLockout]
      exact if_pos rfl
    · refine (congrArg StationRec.grant (tick_stations_get v s st)).trans ?_
      rw [hg, Option.filter_some, hd]
      exact if_neg (by simp [now, nextCount])
    · refine (tick_stream v s).trans ?_
      change s.stream.ticked now = _
      rw [h]
      exact if_pos rfl
    · refine (congrArg (fun x => x.get 2) (tick_conditions v s)).trans ((tickedConditions_get s 2).trans ?_)
      exact if_pos ⟨rfl, Stream.ticked_ne h⟩
    · obtain ⟨n, hn⟩ := Pulse.request_driving s.time.pulse.tick
      refine ⟨_, n, hrow timerDue (timerDue_of h hh), htick, ?_, ?_⟩
      · refine (tick_timer v s).trans ?_
        change s.timer.ticked now s.hold = _
        rw [h, hh]
        exact if_pos rfl
      · exact ((tick_pulse v s).trans (tickedTime_pulse_asked h hh)).trans hn
    · have hkept : (tickedTime s).pulse = s.time.pulse.tick :=
        tickedTime_pulse_kept fun reached hr => absurd hr (hno _ reached)
      rw [h] at hkept
      exact (tick_pulse v s).trans hkept
  · intro s periods low high
    have hn : phasePeriods u.time.phase = periods := by
      rw [phasePeriods_eq, ← phase_readSense samples.sense u]
    obtain ⟨hlow, hhigh, hmixed⟩ := phaseVerdict_cases samples u hn (low := low) (high := high) Iff.rfl Iff.rfl
    refine ⟨tickAfter samples u, exec_decisecondTick samples hp, tick_firstTick _ s, fun hf => ?_,
      fun hf => ⟨fun hl hh => ?_, fun hh => ?_, fun hl hb => ?_, fun hl hb => ?_, fun hl hb hlt => ?_,
        fun hl hb hle => ?_⟩⟩
    · rw [tickAfter, tick_first (s := s) hf]
      exact ⟨rfl, rfl, rfl⟩
    · rw [tickAfter, hmixed hl hh, tick_later (s := s) hf, tickButton_mixed]
      exact ⟨rfl, rfl, rfl⟩
    · rw [tickAfter, hhigh hh, tick_later (s := s) hf]
      exact tickButton_high (s := ticked s)
    · rw [tickAfter, hlow hl, tick_later (s := s) hf, tickButton_starts (s := ticked s) hb]
      exact ⟨rfl, rfl, rfl, rfl⟩
    · rw [tickAfter, hlow hl, tick_later (s := s) hf, tickButton_fired (s := ticked s) hb]
      exact ⟨hb, rfl⟩
    · rw [tickAfter, hlow hl, tick_later (s := s) hf, tickButton_counts (s := ticked s) hb hlt]
      exact ⟨hb, rfl, rfl⟩
    · have hps : s.power = .on := (power_readSense _ u).trans hp
      have hhold : exec .buttonHoldEvent s = .next (tickAfter samples u) := by
        rw [tickAfter, hlow hl]
        exact tickWhen_due (due := holdDue) (v := .low) hps (holdDue_of hf hb hle)
      rw [tickAfter, hlow hl, tick_later (s := s) hf, tickButton_fires (s := ticked s) hb hle] at hhold ⊢
      refine ⟨hhold, rfl, fun hfault => ?_, fun hfault hno => ?_, fun hfault before after a b hq hno => ?_⟩
      · exact queueButtonReset_inFault hfault
      · exact queueButtonReset_new hfault hno
      · exact queueButtonReset_waiting hfault hq hno

end Sys2Proof.Machine
end

section
/-! PROOFS. The sensed SoC reset, and the sampler that senses it (O48). -/

namespace Sys2Proof.Machine

open Sys2Proof

variable {s t u : State} {v : PhaseVerdict}

/-! ### The notes of the waiting jobs undone (R9, R115, R178) -/

/-- The general slot that a creating work has reserved (R9). -/
def Work.reservedSlot : Work → Option Slot
  | .keyGenerate p _ => some p.slot
  | .keyImport p _ => some p.slot
  | .keyDerive _ _ _ target _ _ _ => some target
  | _ => none

/-- The id that a CRED_SET of an EMPTY id has reserved (R115). -/
def Work.reservedId : Work → Option CredId
  | .credSet p false _ => some p.id
  | _ => none

/-- The slot that a job has reserved. -/
def Job.reservedSlot : Job → Option Slot
  | .station j => j.work.reservedSlot
  | _ => none

/-- The id that a job has reserved. -/
def Job.reservedId : Job → Option CredId
  | .station j => j.work.reservedId
  | _ => none

/-- A slot that is given back, if it is RESERVED. -/
def KeySlot.givenBack (k : KeySlot) : KeySlot := if k.isReserved then .empty else k

/-- A credential that is given back, if it is RESERVED. -/
def Credential.givenBack (c : Credential) : Credential := if c.isReserved then .empty else c

/-- The reserved slots and ids named are EMPTY, the stream may have moved, and nothing else is changed. -/
structure Undone (slots : List Slot) (ids : List CredId) (s t : State) : Prop where
  keys : ∀ slot, t.keys.get slot = if slot ∈ slots then (s.keys.get slot).givenBack else s.keys.get slot
  creds : ∀ id, t.creds.get id = if id ∈ ids then (s.creds.get id).givenBack else s.creds.get id
  rest : t = { s with keys := t.keys, creds := t.creds, stream := t.stream }

theorem KeySlot.givenBack_givenBack (k : KeySlot) : k.givenBack.givenBack = k.givenBack := by cases k <;> rfl

theorem Credential.givenBack_givenBack (c : Credential) : c.givenBack.givenBack = c.givenBack := by cases c <;> rfl

theorem Undone.refl (s : State) : Undone [] [] s s where
  keys _ := by simp
  creds _ := by simp
  rest := rfl

/-- A choice by membership in two lists, one after the other. -/
theorem ite_mem_append {α β : Type} [DecidableEq α] {f : β → β} (hf : ∀ y, f (f y) = f y) (x : α) (a b : List α)
    (y : β) :
    (if x ∈ b then f (if x ∈ a then f y else y) else (if x ∈ a then f y else y)) = if x ∈ a ++ b then f y else y := by
  by_cases ha : x ∈ a <;> by_cases hb : x ∈ b <;> simp [ha, hb, hf]

theorem Undone.trans {slots slots' : List Slot} {ids ids' : List CredId} (h : Undone slots ids s t)
    (h' : Undone slots' ids' t u) : Undone (slots ++ slots') (ids ++ ids') s u where
  keys slot := by
    rw [h'.keys, h.keys]
    exact ite_mem_append KeySlot.givenBack_givenBack slot slots slots' _
  creds id := by
    rw [h'.creds, h.creds]
    exact ite_mem_append Credential.givenBack_givenBack id ids ids' _
  rest := by
    refine h'.rest.trans ?_
    generalize u.keys = keys, u.creds = creds, u.stream = stream
    rw [h.rest]

theorem undone_freeSlot (slot : Slot) (s : State) : Undone [slot] [] s (freeSlot slot s) where
  keys x := by
    simp only [freeSlot, Tbl.get_set, List.mem_singleton]
    by_cases hx : x = slot
    · rw [if_pos hx, if_pos hx, hx]; rfl
    · rw [if_neg hx, if_neg hx]
  creds _ := by simp [freeSlot]
  rest := rfl

theorem undone_freeCred (id : CredId) (s : State) : Undone [] [id] s (freeCred id s) where
  keys _ := by simp [freeCred]
  creds x := by
    simp only [freeCred, Tbl.get_set, List.mem_singleton]
    by_cases hx : x = id
    · rw [if_pos hx, if_pos hx, hx]; rfl
    · rw [if_neg hx, if_neg hx]
  rest := rfl

/-- With the trial timer stopped there is no hold to clear. -/
theorem clearHold_stopped (ht : s.timer = .stopped) (hh : s.hold = false) : clearHold s = s := by
  simp only [clearHold, ht, TrialTimer.overdue, Bool.false_eq_true, if_false]
  rw [← hh, ← ht]

theorem undone_releaseWork (w : Work) (ht : s.timer = .stopped) (hh : s.hold = false) :
    Undone w.reservedSlot.toList w.reservedId.toList s (releaseWork w s) := by
  cases w with
  | keyGenerate p _ => exact undone_freeSlot p.slot s
  | keyImport p _ => exact undone_freeSlot p.slot s
  | keyDerive _ _ _ target _ _ _ => exact undone_freeSlot target s
  | credSet p change _ =>
    cases change with
    | true => exact .refl s
    | false => exact undone_freeCred p.id s
  | bootConfirm c =>
    change Undone [] [] s (clearHold s)
    rw [clearHold_stopped ht hh]
    exact .refl s
  | _ => exact .refl s

theorem undone_releaseStream (w : Work) (s : State) : Undone [] [] s (releaseStream w s) where
  keys _ := by cases w <;> rfl
  creds _ := by cases w <;> rfl
  rest := by cases w <;> rfl

theorem undone_undoJob (j : Job) (ht : s.timer = .stopped) (hh : s.hold = false) :
    Undone j.reservedSlot.toList j.reservedId.toList s (undoJob j s) := by
  cases j with
  | station j =>
    have h := (undone_releaseWork j.work ht hh).trans (undone_releaseStream j.work _)
    rwa [List.append_nil, List.append_nil] at h
  | _ => exact .refl s

theorem Undone.timer {slots : List Slot} {ids : List CredId} (h : Undone slots ids s t) : t.timer = s.timer := by
  rw [h.rest]

theorem Undone.hold {slots : List Slot} {ids : List CredId} (h : Undone slots ids s t) : t.hold = s.hold := by
  rw [h.rest]

theorem filterMap_cons_toList {α β : Type} (f : α → Option β) (a : α) (l : List α) :
    (a :: l).filterMap f = (f a).toList ++ l.filterMap f := by
  cases h : f a <;> simp [h]

theorem undone_foldl (q : List Job) (ht : s.timer = .stopped) (hh : s.hold = false) :
    Undone (q.filterMap Job.reservedSlot) (q.filterMap Job.reservedId) s
      (q.foldl (fun s j => undoJob j s) s) := by
  induction q generalizing s with
  | nil => exact .refl s
  | cons j q ih =>
    have hj := undone_undoJob (s := s) j ht hh
    rw [filterMap_cons_toList, filterMap_cons_toList]
    exact hj.trans (ih (hj.timer.trans ht) (hj.hold.trans hh))

/-! ### The SoC reset as one equation (R178) -/

/-- The keys after the waiting jobs' slots are given back and the EPOCH keys erased (R9, R28). -/
def resetKeys (s : State) : Tbl KeySlot 64 :=
  s.keys.mapFin fun slot k =>
    (if slot ∈ s.queue.filterMap Job.reservedSlot then k.givenBack else k).endEpoch

/-- The credentials after the waiting jobs' ids are given back (R115). -/
def resetCreds (s : State) : Tbl Credential 16 :=
  s.creds.mapFin fun id c => if id ∈ s.queue.filterMap Job.reservedId then c.givenBack else c

theorem trialAccount_mem_withdrawn {q : List Job} : Job.trialAccount ∈ q.filterMap Job.withdrawn ↔ .trialAccount ∈ q := by
  have hone (j : Job) : j.withdrawn = some .trialAccount ↔ j = .trialAccount := by
    cases j with
    | ownerReset a b => cases a <;> cases b <;> simp [Job.withdrawn]
    | _ => simp [Job.withdrawn]
  simp [List.mem_filterMap, hone]

/-- The queue after a SoC reset (R102, R178). -/
def resetQueue (s : State) : List Job :=
  if s.fault = true ∨ .trialAccount ∈ s.queue then s.queue.filterMap Job.withdrawn
  else s.queue.filterMap Job.withdrawn ++ [.trialAccount]

theorem socReset_eq (s : State) :
    socReset s
      = { s with
          time := { s.time with senseAsserted := true, senseLow := true }
          stations := .ofFn StationRec.atBoot
          globalMask := false
          chains := s.chains.mapFin fun c r => if c.val < 10 then .cleared else r
          log := s.log.filter fun e => decide (10 ≤ e.chain.val)
          keys := resetKeys s
          creds := resetCreds s
          running := s.running.map fun r => { r with crossed := true }
          queue := resetQueue s
          stream := .closed
          targets := .replicate 8 none
          timer := .stopped
          hold := false
          socResets := min (s.socResets + 1) Config.resetCap
          line := .ignoring
          gap := false
          txNow := (cutTransmitter s).txNow
          txNext := none } := by
  have h := undone_foldl (s := stopTrialTimer (senseReset s)) s.queue rfl rfl
  have hkeys := h.keys
  have hcreds := h.creds
  have hrest := h.rest
  unfold socReset removeStationJobs
  simp only [show (stopTrialTimer (senseReset s)).queue = s.queue from rfl]
  generalize s.queue.foldl (fun s j => undoJob j s) (stopTrialTimer (senseReset s)) = x at hkeys hcreds hrest ⊢
  have hk : x.keys.map KeySlot.endEpoch = resetKeys s :=
    Tbl.ext_get fun slot => by rw [Tbl.get_map, hkeys, resetKeys, Tbl.get_mapFin]; rfl
  have hc : x.creds = resetCreds s :=
    Tbl.ext_get fun id => by rw [hcreds, resetCreds, Tbl.get_mapFin]; rfl
  rw [hrest]
  simp only [lineIdle, cutTransmitter, queueTrialAccount, dropUpdates, countSocReset, clearBootChains, eraseEpochKeys,
    resetStations, crossRunning, hk, hc]
  have hq : (if s.fault || (s.queue.filterMap Job.withdrawn).contains .trialAccount
      then s.queue.filterMap Job.withdrawn else s.queue.filterMap Job.withdrawn ++ [.trialAccount]) = resetQueue s := by
    simp only [resetQueue, Bool.or_eq_true, List.contains_iff_mem, trialAccount_mem_withdrawn]
  rw [← hq]
  rfl

/-! ### The fields after a SoC reset -/

theorem socReset_stations (s : State) (st : Station) :
    (socReset s).stations.get st
      = { state := if st = 0 then .opened else .waiting, slot := none, masked := false, grant := none } := by
  rw [socReset_eq]
  refine (Tbl.get_ofFn ..).trans ?_
  by_cases h : st = 0
  · subst h; rfl
  · have hv : st.val ≠ 0 := fun hv => h (Fin.ext hv)
    simp only [StationRec.atBoot, StationRec.waiting, if_neg h, if_neg hv]

theorem resetKeys_get (s : State) (slot : Slot) :
    (resetKeys s).get slot = match s.keys.get slot with
      | .empty => .empty
      | .reserved o => if slot ∈ s.queue.filterMap Job.reservedSlot then .empty else .reserved o
      | .active k => if k.persistence = .epoch then .empty else .active k := by
  rw [resetKeys, Tbl.get_mapFin]
  by_cases h : slot ∈ s.queue.filterMap Job.reservedSlot
  · simp only [if_pos h]
    cases s.keys.get slot <;> rfl
  · simp only [if_neg h]
    cases s.keys.get slot <;> rfl

theorem resetCreds_get (s : State) (id : CredId) :
    (resetCreds s).get id = match s.creds.get id with
      | .reserved => if id ∈ s.queue.filterMap Job.reservedId then .empty else .reserved
      | other => other := by
  rw [resetCreds, Tbl.get_mapFin]
  by_cases h : id ∈ s.queue.filterMap Job.reservedId
  · simp only [if_pos h]
    cases s.creds.get id <;> rfl
  · simp only [if_neg h]
    cases s.creds.get id <;> rfl

/-! ### The level of ATTN is nothing to the tick and the sampler -/

/-- A state with another level of ATTN. -/
def State.withAttn (b : Bool) (s : State) : State := { s with attn := b }

theorem socReset_withAttn (b : Bool) (s : State) : socReset (s.withAttn b) = (socReset s).withAttn b := by
  rw [socReset_eq, socReset_eq]
  rfl

theorem senseSample_withAttn (b : Bool) (s : State) (low : Bool) :
    senseSample (s.withAttn b) low = (senseSample s low).withAttn b := by
  have htime : (s.withAttn b).time = s.time := rfl
  unfold senseSample
  rw [htime]
  split
  · split
    · exact socReset_withAttn b s
    · rfl
  · rfl

theorem readSense_withAttn (b : Bool) (samples : List Bool) (s : State) :
    readSense samples (s.withAttn b) = (readSense samples s).withAttn b := by
  induction samples generalizing s with
  | nil => rfl
  | cons low rest ih => rw [readSense_cons, readSense_cons, senseSample_withAttn, ih]

theorem tickButton_withAttn (b : Bool) (v : PhaseVerdict) (s : State) :
    tickButton v (s.withAttn b) = (tickButton v s).withAttn b := by
  have htime : (s.withAttn b).time = s.time := rfl
  unfold tickButton
  rw [htime]
  cases s.time.button <;> cases v
  case holding.low => dsimp only; split <;> rfl
  all_goals rfl

theorem tick_withAttn (b : Bool) (v : PhaseVerdict) (s : State) : tick v (s.withAttn b) = (tick v s).withAttn b := by
  rw [tick_eq, tick_eq]
  change closePhase v ((ticked s).withAttn b) = _
  cases h : (ticked s).time.firstTick with
  | true =>
    rw [closePhase_first h, closePhase_first (s := (ticked s).withAttn b) h]
    rfl
  | false =>
    rw [closePhase_later h, closePhase_later (s := (ticked s).withAttn b) h]
    exact tickButton_withAttn b v (ticked s)

theorem recomputeAttn_withAttn (b : Bool) (s : State) : recomputeAttn (s.withAttn b) = recomputeAttn s := rfl

theorem recomputeAttn_eq_withAttn (s : State) : recomputeAttn s = s.withAttn (attnLevel s) := rfl

theorem tickWhen_withAttn {due : State → Bool} (hdue : ∀ s b, due (s.withAttn b) = due s) (b : Bool)
    (hp : s.power = .on) : tickWhen due v (s.withAttn b) = tickWhen due v s := by
  rw [tickWhen, tickWhen, whenOn_on (s := s.withAttn b) hp, whenOn_on hp, hdue]
  split
  · rw [tick_withAttn, recomputeAttn_withAttn]
  · rfl

theorem tickEvent_withAttn (b : Bool) (hp : s.power = .on) : tickEvent v (s.withAttn b) = tickEvent v s := by
  have hp' : (s.withAttn b).power = .on := hp
  simp only [tickEvent, hp, hp']
  rw [tick_withAttn, recomputeAttn_withAttn]

/-! ### The rows that bring samples (R155) -/

/-- A row that brings the samples of its phase. -/
def BringsSamples (row : PhaseSamples → Instr) : Prop :=
  row ∈ [.decisecondTick, .decayTick, .idleDeadlineExpiry, .trialTimerExpiry, .gapTimeout, .socrstPulseEnd]
    ∨ (∃ id, row = .lockoutEnd id) ∨ (∃ st, row = .grantExpiry st)

/-- Such a row goes by the verdict on its phase and the state after the samples, whatever the level of ATTN there. -/
theorem BringsSamples.exec_eq {row : PhaseSamples → Instr} (h : BringsSamples row) :
    ∃ f : PhaseVerdict → State → Host.Outcome State Fault Refusal,
      (∀ samples s, exec (row samples) s = f (phaseVerdict samples s) (beforeTick samples s))
        ∧ ∀ v s b, s.power = .on → f v (s.withAttn b) = f v s := by
  have hevent : ∀ v s b, s.power = .on → tickEvent v (s.withAttn b) = tickEvent v s :=
    fun v s b hp => tickEvent_withAttn b hp
  have hwhen {due : State → Bool} (hdue : ∀ s b, due (s.withAttn b) = due s) :
      ∀ v s b, s.power = .on → tickWhen due v (s.withAttn b) = tickWhen due v s :=
    fun v s b hp => tickWhen_withAttn hdue b hp
  rcases h with hrow | ⟨id, rfl⟩ | ⟨st, rfl⟩
  · simp only [List.mem_cons, List.not_mem_nil, or_false] at hrow
    rcases hrow with rfl | rfl | rfl | rfl | rfl | rfl
    · exact ⟨tickEvent, fun _ _ => rfl, hevent⟩
    · exact ⟨tickWhen fun s => isDecayTick (nextCount s), fun _ _ => rfl, hwhen fun _ _ => rfl⟩
    · exact ⟨tickWhen idleDue, fun _ _ => rfl, hwhen fun _ _ => rfl⟩
    · exact ⟨tickWhen timerDue, fun _ _ => rfl, hwhen fun _ _ => rfl⟩
    · exact ⟨tickWhen gapDue, fun _ _ => rfl, hwhen fun _ _ => rfl⟩
    · exact ⟨tickWhen pulseDue, fun _ _ => rfl, hwhen fun _ _ => rfl⟩
  · exact ⟨tickWhen (lockoutDue id), fun _ _ => rfl, hwhen fun _ _ => rfl⟩
  · exact ⟨tickWhen (grantDue st), fun _ _ => rfl, hwhen fun _ _ => rfl⟩

/-- The first sample of a row is read before the row of the others. -/
theorem BringsSamples.exec_cons {row : PhaseSamples → Instr} (h : BringsSamples row) (button : Tbl Bool 26)
    (low : Bool) (rest : List Bool) (hp : s.power = .on) :
    exec (row ⟨button, low :: rest⟩) s = exec (row ⟨button, rest⟩) (senseSample s low) := by
  obtain ⟨f, hexec, -⟩ := h.exec_eq
  have hps : (senseSample s low).power = .on := (power_readSense [low] s).trans hp
  have hverdict : phaseVerdict ⟨button, rest⟩ (senseSample s low) = phaseVerdict ⟨button, low :: rest⟩ s := by
    rw [phaseVerdict, phase_senseSample]
    rfl
  rw [hexec, hexec, hverdict, beforeTick_of_on _ hp, beforeTick_of_on _ hps, readSense_cons]

/-- Such a row is nothing to the level of ATTN before it. -/
theorem BringsSamples.exec_recomputeAttn {row : PhaseSamples → Instr} (h : BringsSamples row)
    (samples : PhaseSamples) (hp : s.power = .on) :
    exec (row samples) (recomputeAttn s) = exec (row samples) s := by
  obtain ⟨f, hexec, hattn⟩ := h.exec_eq
  have hp' : (recomputeAttn s).power = .on := hp
  rw [hexec, hexec, beforeTick_of_on _ hp, beforeTick_of_on _ hp', recomputeAttn_eq_withAttn, readSense_withAttn]
  exact hattn _ _ _ ((power_readSense _ s).trans hp)

theorem exec_socResetSensed (hp : s.power = .on) :
    exec .socResetSensed s = .next (recomputeAttn (readSense [true, true] s)) := whenOn_on hp

theorem exec_socrstSenseReleased (hp : s.power = .on) :
    exec .socrstSenseReleased s = .next (recomputeAttn (readSense [false, false] s)) := whenOn_on hp

/-- The second of two samples alike that moves the sampler makes the move that two such samples make. -/
theorem readSense_twice {low : Bool} (hl : low = s.time.senseLow) (hn : low ≠ s.time.senseAsserted) :
    readSense [low, low] s = senseSample s low := by
  cases low with
  | true =>
    have ha : s.time.senseAsserted = false := by simpa using hn.symm
    have hmove : senseSample s true = socReset s := if_pos ⟨hl, hn⟩
    rw [readSense_lows, ha, hmove]
    rfl
  | false =>
    have hmove : senseSample s false = senseReleased s := if_pos ⟨hl, hn⟩
    rw [readSense_highs, hmove]

/-- Settles O48: the sampler's moves sample by sample, and the SoC reset field by field. -/
theorem socResetEndsTheBoot : Obligations.SocResetEndsTheBoot := by
  intro s hp holding freedSlots freedIds kept
  refine ⟨fun ha => ⟨?_, ?_⟩, fun ha => ?_, fun row button low rest hrow => ⟨fun h => ?_, fun hl hn => ?_⟩, fun ha => ?_⟩
  · rw [exec_socResetSensed hp, readSense_lows, if_pos ha]
  · rw [exec_socrstSenseReleased hp, readSense_highs, senseReleased]
  · rw [exec_socrstSenseReleased hp, readSense_highs, senseReleased, ← ha]
  · have hsample : senseSample s low = holding low := if_neg fun hmove => hmove.2 (h hmove.1)
    rw [BringsSamples.exec_cons hrow button low rest hp, hsample]
  · refine ⟨recomputeAttn (senseSample s low), ?_, ?_⟩
    · rw [← readSense_twice hl hn]
      cases low with
      | true => exact exec_socResetSensed hp
      | false => exact exec_socrstSenseReleased hp
    · have hps : (senseSample s low).power = .on := (power_readSense [low] s).trans hp
      rw [BringsSamples.exec_cons hrow button low rest hp, BringsSamples.exec_recomputeAttn hrow _ hps]
  · have hslots : freedSlots = s.queue.filterMap Job.reservedSlot := by
      refine congrArg (fun f => s.queue.filterMap f) (funext fun j => ?_)
      cases j with
      | station j => cases j.work <;> rfl
      | _ => rfl
    have hids : freedIds = s.queue.filterMap Job.reservedId := by
      refine congrArg (fun f => s.queue.filterMap f) (funext fun j => ?_)
      cases j with
      | station j =>
        cases j.work with
        | credSet p change c => cases change <;> rfl
        | _ => rfl
      | _ => rfl
    have hkept : kept = s.queue.filterMap Job.withdrawn := by
      refine congrArg (fun f => s.queue.filterMap f) (funext fun j => ?_)
      cases j with
      | ownerReset a b => cases a <;> cases b <;> rfl
      | _ => rfl
    rw [hslots, hids, hkept]
    refine ⟨recomputeAttn (socReset s), ?_, socReset_stations s, fun c => ?_, ?_, fun slot => ?_, fun id => ?_, ?_, ?_,
      fun i => ?_, ?_, ?_, ?_⟩
    · rw [exec_socResetSensed hp, readSense_lows, ha]
      rfl
    all_goals rw [socReset_eq]
    · exact Tbl.get_mapFin ..
    · rfl
    · exact resetKeys_get s slot
    · exact resetCreds_get s id
    · rfl
    · rfl
    · exact Tbl.get_replicate ..
    · rfl
    · change s.txNow.map _ = _
      cases s.txNow with
      | none => rfl
      | some i => cases i <;> rfl
    · rfl

end Sys2Proof.Machine
end

section
/-! PROOFS. The line interface, the transmitter and the CRC (O50, O51). -/

namespace Sys2Proof.Machine

open Sys2Proof

variable {s t u : State}

/-! ### The CRC (R185) -/

/-- A register whose top bit is clear is doubled. -/
theorem crcShift_small {r : BitVec 16} (h : r.toNat < 32768) : (crcShift r).toNat = 2 * r.toNat := by
  have hmsb : r.msb = false := by
    rw [BitVec.msb_eq_decide]
    exact decide_eq_false (by omega)
  rw [crcShift, hmsb, if_neg Bool.false_ne_true, BitVec.toNat_shiftLeft, Nat.shiftLeft_eq]
  omega

/-- A register whose high byte is clear moves up by a bit for each of at most 8 shifts. -/
theorem crcShift_iterate {r : BitVec 16} (h : r.toNat < 256) :
    ∀ k ≤ 8, (crcShift^[k] r).toNat = 2 ^ k * r.toNat
  | 0, _ => (Nat.one_mul _).symm
  | k + 1, hk => by
    have ih := crcShift_iterate h k (by omega)
    have hpow : 2 ^ k ≤ 2 ^ 7 := Nat.pow_le_pow_right (by decide) (by omega)
    have hlt : 2 ^ k * r.toNat < 32768 :=
      calc 2 ^ k * r.toNat ≤ 2 ^ 7 * r.toNat := Nat.mul_le_mul_right _ hpow
        _ < 32768 := by omega
    rw [Function.iterate_succ_apply', crcShift_small (ih ▸ hlt), ih, Nat.pow_succ]
    ring

/-- The register with a byte added to its high byte. -/
def crcAdd (r : BitVec 16) (b : Byte) : BitVec 16 := r ^^^ (b.zeroExtend 16 <<< 8)

/-- A byte that clears the register's high byte leaves the low byte there. -/
theorem crcByte_cleared {r : BitVec 16} {b : Byte} (h : (crcAdd r b).toNat < 256) :
    (crcByte r b).toNat = (crcAdd r b).toNat * 256 :=
  (crcShift_iterate h 8 (Nat.le_refl 8)).trans (Nat.mul_comm _ _)

theorem toNat_addend (b : Byte) : (b.zeroExtend 16 <<< 8).toNat = b.toNat * 256 := by
  have hb := b.isLt
  simp only [BitVec.truncate_eq_setWidth, BitVec.toNat_shiftLeft, BitVec.toNat_setWidth, Nat.shiftLeft_eq]
  omega

/-- The register's own high byte clears it. -/
theorem crcAdd_high (r : BitVec 16) : (crcAdd r (byte (r.toNat / 256))).toNat = r.toNat % 256 := by
  have hr := r.isLt
  have hhigh : (byte (r.toNat / 256)).toNat * 256 = r.toNat / 2 ^ 8 * 2 ^ 8 := by
    rw [byte_toNat]
    omega
  rw [crcAdd, BitVec.toNat_xor, toNat_addend, hhigh, show (256 : Nat) = 2 ^ 8 from rfl]
  refine Nat.eq_of_testBit_eq fun i => ?_
  rw [Nat.testBit_xor, Nat.testBit_mul_two_pow, Nat.testBit_div_two_pow, Nat.testBit_mod_two_pow]
  by_cases hi : i < 8
  · simp [hi, Nat.not_le.2 hi]
  · simp [hi, Nat.not_lt.1 hi]

/-- A register with its low byte clear is cleared by its high byte. -/
theorem crcAdd_same {r : BitVec 16} {b : Byte} (h : r.toNat = b.toNat * 256) : (crcAdd r b).toNat = 0 := by
  rw [crcAdd, BitVec.toNat_xor, toNat_addend, h, Nat.xor_self]

/-- The CRC run on over a byte string and its CRC ends at zero. -/
theorem crc16_withCrc (bytes : List Byte) : crc16 (withCrc bytes) = 0 := by
  have hrun : crc16 (withCrc bytes)
      = crcByte (crcByte (crc16 bytes) (byte ((crc16 bytes).toNat / 256))) (byte (crc16 bytes).toNat) := by
    simp only [crc16, withCrc, be16, List.foldl_append, List.foldl_cons, List.foldl_nil]
  rw [hrun]
  generalize crc16 bytes = r
  have hlow : (crcAdd r (byte (r.toNat / 256))).toNat < 256 := by
    rw [crcAdd_high]
    exact Nat.mod_lt _ (by decide)
  have hhigh : (crcByte r (byte (r.toNat / 256))).toNat = (byte r.toNat).toNat * 256 := by
    rw [crcByte_cleared hlow, crcAdd_high, byte_toNat]
  have hzero := crcAdd_same hhigh
  refine BitVec.eq_of_toNat_eq ?_
  rw [crcByte_cleared (by rw [hzero]; decide), hzero]
  rfl

theorem crc16_checkText : crc16 [0x31, 0x32, 0x33, 0x34, 0x35, 0x36, 0x37, 0x38, 0x39] = 0x29B1 := by decide +kernel

/-! ### Characters on the line (R181 to R187) -/

section Characters

variable {st : Station} {value : Byte} {chars : List Byte}

theorem exec_addressCharacter (hp : s.power = .on) (value : Byte) :
    exec (.addressCharacter value) s = .next (recomputeAttn (addressCharacter value s)) := whenOn_on hp

theorem exec_dataCharacter (hp : s.power = .on) (value : Byte) :
    exec (.dataCharacter value) s = .next (recomputeAttn (dataCharacter value s)) := whenOn_on hp

/-- An address of the part selects its station. -/
theorem addressCharacter_own (h : value.toNat = s.settings.addressBase + st) :
    addressCharacter value s = { s with line := .selected st, gap := true } := by
  have haddressed : addressed value s = some st := by
    have hle : s.settings.addressBase ≤ value.toNat := by omega
    have hval : value.toNat - s.settings.addressBase = st := by omega
    rw [addressed, if_pos hle, hval, fin?, dif_pos st.isLt]
  simp only [addressCharacter, haddressed]

/-- Another address is none of the part's. -/
theorem addressed_other (h : value.toNat < s.settings.addressBase ∨ s.settings.addressBase + 4 ≤ value.toNat) :
    addressed value s = none := by
  unfold addressed
  split
  · exact dif_neg (by omega)
  · rfl

theorem addressCharacter_other
    (h : value.toNat < s.settings.addressBase ∨ s.settings.addressBase + 4 ≤ value.toNat) :
    addressCharacter value s = if s.line = .ignoring then s else lineIdle s := by
  simp only [addressCharacter, addressed_other h]

theorem dataCharacter_ignored (h : s.line = .ignoring) : dataCharacter value s = s := by
  simp only [dataCharacter, h]

theorem dataCharacter_selected (h : s.line = .selected st) : dataCharacter value s = assemble st [value] s := by
  simp only [dataCharacter, h]

theorem dataCharacter_assembling (h : s.line = .assembling st chars) :
    dataCharacter value s = assemble st (chars ++ [value]) s := by
  simp only [dataCharacter, h]

/-- A frame goes on while its length is not there, or is within its bounds and not reached. -/
theorem assemble_goesOn (h : chars.length < 4
      ∨ 4 ≤ chars.length ∧ nat16At chars 2 ≤ 1100 ∧ chars.length < nat16At chars 2 + 6) :
    assemble st chars s = { s with line := .assembling st chars, gap := true } := by
  have hcap : Config.bodyCap = 1100 := rfl
  have hlong : ¬(chars.length = 4 ∧ Config.bodyCap < frameLength chars) := by
    rw [hcap, frameLength]
    omega
  have hend : ¬(4 ≤ chars.length ∧ chars.length = frameLength chars + 6) := by
    rw [frameLength]
    omega
  rw [assemble, if_neg hlong, if_neg hend]

/-- A body length over the limit ends the frame. -/
theorem assemble_tooLong (hl : chars.length = 4) (h : 1100 < nat16At chars 2) : assemble st chars s = frameBad s :=
  if_pos ⟨hl, h⟩

/-- A frame whose last character has come is compared with its CRC. -/
theorem assemble_ends (h4 : 4 < chars.length) (hl : chars.length = nat16At chars 2 + 6) :
    assemble st chars s = endFrame st chars s := by
  have hlong : ¬(chars.length = 4 ∧ Config.bodyCap < frameLength chars) := fun h => by omega
  rw [assemble, if_neg hlong, if_pos ⟨Nat.le_of_lt h4, hl⟩]

theorem endFrame_mismatch
    (h : nat16At chars (nat16At chars 2 + 4) ≠ (crc16 (chars.take (nat16At chars 2 + 4))).toNat) :
    endFrame st chars s = frameBad s := if_pos h

/-- A frame with its CRC is the command of its request. -/
theorem endFrame_correct
    (h : nat16At chars (nat16At chars 2 + 4) = (crc16 (chars.take (nat16At chars 2 + 4))).toNat)
    (hcap : nat16At chars 2 ≤ 1100) :
    endFrame st chars s
      = frameArrives st (byteAt chars 0) (ReqCode.ofByte (byteAt chars 0)) (byteAt chars 1)
          ((chars.drop 4).take (nat16At chars 2)) s := by
  have hbody : ¬Config.bodyCap < ((chars.drop 4).take (nat16At chars 2)).length := by
    have hlen := List.length_take_le (nat16At chars 2) (chars.drop 4)
    have hcapped : Config.bodyCap = 1100 := rfl
    omega
  rw [frameArrives, if_neg hbody]
  exact if_neg (not_not.2 h)

end Characters

/-- A frame that has come while an item waits is discarded. -/
theorem exec_frame_discarded {c : Instr} {body : List Byte} (hp : s.power = .on) (hc : c.frameBody? = some body)
    (hb : body.length ≤ 1100) (hw : s.txNext ≠ none) :
    exec c s = .next (recomputeAttn
      { s with line := .ignoring, gap := false, conditions := s.conditions.set 0 (some s.time.uptime) }) := by
  have hframe : ∃ st code req flags, exec c s = whenOn (frameArrives st code req flags body) s := by
    cases c <;> cases hc <;> exact ⟨_, _, _, _, rfl⟩
  obtain ⟨st, code, req, flags, hexec⟩ := hframe
  rw [hexec, whenOn_on hp, frameArrives_discarded hb hw]
  rfl

/-- A faulty frame: FRAME_BAD is handed to the transmitter. -/
theorem frameBad_eq (s : State) :
    frameBad s = { s with
      line := .ignoring
      gap := false
      conditions := s.conditions.set 0 (some s.time.uptime)
      txNow := some (s.txNow.getD (.receipt .frameBad))
      txNext := if s.txNow = none then s.txNext else some (s.txNext.getD (.receipt .frameBad)) } := by
  cases hnow : s.txNow with
  | none => simp [frameBad, raiseCond, handItem, lineIdle, hnow, Condition.index]
  | some item => cases hnext : s.txNext <;>
      simp [frameBad, raiseCond, handItem, lineIdle, hnow, hnext, Condition.index]

/-! ### The line interface in start-up (R191) -/

/-- The line interface and the transmitter stand as they were, and LINK_FRAME too. -/
structure LineKept (s t : State) : Prop where
  line : t.line = s.line
  gap : t.gap = s.gap
  txNow : t.txNow = s.txNow
  txNext : t.txNext = s.txNext
  linkFrame : t.conditions.get 0 = s.conditions.get 0

theorem LineKept.refl (s : State) : LineKept s s := ⟨rfl, rfl, rfl, rfl, rfl⟩

theorem LineKept.trans (h : LineKept s t) (h' : LineKept t u) : LineKept s u :=
  ⟨h'.line.trans h.line, h'.gap.trans h.gap, h'.txNow.trans h.txNow, h'.txNext.trans h.txNext,
    h'.linkFrame.trans h.linkFrame⟩

theorem lineKept_sweepKey (slot : Slot) (s : State) : LineKept s (sweepKey slot s) := by
  rw [sweepKey_eq]
  exact ⟨rfl, rfl, rfl, rfl,
    (sweptConditions_get _ _ _).trans (if_neg fun h => absurd h.1 (show (0 : Fin 11) ≠ 2 by decide))⟩

theorem lineKept_sweepClassFloor (c : ClassNo) (changed : Bool) (s : State) :
    LineKept s (sweepClassFloor c changed s) := by
  rw [sweepClassFloor_eq]
  exact ⟨rfl, rfl, rfl, rfl,
    (sweptConditions_get _ _ _).trans (if_neg fun h => absurd h.1 (show (0 : Fin 11) ≠ 2 by decide))⟩

theorem lineKept_partExtend (m : Marker) (s : State) : LineKept s (partExtend m s) := by
  rw [partExtend_eq]
  exact ⟨rfl, rfl, rfl, rfl,
    (extendedConditions_get _ _).trans (if_neg fun h => absurd h.1 (show (0 : Fin 11) ≠ 1 by decide))⟩

theorem lineKept_raiseCond {k : Condition} (hk : k ≠ .linkFrame) (s : State) : LineKept s (raiseCond k s) := by
  have hindex : (0 : Fin 11) ≠ k.index := by
    cases k with
    | linkFrame => exact absurd rfl hk
    | _ => decide
  exact ⟨rfl, rfl, rfl, rfl, Tbl.get_set_ne _ _ hindex⟩

theorem lineKept_eraseAndSweep (slot : Slot) (s : State) : LineKept s (eraseAndSweep slot s) :=
  (LineKept.mk rfl rfl rfl rfl rfl : LineKept s (setKey slot .empty s)).trans (lineKept_sweepKey slot _)

theorem lineKept_act {x : JobStep} (hx : x ≠ .raise .linkFrame) (s : State) : LineKept s (x.act s) := by
  cases x with
  | action c a =>
    simp only [JobStep.act]
    split
    · exact ⟨rfl, rfl, rfl, rfl, rfl⟩
    · exact ⟨rfl, rfl, rfl, rfl, rfl⟩
    · exact (lineKept_raiseCond (k := .actionSkipped) nofun s).trans ⟨rfl, rfl, rfl, rfl, rfl⟩
  | revokeSlot slot => exact (lineKept_raiseCond (k := .keyRevoked) nofun s).trans (lineKept_sweepKey slot _)
  | sweepClass c changed => exact lineKept_sweepClassFloor c changed s
  | marker m => exact lineKept_partExtend m s
  | raise k => exact lineKept_raiseCond (fun h => hx (h ▸ rfl)) s
  | charge id | success id | eraseCred id =>
    simp only [JobStep.act]
    split <;> exact ⟨rfl, rfl, rfl, rfl, rfl⟩
  | eraseKey slot =>
    simp only [JobStep.act]
    split
    · exact (lineKept_eraseAndSweep slot s).trans ⟨rfl, rfl, rfl, rfl, rfl⟩
    · exact .refl s
  | _ => exact ⟨rfl, rfl, rfl, rfl, rfl⟩

theorem lineKept_lose (x : JobStep) (s : State) : LineKept s (x.lose s) := by
  cases x with
  | keyRemove slot | eraseKey slot => exact lineKept_eraseAndSweep slot s
  | _ => exact ⟨rfl, rfl, rfl, rfl, rfl⟩

/-- Such a state with another store. -/
theorem LineKept.withStore (h : LineKept s t) (store : Store) : LineKept s { t with store } :=
  ⟨h.line, h.gap, h.txNow, h.txNext, h.linkFrame⟩

theorem lineKept_complete {x : JobStep} (hx : x ≠ .raise .linkFrame) (s : State) : LineKept s (x.complete s) :=
  (lineKept_act hx s).withStore _

theorem lineKept_startUpStep {x : JobStep} (hx : x ≠ .raise .linkFrame) (trouble : StartUpTrouble) (b : StartingUp) :
    LineKept b.state (startUpStep trouble b x).state := by
  have hdone := lineKept_complete hx b.state
  unfold startUpStep
  split
  · exact .refl _
  · split
    · exact hdone
    · split
      · exact hdone
      · split
        · exact ((lineKept_lose x b.state).withStore _).trans (lineKept_raiseCond (k := .nvWriteFailed) nofun _)
        · exact hdone
      · split
        · exact (LineKept.refl _).withStore _
        · exact hdone

theorem lineKept_foldl {α : Type} {f : StartingUp → α → StartingUp} {l : List α}
    (h : ∀ b, ∀ x ∈ l, LineKept b.state (f b x).state) (b : StartingUp) : LineKept b.state (l.foldl f b).state :=
  List.foldlRecOn (motive := fun b' : StartingUp => LineKept b.state b'.state) l f (.refl _) fun b' hb x hx =>
    hb.trans (h b' x hx)

/-- What a step brings with it raises nothing itself. -/
theorem follow_ne_raise {x y : JobStep} (hy : y ∈ x.follow s) (k : Condition) : y ≠ .raise k := by
  rintro rfl
  cases x with
  | action c a => cases a <;> simp [JobStep.follow] at hy
  | _ => simp [JobStep.follow] at hy

theorem lineKept_startUpSteps {l : List JobStep} (hl : .raise .linkFrame ∉ l) (trouble : StartUpTrouble)
    (b : StartingUp) : LineKept b.state (startUpSteps trouble l b).state := by
  refine lineKept_foldl (fun b x hx => lineKept_foldl (fun b y hy => ?_) b) b
  refine lineKept_startUpStep ?_ trouble b
  rcases List.mem_cons.1 hy with rfl | hy
  · exact fun h => hl (h ▸ hx)
  · exact follow_ne_raise hy _

theorem lineKept_finishingWork (marked good : Bool) (trouble : StartUpTrouble) (b : StartingUp) :
    LineKept b.state (finishingWork marked good trouble b).1.state := by
  have hrevoked : LineKept b.state (finishRevocations trouble b).state :=
    (LineKept.mk rfl rfl rfl rfl rfl : LineKept b.state
      { b.state with keys := b.state.keys.map (KeySlot.unlessRevoked b.state.revoked) }).trans
      (lineKept_startUpSteps (by simp) trouble
        { b with state := { b.state with keys := b.state.keys.map (KeySlot.unlessRevoked b.state.revoked) } })
  have howner (b : StartingUp) : LineKept b.state (finishOwnerReset marked trouble b).state := by
    unfold finishOwnerReset
    split
    · exact lineKept_startUpSteps (by simp [eraseSteps]) trouble b
    · exact .refl _
  have hcount (b : StartingUp) : LineKept b.state (countTheStart good trouble b).state := by
    unfold countTheStart
    split
    · exact lineKept_startUpSteps (by simp) trouble b
    · exact .refl _
  have hdeferred (b : StartingUp) : LineKept b.state (finishDeferred trouble b).state := by
    refine lineKept_foldl (fun b c _ => lineKept_startUpSteps ?_ trouble b) b
    unfold deferredSteps
    split
    · split <;> simp
    · exact List.not_mem_nil
  have haccount (b : StartingUp) : LineKept b.state (accountTrial trouble b).1.state := by
    unfold accountTrial
    split
    · exact .refl _
    next c r _ =>
      refine lineKept_startUpSteps ?_ trouble b
      have hsteps : JobStep.raise .linkFrame ∉ (accountSteps c r).1 := by
        unfold accountSteps
        split <;> simp
      rw [List.mem_append, not_or]
      refine ⟨hsteps, ?_⟩
      split <;> simp
  have hmarked := hrevoked.trans (howner (finishRevocations trouble b))
  have hcounted := hmarked.trans (hcount (finishOwnerReset marked trouble (finishRevocations trouble b)))
  have hfinished := hcounted.trans (hdeferred
    (countTheStart good trouble (finishOwnerReset marked trouble (finishRevocations trouble b))))
  rw [finishingWork]
  exact hfinished.trans (haccount _)

/-- What start-up's steps keep of the line interface, the part before the end of start-up keeps. -/
theorem lineKept_cameTo {pending : List Instr} {store : Store} {entropy : Nat} {r : StartingUp × Bool}
    (h : LineKept (State.blank pending .off store entropy) r.1.state) :
    ∃ store', LineKept (State.blank pending .off store' entropy) (cameTo pending entropy r) := by
  unfold cameTo
  split
  · exact ⟨_, .refl _⟩
  · exact ⟨store, h.line, h.gap, h.txNow, h.txNext, h.linkFrame⟩

theorem lineKept_loadStore (bad : List RecordId) (s : State) : LineKept s (loadStore bad s) := by
  refine ⟨rfl, rfl, rfl, rfl, ?_⟩
  simp only [loadStore, raiseIf]
  split
  · exact Tbl.get_set_ne _ _ (show (0 : Fin 11) ≠ 10 by decide)
  · rfl

theorem lineKept_startUp {store : Store} (bad : List RecordId) (trouble : StartUpTrouble)
    (h : LineKept (State.blank s.pending .off store s.entropy) s) :
    ∃ store', LineKept (State.blank s.pending .off store' s.entropy) (startUp bad trouble s) := by
  rw [startUp_works]
  generalize (s.store.resetMark && !bad.contains .ownerResetMark) = marked, (!bad.contains .partResetCount) = good
  have hwork := lineKept_finishingWork marked good trouble (smooth (loadStore bad s) 0)
  generalize finishingWork marked good trouble (smooth (loadStore bad s) 0) = r at hwork ⊢
  have hloaded : LineKept s r.1.state := (lineKept_loadStore bad s).trans hwork
  exact lineKept_cameTo (h.trans hloaded)

/-- A part reset leaves the line interface IGNORING, with nothing to send and LINK_FRAME not raised. -/
theorem lineKept_partReset (input : StartUpInput) (s : State) :
    (partReset input s).line = .ignoring ∧ (partReset input s).gap = false ∧ (partReset input s).txNow = none
      ∧ (partReset input s).txNext = none ∧ (partReset input s).conditions.get 0 = none := by
  unfold partReset
  dsimp only
  generalize (if s.power = .off then s.store else storeAfterLoss input.landed s) = store
  obtain ⟨store', h⟩ := lineKept_startUp (s := State.blank s.pending (.startUp false) store s.entropy) (store := store)
    input.bad input.trouble ⟨rfl, rfl, rfl, rfl, rfl⟩
  exact ⟨h.line, h.gap, h.txNow, h.txNext, h.linkFrame.trans (Tbl.get_replicate ..)⟩

theorem lineKept_startUpEnd (senseLow : Bool) (s : State) :
    ∃ t, exec (.startUpEnd senseLow) s = .next t
      ∧ t.line = s.line ∧ t.gap = s.gap ∧ t.txNow = s.txNow ∧ t.txNext = s.txNext := by
  change ∃ t, execStartUpEnd senseLow s = .next t ∧ _
  unfold execStartUpEnd
  split
  case h_1 due _ => cases due <;> exact ⟨_, rfl, rfl, rfl, rfl, rfl⟩
  all_goals exact ⟨s, rfl, rfl, rfl, rfl, rfl⟩

/-- Settles O50: the table of characters line by line, start-up, and the CRC. -/
theorem lineFollowsItsTable : Obligations.LineFollowsItsTable := by
  refine ⟨fun s hp => ?_, fun value kind s hp => ⟨?_, fun c hc => ?_⟩,
    fun input s => ⟨_, rfl, lineKept_partReset input s⟩, lineKept_startUpEnd, crc16_checkText, crc16_withCrc⟩
  · intro discarded
    refine ⟨fun st value h => ?_, fun value h => ⟨fun hl => ?_, fun hl => ?_⟩, fun value hl => ?_,
      fun st value hl => ?_, fun st chars value hl _ => ?_,
      fun c body hc hb hw => exec_frame_discarded hp hc hb hw, fun kind => ⟨fun hl => ?_, fun hl => ?_⟩,
      fun item hitem => ?_⟩
    · rw [exec_addressCharacter hp, addressCharacter_own h]
    · rw [exec_addressCharacter hp, addressCharacter_other h, if_pos hl]
    · rw [exec_addressCharacter hp, addressCharacter_other h, if_neg hl]
      rfl
    · rw [exec_dataCharacter hp, dataCharacter_ignored hl]
    · rw [exec_dataCharacter hp, dataCharacter_selected hl, assemble_goesOn (.inl (by simp))]
    · intro now
      refine ⟨fun h => ?_, fun h4 hcap => ?_, fun h4 hlen hcrc => ?_, fun hcap hlen hcrc => ⟨?_, fun hw => ?_⟩⟩
      all_goals rw [exec_dataCharacter hp, dataCharacter_assembling hl]
      · rw [assemble_goesOn h]
      · rw [assemble_tooLong h4 hcap]
      · rw [assemble_ends h4 hlen, endFrame_mismatch hcrc]
      · rw [assemble_ends (by omega) hlen, endFrame_correct hcrc hcap, exec_ofFrame, whenOn_on hp]
        rfl
      · have hbody : ((now.drop 4).take (nat16At now 2)).length ≤ Config.bodyCap :=
          (List.length_take_le _ _).trans hcap
        rw [assemble_ends (by omega) hlen, endFrame_correct hcrc hcap, frameArrives_discarded hbody hw]
        rfl
    · refine (whenOn_on (f := badCharacter) hp).trans ?_
      rw [badCharacter, if_pos hl]
      rfl
    · refine (whenOn_on (f := badCharacter) hp).trans ?_
      rw [badCharacter, if_neg hl, frameBad_eq]
    · refine (whenOn_on (f := itemEnds) hp).trans ?_
      rw [itemEnds, hitem]
      rfl
  · simp only [List.forall_mem_cons, List.not_mem_nil, false_imp_iff, implies_true, and_true]
    exact ⟨whenOn_off (f := addressCharacter value) hp, whenOn_off (f := dataCharacter value) hp,
      whenOn_off (f := badCharacter) hp, whenOn_off (f := itemEnds) hp⟩
  · obtain ⟨st, code, req, flags, body, hexec⟩ := exec_of_isFrame s hc
    rw [hexec, whenOn_off hp]

/-! ### A frame character by character (R183, R185) -/

section Frame

variable {st : Station} {code flags : Byte} {body : List Byte}

theorem execAll_next {c : Instr} (rest : List Instr) (h : exec c s = .next t) :
    execAll (c :: rest) s = execAll rest t := by
  rw [execAll, h]

/-- The line interface with the characters of a frame so far. -/
def lineWith (line : LineState) (s : State) : State := { s with line, gap := true }

/-- The level of ATTN does not go by the line interface. -/
theorem recomputeAttn_lineWith (h : AttnLaw s) (line : LineState) :
    recomputeAttn (lineWith line s) = lineWith line s := by
  change { lineWith line s with attn := attnLevel s } = _
  rw [← h]
  rfl

/-- A character within a frame is added to it. -/
theorem exec_character_goesOn (hp : s.power = .on) (ha : AttnLaw s) {chars : List Byte} {value : Byte} {line : LineState}
    (hline : line = .selected st ∧ chars = [] ∨ line = .assembling st chars)
    (h : (chars ++ [value]).length < 4 ∨ 4 ≤ (chars ++ [value]).length ∧ nat16At (chars ++ [value]) 2 ≤ 1100
      ∧ (chars ++ [value]).length < nat16At (chars ++ [value]) 2 + 6) :
    exec (.dataCharacter value) (lineWith line s) = .next (lineWith (.assembling st (chars ++ [value])) s) := by
  have hassemble : dataCharacter value (lineWith line s) = assemble st (chars ++ [value]) (lineWith line s) := by
    rcases hline with ⟨rfl, rfl⟩ | rfl
    · exact dataCharacter_selected rfl
    · exact dataCharacter_assembling rfl
  rw [exec_dataCharacter (s := lineWith line s) hp, hassemble, assemble_goesOn h]
  exact congrArg Host.Outcome.next (recomputeAttn_lineWith ha (.assembling st (chars ++ [value])))

/-- The length bytes of a frame. -/
theorem nat16At_header (code flags : Byte) {n : Nat} (hn : n < 65536) (rest : List Byte) :
    nat16At (code :: flags :: be16 n ++ rest) 2 = n := beNat_be16 hn

/-- The number in the last two bytes of a string. -/
theorem nat16At_last (bytes : List Byte) {n : Nat} (hn : n < 65536) : nat16At (bytes ++ be16 n) bytes.length = n := by
  have hbyte (i : Nat) : byteAt (bytes ++ be16 n) (bytes.length + i) = byteAt (be16 n) i := by
    simp only [byteAt, List.getD_append_right _ _ _ _ (Nat.le_add_right _ _), Nat.add_sub_cancel_left]
  have hfirst := hbyte 0
  rw [Nat.add_zero] at hfirst
  rw [nat16At, hfirst, hbyte 1]
  exact beNat_be16 hn

/-- The characters of a frame after its fourth, one after the other, are the frame's command. -/
theorem execAll_rest (hp : s.power = .on) (ha : AttnLaw s) (hb : body.length ≤ Config.bodyCap) :
    ∀ (rest done : List Byte), 4 ≤ done.length → rest ≠ [] → done ++ rest = requestFrame code flags body →
      execAll (rest.map .dataCharacter) (lineWith (.assembling st done) s)
        = exec (Instr.ofFrame st code flags body) s
  | [], _, _, hne, _ => absurd rfl hne
  | value :: rest, done, hdone, _, hframe => by
    have hcap : Config.bodyCap = 1100 := rfl
    have hsize : body.length < 65536 := by omega
    have hsplit : (done ++ [value]) ++ rest = requestFrame code flags body := by simpa using hframe
    have hlen : (done ++ [value]).length + rest.length = body.length + 6 := by
      have := congrArg List.length hsplit
      simp only [requestFrame, withCrc, be16, List.length_append, List.length_cons, List.length_nil] at this ⊢
      omega
    have hheader : nat16At (done ++ [value]) 2 = body.length := by
      obtain ⟨a, b, c, d, tail, hcons⟩ : ∃ a b c d tail, done ++ [value] = a :: b :: c :: d :: tail := by
        match done, hdone with
        | a :: b :: c :: d :: tail, _ => exact ⟨a, b, c, d, tail ++ [value], rfl⟩
      have hwhole : nat16At ((done ++ [value]) ++ rest) 2 = body.length := by
        rw [hsplit, requestFrame, withCrc, List.append_assoc]
        exact nat16At_header code flags hsize _
      rw [hcons] at hwhole ⊢
      exact hwhole
    rw [List.map_cons]
    by_cases hend : rest = []
    · subst hend
      have hfull : done ++ [value] = requestFrame code flags body := by simpa using hsplit
      have hprefix : (code :: flags :: be16 body.length ++ body).length = body.length + 4 := by simp [be16]
      have hcrc : nat16At (done ++ [value]) (body.length + 4)
          = (crc16 ((done ++ [value]).take (body.length + 4))).toNat := by
        rw [hfull, requestFrame, withCrc, ← hprefix, List.take_left]
        exact nat16At_last _ (crc16 _).isLt
      have hbody : ((done ++ [value]).drop 4).take body.length = body := by
        rw [hfull]
        exact List.take_left
      have hexec : exec (.dataCharacter value) (lineWith (.assembling st done) s)
          = exec (Instr.ofFrame st code flags body) s := by
        rw [exec_dataCharacter (s := lineWith (.assembling st done) s) hp, dataCharacter_assembling (st := st) (chars := done) rfl,
          assemble_ends (by rw [List.length_append]; exact Nat.lt_succ_of_le hdone) (by rw [hheader]; exact hlen),
          endFrame_correct (by rw [hheader]; exact hcrc) (by rw [hheader]; exact hb), hheader, hbody, hfull,
          exec_ofFrame, whenOn_on hp, frameArrives, frameArrives, if_neg (Nat.not_lt.2 hb), if_neg (Nat.not_lt.2 hb)]
        rfl
      rw [execAll, hexec, exec_ofFrame, whenOn_on hp]
      rfl
    · have hpos := List.length_pos_of_ne_nil hend
      have hgoes : exec (.dataCharacter value) (lineWith (.assembling st done) s)
          = .next (lineWith (.assembling st (done ++ [value])) s) :=
        exec_character_goesOn hp ha (.inr rfl) (.inr ⟨by simp; omega, by omega, by omega⟩)
      rw [execAll_next _ hgoes]
      exact execAll_rest hp ha hb rest (done ++ [value]) (by simp; omega) hend hsplit

/-- Settles O51: the address, the four characters before the body, and the rest of the frame. -/
theorem frameByCharactersIsTheCommand : Obligations.FrameByCharactersIsTheCommand := by
  intro st value code flags body s hp ha hv hb
  have hcap : Config.bodyCap = 1100 := rfl
  have haddress : exec (.addressCharacter value) s = .next (lineWith (.selected st) s) := by
    rw [exec_addressCharacter hp, addressCharacter_own hv]
    exact congrArg Host.Outcome.next (recomputeAttn_lineWith ha (.selected st))
  have hlength : nat16At [code, flags, byte (body.length / 256), byte body.length] 2 = body.length :=
    beNat_be16 (n := body.length) (by omega)
  have hfirst : exec (.dataCharacter code) (lineWith (.selected st) s) = .next (lineWith (.assembling st [code]) s) :=
    exec_character_goesOn hp ha (.inl ⟨rfl, rfl⟩) (.inl (by simp))
  have hsecond : exec (.dataCharacter flags) (lineWith (.assembling st [code]) s)
      = .next (lineWith (.assembling st [code, flags]) s) :=
    exec_character_goesOn hp ha (.inr rfl) (.inl (by simp))
  have hthird : exec (.dataCharacter (byte (body.length / 256))) (lineWith (.assembling st [code, flags]) s)
      = .next (lineWith (.assembling st [code, flags, byte (body.length / 256)]) s) :=
    exec_character_goesOn hp ha (.inr rfl) (.inl (by simp))
  have hfourth : exec (.dataCharacter (byte body.length))
        (lineWith (.assembling st [code, flags, byte (body.length / 256)]) s)
      = .next (lineWith (.assembling st [code, flags, byte (body.length / 256), byte body.length]) s) :=
    exec_character_goesOn hp ha (.inr rfl)
      (.inr ⟨by simp, hlength.trans_le hb, (show 4 < body.length + 6 by omega).trans_eq (congrArg (· + 6) hlength.symm)⟩)
  obtain ⟨rest, hframe, hne⟩ : ∃ rest, requestFrame code flags body
      = [code, flags, byte (body.length / 256), byte body.length] ++ rest ∧ rest ≠ [] :=
    ⟨body ++ be16 (crc16 (code :: flags :: be16 body.length ++ body)).toNat,
      by simp [requestFrame, withCrc, be16], by simp [be16]⟩
  rw [hframe, execAll_next _ haddress]
  change execAll (.dataCharacter code :: .dataCharacter flags :: .dataCharacter (byte (body.length / 256))
    :: .dataCharacter (byte body.length) :: rest.map .dataCharacter) _ = _
  rw [execAll_next _ hfirst, execAll_next _ hsecond, execAll_next _ hthird, execAll_next _ hfourth]
  exact execAll_rest hp ha hb rest _ (by simp) hne hframe.symm

end Frame

end Sys2Proof.Machine
end

section
/-! PROOFS. The part right after reset, and the shipped part's first start-up (O2). -/

namespace Sys2Proof.Machine

open Sys2Proof

/-- The slots after reset hold the keys of shipment (R5). -/
theorem reset_key (slot : Slot) : State.reset.keys.get slot = (shippedKey slot).elim .empty .active := by
  refine (Tbl.get_ofFn ..).trans ?_
  cases shippedKey slot <;> rfl

theorem shippedKey_of_le {slot : Slot} (h : 4 ≤ slot.val) : shippedKey slot = none := by
  have h0 : slot.val ≠ 0 := by omega
  have h1 : slot.val ≠ 1 := by omega
  have h2 : slot.val ≠ 2 := by omega
  have h3 : slot.val ≠ 3 := by omega
  simp only [shippedKey, if_neg h0, if_neg h1, if_neg h2, if_neg h3]

theorem reset_key_of_le {slot : Slot} (h : 4 ≤ slot.val) : State.reset.keys.get slot = .empty := by
  rw [reset_key, shippedKey_of_le h]
  rfl

/-- The four factory keys (R5). -/
theorem shippedKey_of_lt {slot : Slot} (h : slot.val < 4) :
    slot = 0 ∧ shippedKey slot = some (factorySigning 0 0x02 0x0F)
      ∨ slot = 1 ∧ shippedKey slot = some (factorySigning 1 0x01 0x0C)
      ∨ slot = 2 ∧ shippedKey slot = some (factoryVerifying 2)
      ∨ slot = 3 ∧ shippedKey slot = some (factoryVerifying 3) := by
  obtain ⟨n, hn⟩ := slot
  have hcases : n = 0 ∨ n = 1 ∨ n = 2 ∨ n = 3 := by
    have : n < 4 := h
    omega
  rcases hcases with rfl | rfl | rfl | rfl
  · exact .inl ⟨rfl, rfl⟩
  · exact .inr (.inl ⟨rfl, rfl⟩)
  · exact .inr (.inr (.inl ⟨rfl, rfl⟩))
  · exact .inr (.inr (.inr ⟨rfl, rfl⟩))

/-- The first start-up of a shipped part, before its end, has loaded the store and counted the start. -/
theorem upOf_shipped :
    recomputeAttn (startIf false (openPart false (upOf [] (State.blank [] .off Store.shipped 0)))) = State.reset := by
  have hattn : AttnLaw State.reset := resetMeetsTheLaws.1
  have hkept (k : Option KeyRecord) : keptOf [] k = k := by cases k <;> simp [keptOf]
  have hkeys : (upOf [] (State.blank [] .off Store.shipped 0)).keys = State.reset.keys := Tbl.ext_get fun slot => by
    rw [reset_key]
    refine (Tbl.get_ofFn ..).trans ?_
    rw [if_neg List.not_mem_nil]
    refine congrArg (fun k : Option KeyRecord => k.elim KeySlot.empty .active) ((hkept _).trans ?_)
    exact Tbl.get_ofFn ..
  have hcreds : (upOf [] (State.blank [] .off Store.shipped 0)).creds = State.reset.creds := Tbl.ext_get fun id => by
    refine (Tbl.get_ofFn ..).trans ?_
    rw [if_neg List.not_mem_nil]
    exact (congrArg upCredential (Tbl.get_replicate ..)).trans (Tbl.get_replicate ..).symm
  have hclasses : (upOf [] (State.blank [] .off Store.shipped 0)).classes = State.reset.classes :=
    Tbl.ext_get fun c => by
      refine (Tbl.get_ofFn ..).trans ?_
      rw [if_neg List.not_mem_nil]
      exact (congrArg some (Tbl.get_ofFn ..)).trans (Tbl.get_ofFn (fun cls => some (shippedClass cls)) c).symm
  have hconditions : (upOf [] (State.blank [] .off Store.shipped 0)).conditions = State.reset.conditions :=
    Tbl.ext_get fun k => by
      refine (Tbl.get_ofFn ..).trans ?_
      rw [if_neg (by simp)]
      exact (Tbl.get_replicate ..).symm
  have hstored : (upOf [] (State.blank [] .off Store.shipped 0)).store = State.reset.store := by
    have hstoredKeys : (Tbl.ofFn fun slot => if RecordId.keySlot slot ∈ ([] : List RecordId)
        then Store.shipped.keys.get slot else keptOf [] (Store.shipped.keys.get slot)) = Store.shipped.keys :=
      Tbl.ext_get fun slot => by rw [Tbl.get_ofFn, if_neg List.not_mem_nil, hkept]
    exact congrArg (fun keys => { Store.shipped with partResets := 1, keys }) hstoredKeys
  have hopen : openPart false (upOf [] (State.blank [] .off Store.shipped 0)) = State.reset := by
    generalize hu : upOf [] (State.blank [] .off Store.shipped 0) = u at hkeys hcreds hclasses hconditions hstored
    have hrest : u = { State.blank [] (.startUp false) u.store 0 with
        keys := u.keys, creds := u.creds, classes := u.classes, conditions := u.conditions, partResets := 1,
        certificate := some Store.shipped.certificate } := by
      subst hu
      rfl
    rw [hrest, hkeys, hcreds, hclasses, hconditions, hstored]
    rfl
  have hstart : startIf false (openPart false (upOf [] (State.blank [] .off Store.shipped 0))) = State.reset := hopen
  rw [hstart]
  change { State.reset with attn := attnLevel State.reset } = _
  rw [← hattn]

/-- Settles O2: the fields of the state after reset, its keys, and the first start-up of a shipped part. -/
theorem resetLeavesShippedPart : Obligations.ResetLeavesShippedPart := by
  refine ⟨⟨fun st => ?_, rfl, rfl, rfl, rfl, rfl, rfl, fun c => Tbl.get_replicate .., rfl, rfl, rfl, rfl, rfl, rfl,
    fun i => Tbl.get_replicate .., rfl, rfl, fun id => Tbl.get_replicate .., fun k => Tbl.get_replicate .., rfl,
    fun c => ⟨shippedClass c, Tbl.get_ofFn .., rfl, rfl, rfl, rfl, _, rfl, rfl, rfl⟩,
    fun slot h => reset_key_of_le h⟩, fun slot => ?_, ?_⟩
  · refine (Tbl.get_ofFn ..).trans ?_
    by_cases h : st = 0
    · subst h; rfl
    · have hv : st.val ≠ 0 := fun hv => h (Fin.ext hv)
      simp only [StationRec.waiting, if_neg h, if_neg hv]
  · split
    next h => exact reset_key_of_le h
    next h =>
      rw [reset_key]
      rcases shippedKey_of_lt (Nat.lt_of_not_le h) with ⟨rfl, hk⟩ | ⟨rfl, hk⟩ | ⟨rfl, hk⟩ | ⟨rfl, hk⟩
      all_goals rw [hk]
      · exact ⟨_, rfl, rfl, rfl, rfl, rfl, rfl, rfl, fun _ => ⟨rfl, rfl, rfl⟩,
          fun h => absurd h (by decide), fun h => absurd h (by decide)⟩
      · exact ⟨_, rfl, rfl, rfl, rfl, rfl, rfl, rfl, fun h => absurd h (by decide),
          fun _ => ⟨rfl, rfl, rfl⟩, fun h => absurd h (by decide)⟩
      · exact ⟨_, rfl, rfl, rfl, rfl, rfl, rfl, rfl, fun h => absurd h (by decide),
          fun h => absurd h (by decide), fun _ => ⟨rfl, rfl, rfl⟩⟩
      · exact ⟨_, rfl, rfl, rfl, rfl, rfl, rfl, rfl, fun h => absurd h (by decide),
          fun h => absurd h (by decide), fun _ => ⟨rfl, rfl, rfl⟩⟩
  · have hrest (c : ClassNo) : (Store.shipped.classes.get c).AtRest := by
      rw [show Store.shipped.classes.get c = shippedClass c from Tbl.get_ofFn ..]
      exact ⟨rfl, rfl⟩
    rw [execAll, exec_partReset_upOf (s := State.blank [] .off Store.shipped 0) rfl (.inl rfl) fun c _ => hrest c]
    dsimp only
    rw [execAll, exec_startUpEnd (due := false) rfl]
    exact congrArg Host.Outcome.next upOf_shipped

end Sys2Proof.Machine
end
